-- ==== Sys2Proof/Word.lean ====
section
/-! DEFINITION. The bit widths the manual gives its numbers. A tick and a slot index wrap at 32 bits (R8, R60); a tag,
a group id, an account class, a sequence number and a launch order have 16 bits (R18, R68, R78); a record on the
stream link is a run of bytes (R175). Counts of sheets, records and entries are plain whole numbers (Units). -/

namespace Sys2Proof

/-- One byte of a record on the stream link, or one reading of the thickness gauge. -/
abbrev Byte := BitVec 8

/-- A tag, a group id, an account class, a sequence number or a launch order. -/
abbrev Half := BitVec 16

/-- A value of the tick counter (R8). -/
abbrev Tick := BitVec 32

end Sys2Proof
end

