-- ==== Sys2Proof/Syntax.lean ====
section
/-! DEFINITION. The commands the part takes: one constructor of `Instr` for each row of spec/opcode_table.json, with
the operands that the rules and the record layouts give it (the table itself gives no row any bits). -/

namespace Sys2Proof

/-- The four trays, and with them their staging stops ST1 to ST4 (Table 0-3). -/
inductive TrayId where
  | t1 | t2 | t3 | t4
  deriving DecidableEq, Repr

/-- The six stacker bins (Table 0-6). -/
inductive BinId where
  | b1 | b2 | b3 | b4 | b5 | b6
  deriving DecidableEq, Repr

/-- The eight path sensors, in the order R85 and R169 name them. -/
inductive PathSensor where
  | mg | rg | tr | fx | dl | xs | ac | pg
  deriving DecidableEq, Repr

/-- A station that carries a sensor: a staging stop or a path sensor (1.1). -/
inductive Sensor where
  | st (t : TrayId)
  | path (q : PathSensor)
  deriving DecidableEq, Repr

/-- The two gates (Table 0-3). -/
inductive Gate where
  | gd | gx
  deriving DecidableEq, Repr

/-- A side of a sheet (Chapter 6). -/
inductive Side where
  | a | b
  deriving DecidableEq, Repr

/-- One pass or two (Table 2-1). -/
inductive Plex where
  | simplex | duplex
  deriving DecidableEq, Repr

/-- The two paper sensors of a tray (3.2). -/
inductive PaperSensor where
  | low | out
  deriving DecidableEq, Repr

/-- Why the receive framer drops a record that never reaches a queue (R175); the third cause, overflow, arises within
the queued commands themselves. -/
inductive DropCause where
  | badCheck | malformed
  deriving DecidableEq, Repr

/-- One value for each tray. -/
structure PerTray (α : Type) where
  t1 : α
  t2 : α
  t3 : α
  t4 : α
  deriving DecidableEq, Repr

def PerTray.get {α : Type} (v : PerTray α) : TrayId → α
  | .t1 => v.t1 | .t2 => v.t2 | .t3 => v.t3 | .t4 => v.t4

def PerTray.set {α : Type} (v : PerTray α) (t : TrayId) (x : α) : PerTray α :=
  match t with
  | .t1 => { v with t1 := x } | .t2 => { v with t2 := x } | .t3 => { v with t3 := x } | .t4 => { v with t4 := x }

def PerTray.map {α β : Type} (f : α → β) (v : PerTray α) : PerTray β :=
  ⟨f v.t1, f v.t2, f v.t3, f v.t4⟩

def PerTray.all {α : Type} (x : α) : PerTray α := ⟨x, x, x, x⟩

def TrayId.list : List TrayId := [.t1, .t2, .t3, .t4]

/-- One value for each stacker bin. -/
structure PerBin (α : Type) where
  b1 : α
  b2 : α
  b3 : α
  b4 : α
  b5 : α
  b6 : α
  deriving DecidableEq, Repr

def PerBin.get {α : Type} (v : PerBin α) : BinId → α
  | .b1 => v.b1 | .b2 => v.b2 | .b3 => v.b3 | .b4 => v.b4 | .b5 => v.b5 | .b6 => v.b6

def PerBin.set {α : Type} (v : PerBin α) (b : BinId) (x : α) : PerBin α :=
  match b with
  | .b1 => { v with b1 := x } | .b2 => { v with b2 := x } | .b3 => { v with b3 := x }
  | .b4 => { v with b4 := x } | .b5 => { v with b5 := x } | .b6 => { v with b6 := x }

def PerBin.all {α : Type} (x : α) : PerBin α := ⟨x, x, x, x, x, x⟩

def BinId.list : List BinId := [.b1, .b2, .b3, .b4, .b5, .b6]

/-- One level for each path sensor; true is covered. -/
structure PathLevels where
  mg : Bool
  rg : Bool
  tr : Bool
  fx : Bool
  dl : Bool
  xs : Bool
  ac : Bool
  pg : Bool
  deriving DecidableEq, Repr

def PathLevels.get (v : PathLevels) : PathSensor → Bool
  | .mg => v.mg | .rg => v.rg | .tr => v.tr | .fx => v.fx | .dl => v.dl | .xs => v.xs | .ac => v.ac | .pg => v.pg

def PathLevels.set (v : PathLevels) (q : PathSensor) (x : Bool) : PathLevels :=
  match q with
  | .mg => { v with mg := x } | .rg => { v with rg := x } | .tr => { v with tr := x } | .fx => { v with fx := x }
  | .dl => { v with dl := x } | .xs => { v with xs := x } | .ac => { v with ac := x } | .pg => { v with pg := x }

def PathLevels.all (x : Bool) : PathLevels := ⟨x, x, x, x, x, x, x, x⟩

def PathSensor.list : List PathSensor := [.mg, .rg, .tr, .fx, .dl, .xs, .ac, .pg]

/-- The lines of one tray on the mechanics interface (3.2). -/
structure TrayLines where
  drawerOpen : Bool
  paperLow : Bool
  paperOut : Bool
  deriving DecidableEq, Repr

/-- The lines of one stacker bin on the mechanics interface (8.5). -/
structure BinLines where
  doorOpen : Bool
  full : Bool
  deriving DecidableEq, Repr

/-- The levels of every line that a reset reads as it stands (R1, R59, R150, R160, R171, R174), and of the
return-ready line (R191). -/
structure Lines where
  staging : PerTray Bool
  path : PathLevels
  trays : PerTray TrayLines
  bins : PerBin BinLines
  purgeDoorOpen : Bool
  coverOpen : Bool
  powerWarn : Bool
  returnReady : Bool
  deriving DecidableEq, Repr

/-- Every line at rest: no paper over a sensor, every door and drawer closed, paper in every tray. -/
def Lines.quiet : Lines :=
  { staging := .all false, path := .all false, trays := .all ⟨false, false, false⟩, bins := .all ⟨false, false⟩,
    purgeDoorOpen := false, coverOpen := false, powerWarn := false, returnReady := false }

/-- The two fields that only an order marked FIRST carries (R18). -/
structure FirstFields where
  declared : Byte
  account : Half
  deriving DecidableEq, Repr

/-- A SHEET ORDER (Table 2-1, Table 11-2). The FIRST mark is set exactly when `first` is present (R192). -/
structure SheetOrder where
  tag : Half
  group : Half
  first : Option FirstFields
  last : Bool
  plex : Plex
  imageA : Bool
  imageB : Bool
  media : BitVec 4
  deriving DecidableEq, Repr

/-- A LOAD as received: the header of Table 11-3 and the entry bytes behind it. -/
structure LoadRecord where
  table : Byte
  first : Byte
  count : Byte
  body : List Byte
  deriving DecidableEq, Repr

/-- The commands of spec/opcode_table.json, in the table's order. A deadline row names the holder of the deadline
(R103: the outcome of two deadlines at one tick depends on which is taken first, so the command says which). -/
inductive Instr where
  | powerOnReset (lines : Lines)
  | controllerReset (lines : Lines)
  | sheetOrder (o : SheetOrder)
  | stop
  | purge
  | load (l : LoadRecord)
  | start
  | halt
  | clearFault
  | binEmptied (number : Byte)
  | query
  | droppedRecord (cause : DropCause)
  | groupAdmission
  | brokenFromStart
  | furtherOrderPick
  | discardedAsUnfed
  | orphan
  | stopTaken
  | purgeTaken
  | liveLoadTaken
  | lockedLoadTaken
  | pendingLoadApplied
  | stagingCoveredEdge (t : TrayId)
  | stagingUncoveredEdge (t : TrayId)
  | pathCoveredEdge (q : PathSensor)
  | pathUncoveredEdge (q : PathSensor)
  | drawerOpening (t : TrayId)
  | drawerClosing (t : TrayId)
  | paperSensorEdge (t : TrayId) (which : PaperSensor) (active : Bool)
  | pickDeadline (t : TrayId)
  | stallEnd
  | pitchExpiry
  | cadencePulse
  | cadenceLoss
  | lateLimitReached (seq : Half)
  | stall (seq : Half) (station : Sensor)
  | gateRelease (g : Gate) (seq : Half)
  | conversionStart (seq : Half)
  | conversionCompletion (value : Byte)
  | readyAnswer (seq : Half) (side : Side)
  | declineAnswer (seq : Half) (side : Side)
  | parked
  | parkDeadline
  | setEjectStart
  | ejectDone
  | ejectTimeout
  | binDoorOpening (b : BinId)
  | binDoorClosing (b : BinId)
  | fullSensorEdge (b : BinId) (active : Bool)
  | purgeDoorOpening
  | purgeDoorClosing
  | coverOpening
  | coverClosing
  | powerWarnAsserted
  | powerWarnCleared
  | warmupEnd
  | drainEnd
  | runoutEnd
  | runEnd
  | groupResolution
  | returnReadyAsserted
  | returnReadyCleared
  | transmissionComplete
  | startDelimiter (byte : Byte)
  deriving DecidableEq, Repr

end Sys2Proof
end

