-- ==== Sys2Proof/Decode.lean ====
section
/-! DEFINITION. The command a word spells by the bits of spec/opcode_table.json. No row of the table has a "fixed" or
a "fields" bit (spec/98_reader.md: n_rows_with_fixed 0, n_rows_with_fields 0), so no word spells a command. The bytes
of the stream link, which do spell records, are read by the receive framer in Machine/Operands.lean and
Machine/LinkRecords.lean. -/

namespace Sys2Proof

/-- The command spelled by an nbits-wide word of the table: none, since the table gives no row any bits. -/
def decodeTableWord (_nbits _w : Nat) : Option Instr := none

end Sys2Proof
end

