-- ==== Sys2Proof/Config.lean ====
section
/-! DEFINITION. What one implementation fixes: the sizes the manual gives its queues and tables, and the one value the
manual leaves open, as a constant with no body. -/

namespace Sys2Proof

/-- What the closing of a bin door is taken to mean (8.5). -/
inductive ReleaseMode where
  | onDoor | onNotice
  deriving DecidableEq, Repr, Inhabited

namespace Config

/-- Records the Order Queue holds (R178), and records the Report Queue holds (R185). -/
def queueSize : Nat := 64

/-- Entries of the Group Table (R27), and records of the Sheet Track (R79). -/
def tableSize : Nat := 16

/-- Greatest number of outstanding cues (R107), and of duplex sheets owed a second pass (R70). -/
def fourSheets : Nat := 4

/-- Longest body of a record on the link (R175). -/
def maxBody : Nat := 1020

/-- FREE VALUE (DESIGN CHOICE, notes/assumptions/12.md). The release mode under which a bin door closing acts while
the Bin Map is not loaded: R147 has the door closing act by the bin's release mode at that moment, and R139 says that
no entry, and so no release mode, is held then. The argument is a plain counter of the state, so every use is a fresh
value. -/
opaque unloadedReleaseMode : Nat → ReleaseMode

end Config

end Sys2Proof
end

