-- ==== Sys2Proof/Machine/State.lean ====
section
/-! DEFINITION. Everything the manual gives the part, as plain data, block by block (Table 0-2), with the queue of the
commands that wait. Each field's docstring names the rule that gives it. -/

namespace Sys2Proof.Machine

/-- A stop of the machine. The manual gives every command an effect in every state, so nothing raises a fault and the
type has no constructor. The part's own path, stacker and stop faults are state (Fault Capture, R162), not stops. -/
inductive Fault where
  deriving DecidableEq, Repr

/-- A command with no meaning. -/
inductive Refusal where
  /-- Raised by an arm of exec whose command has no meaning yet; no arm raises it. Safe: nothing is claimed of it. -/
  | notModelled (mnemonic : String)
  deriving DecidableEq, Repr

/-! ### Names -/

/-- A station or gate a fault is attached to (Table 11-10). -/
inductive Station where
  | st (t : TrayId)
  | path (q : PathSensor)
  | gd | gx | dp
  deriving DecidableEq, Repr

/-- Transport states (Table 9-2). -/
inductive TransportState where
  | halted | standby | warmup | running | draining | jammed | recovery | runout | safe
  deriving DecidableEq, Repr

/-- Drain reasons (R157). -/
inductive DrainReason where
  | load | stop | cadence
  deriving DecidableEq, Repr

/-- Fault classes (Table 9-4). -/
inductive FaultClass where
  | path | stacker | stop
  deriving DecidableEq, Repr

/-- Fault kinds (Table 9-4). -/
inductive FaultKind where
  | late | unexpected | short | stall | doubleFeed | gateConflict | coverOpen | purgeOpen | residue
  | ejectTimeout | setCollision | operatorHalt | reset
  deriving DecidableEq, Repr

/-- Break reasons (Table 2-7). -/
inductive BreakReason where
  | count | media | overlength | sequence | truncated | purged | stream | starved | cadence | image | jam | bin | power
  deriving DecidableEq, Repr

/-- Group states (R28). -/
inductive GroupState where
  | admitting | closed | brokenOpen | brokenClosed
  deriving DecidableEq, Repr

/-- Jog policies (Table 2-3). -/
inductive JogPolicy where
  | fixed | alternate
  deriving DecidableEq, Repr

/-- Jog positions (R145). -/
inductive Jog where
  | left | right
  deriving DecidableEq, Repr

/-- Waiting reasons (R25, Table 11-7). -/
inductive WaitReason where
  | none | tray | bin | report | track | purgeRoom
  deriving DecidableEq, Repr

/-- Tray states (Table 3-3). -/
inductive TrayState where
  | ready | low | empty | opened | fault
  deriving DecidableEq, Repr

/-- Bin states (R146). -/
inductive BinState where
  | ready | full | offline
  deriving DecidableEq, Repr

/-- Positions of gate GD (R2). -/
inductive GdPosition where
  | loop | exit
  deriving DecidableEq, Repr

/-- Destinations of a sheet, positions of gate GX and exit decisions (R2, R81, R94). -/
inductive Destination where
  | stack | purge
  deriving DecidableEq, Repr

/-- Sheet record states (Table 5-2). -/
inductive SheetState where
  | picking | staged | moving | looped
  deriving DecidableEq, Repr

/-- Routes (Table 5-1). -/
inductive Route where
  | freshExit | freshLoop | second
  deriving DecidableEq, Repr

/-- Pass in progress or last made (Table 5-1). -/
inductive Pass where
  | first | second
  deriving DecidableEq, Repr

/-- Spoil reasons (Table 5-1). -/
inductive SpoilReason where
  | groupBroken | imageMiss | imageDeclined | thin
  deriving DecidableEq, Repr

/-- Cue state of one side (Table 6-2). -/
inductive CueState where
  | none | cued | ready | declined | missed
  deriving DecidableEq, Repr

/-- The five loaded tables (Table 11-3). -/
inductive TableId where
  | geometry | parameters | media | routing | binMap
  deriving DecidableEq, Repr

/-- Causes of a refused load (R4, R15, R26, R44, R140). -/
inductive LoadCause where
  | extent | incomplete | range | conflict | cross
  deriving DecidableEq, Repr

/-- The immediate controls that can be refused (R180). -/
inductive ControlKind where
  | start | halt | clearFault | binEmptied
  deriving DecidableEq, Repr

/-- The part's own name for a Group Table entry. The manual reaches an entry "through the sheet record or set that
belongs to it, never by group id" (R27); the model names it by a number no other entry of the run carries. -/
abbrev GroupKey := Nat

/-! ### Loaded tables -/

/-- The Path Geometry Table, entries in the index order of Table 1-2 (R4). -/
structure Geometry where
  entries : List Nat
  deriving DecidableEq, Repr

/-- The Parameter Set, entries in the index order of Table 1-6 (R15). -/
structure ParameterSet where
  entries : List Nat
  deriving DecidableEq, Repr

/-- An entry of the Media Table (Table 3-1). Trays are carried as their numbers, 0 for no alternate; `slots` is the
derived slot count, held only while the Parameter Set is loaded (R43). -/
structure MediaEntry where
  valid : Bool
  length : Nat
  primary : Nat
  alternate : Nat
  nominal : Nat
  slots : Option Nat
  deriving DecidableEq, Repr

/-- The Media Table (R44). -/
structure MediaTable where
  entries : List MediaEntry
  deriving DecidableEq, Repr

/-- An entry of the Routing Table (Table 2-3); `jog` is 0 for NONE and 1 for ALTERNATE. -/
structure RoutingEntry where
  valid : Bool
  value : Half
  mask : Half
  bin : Nat
  jog : Nat
  deriving DecidableEq, Repr

/-- An entry of the Bin Map, read by the index it lands on (Table 8-2, Table 11-4). Bins are carried as their
numbers, 0 for no alternate; the release mode is 0 for ON_DOOR and 1 for ON_NOTICE. -/
inductive BinMapEntry where
  | logical (primary alternate : Nat)
  | physical (capacity mode : Nat)
  | purge (capacity : Nat)
  deriving DecidableEq, Repr

/-- The Bin Map (R139). -/
structure BinMap where
  entries : List BinMapEntry
  deriving DecidableEq, Repr

/-- A locked load that has been taken and validated but not yet applied: its candidate and the table it names (10.4). -/
inductive PendingLoad where
  | geometry (candidate : List Nat)
  | parameters (candidate : List Nat)
  | media (candidate : List MediaEntry)
  deriving DecidableEq, Repr

/-- The loaded tables. `none` is "not loaded"; the Routing Table has no loaded state as a whole (R26). -/
structure Tables where
  geometry : Option Geometry
  parameters : Option ParameterSet
  media : Option MediaTable
  routing : List RoutingEntry
  binMap : Option BinMap
  deriving DecidableEq, Repr

/-! ### Path Clock (Chapter 1) -/

/-- The Path Clock: tick counter (R8), divider setting, fraction accumulator and length of the tick in progress (R6),
and the cadence watch (R12, R13). -/
structure Clock where
  tick : Tick
  period : Nat
  spdInt : Nat
  spdFrac : Nat
  fraction : Nat
  watchArmed : Bool
  watchReference : Tick
  cadenceLost : Bool
  deriving DecidableEq, Repr

/-- Current level of each sensor; true is covered (R1). -/
structure Sensors where
  staging : PerTray Bool
  path : PathLevels
  deriving DecidableEq, Repr

/-- A record for which a gate was decided, with the tick at which it leaves the list (R95). -/
structure Occupant where
  seq : Half
  release : Option Tick
  deriving DecidableEq, Repr

/-- The commanded gate positions (R2) and the occupant lists (R95). -/
structure Gates where
  gd : GdPosition
  gx : Destination
  gdOccupants : List Occupant
  gxOccupants : List Occupant
  deriving DecidableEq, Repr

/-! ### Order Planner and Group Table (Chapter 2) -/

/-- The open-group pointer (R19), the Planner's waiting reason (R25) and the reported waiting reason (R58). -/
structure Planner where
  openGroup : Option GroupKey
  waiting : WaitReason
  reported : WaitReason
  deriving DecidableEq, Repr

/-- A Group Table entry (Table 2-4). Its reserved count is the count of its allowance entry (R142). `jog` is the jog
position its set was given at its delivery (R41, R135). -/
structure Group where
  key : GroupKey
  id : Half
  firstTag : Half
  lastTag : Option Half
  declared : Nat
  bin : Option BinId
  policy : JogPolicy
  state : GroupState
  reason : Option BreakReason
  accepted : Nat
  inPath : Nat
  inSet : Nat
  delivered : Nat
  purged : Nat
  removed : Nat
  unfed : Nat
  jog : Option Jog
  deriving DecidableEq, Repr

/-- The Group Table in admission order (R27), and the next name the model gives an entry. -/
structure GroupTable where
  entries : List Group
  nextKey : GroupKey
  deriving DecidableEq, Repr

/-! ### Tray Feeders (Chapter 3) -/

/-- A Tray Feeder: its tray's state (R46) and lines (R47), the record holding its staging position (R56), an
outstanding pick request with its deadline (R50, R55), and the abandoned-request mark (R56). -/
structure Feeder where
  state : TrayState
  drawerOpen : Bool
  paperLow : Bool
  paperOut : Bool
  holder : Option Half
  request : Bool
  deadline : Option Tick
  abandoned : Bool
  deriving DecidableEq, Repr

/-! ### Launch Arbiter (Chapter 4) -/

/-- Slot index and slot count of the last exit-bound launch (Table 4-1). -/
structure ExitLaunch where
  slot : BitVec 32
  slots : Nat
  deriving DecidableEq, Repr

/-- The Launch Arbiter (Table 4-1). `expiryDue` is set between the end of the tick that brought the pitch counter to
PITCH and the taking of that pitch expiry (R9). -/
structure Arbiter where
  slotIndex : BitVec 32
  block : Nat
  launchCounter : Half
  pendingSecond : Nat
  lastExit : Option ExitLaunch
  lastSetGroup : Option GroupKey
  cadenceGroup : Option GroupKey
  pitch : Nat
  expiryDue : Bool
  deriving DecidableEq, Repr

/-! ### Sheet Track (Chapter 5) -/

/-- A lead window: next station, expected arrival E, early limit A, late limit Z (R83). -/
structure Window where
  station : PathSensor
  expected : Tick
  early : Tick
  late : Tick
  deriving DecidableEq, Repr

/-- A covered-list entry: station, lead arrival tick, short limit S, long limit G (R88). -/
structure CoverEntry where
  station : Sensor
  arrival : Tick
  short : Tick
  long : Tick
  deriving DecidableEq, Repr

/-- Gauge sampling: while SAMPLING, the values taken (their number is the conversions done) and the start ticks still
to come (R96). -/
inductive Sampling where
  | idle
  | sampling (values : List Byte) (starts : List Tick)
  | abandoned
  deriving DecidableEq, Repr

/-- A sheet record (Table 5-1). -/
structure Sheet where
  seq : Half
  tag : Half
  group : GroupKey
  media : Nat
  length : Nat
  slots : Nat
  nominal : Nat
  plex : Plex
  imageA : Bool
  imageB : Bool
  pass : Pass
  route : Option Route
  destination : Destination
  spoil : Option SpoilReason
  state : SheetState
  tray : TrayId
  attempts : Nat
  launchTick : Option Tick
  launchOrder : Option Half
  itinerary : List PathSensor
  window : Option Window
  covered : List CoverEntry
  exitDecision : Option Destination
  thickness : Option Byte
  sampling : Sampling
  cueA : CueState
  cueB : CueState
  deriving DecidableEq, Repr

/-- The Sheet Track (R79): its records in the order they were made, the seq counter (R78), the gauge, idle or busy
with a numbered conversion of one record (R97), and the sensor anomaly count (R102). -/
structure Track where
  sheets : List Sheet
  nextSeq : Half
  gauge : Option (Half × Nat)
  anomalies : Nat
  deriving DecidableEq, Repr

/-! ### Image Cue Unit, Duplex Loop (Chapters 6 and 7) -/

/-- An entry of the outstanding cue list (R107). -/
structure Cue where
  seq : Half
  side : Side
  deriving DecidableEq, Repr

/-- The Image Cue Unit (R107). -/
structure CueUnit where
  outstanding : List Cue
  late : Nat
  deriving DecidableEq, Repr

/-- State of a loop entry (R118). -/
inductive LoopState where
  | inbound | parked
  deriving DecidableEq, Repr

/-- An entry of the loop FIFO (R118). -/
structure LoopEntry where
  seq : Half
  state : LoopState
  handOver : Tick
  deadline : Option Tick
  deriving DecidableEq, Repr

/-! ### Set Accumulator and Stacker (Chapter 8) -/

/-- A sheet joined to the set (Table 8-1). -/
structure SetSheet where
  seq : Half
  tag : Half
  deriving DecidableEq, Repr

/-- Where a set is ejected (Table 8-1). -/
inductive EjectTarget where
  | bin (b : BinId)
  | purge
  deriving DecidableEq, Repr

/-- Status of an eject in flight (Table 8-1). -/
inductive EjectStatus where
  | active | expired
  deriving DecidableEq, Repr

/-- The eject in flight (Table 8-1). -/
structure Eject where
  target : EjectTarget
  jog : Jog
  count : Nat
  deadline : Option Tick
  status : EjectStatus
  deriving DecidableEq, Repr

/-- The Set Accumulator (Table 8-1). -/
structure Accumulator where
  setGroup : Option GroupKey
  sheets : List SetSheet
  eject : Option Eject
  deriving DecidableEq, Repr

/-- A physical bin (R146) with its jog position (R145). -/
structure Bin where
  stacked : Nat
  doorOpen : Bool
  full : Bool
  hold : Bool
  remembered : Bool
  jog : Jog
  state : BinState
  deriving DecidableEq, Repr

/-- An entry of the allowance list (R142). -/
structure Allowance where
  group : GroupKey
  bin : BinId
  count : Nat
  alternate : Option BinId
  deriving DecidableEq, Repr

/-- The Stacker: bins, purge bin (R149) and allowance list (R142). The purge door level is shared with Transport
Control (Table 9-1). -/
structure Stacker where
  bins : PerBin Bin
  purgeStacked : Nat
  purgeDoorOpen : Bool
  allowances : List Allowance
  deriving DecidableEq, Repr

/-! ### Transport Control (Chapter 9) -/

/-- The first-fault record (Table 9-5). -/
structure FaultRecord where
  kind : FaultKind
  station : Option Station
  tag : Option Half
  group : Option Half
  tick : Tick
  state : TransportState
  occupancy : Nat
  deriving DecidableEq, Repr

/-- Transport Control (Table 9-1). `runEndReached` records that the run end has been reached while an eject was still
in flight (R170). -/
structure Control where
  state : TransportState
  drainReason : Option DrainReason
  warmupEnd : Option Tick
  runEnd : Option Tick
  runEndReached : Bool
  sweepClass : Option FaultClass
  firstFault : Option FaultRecord
  locked : Bool
  further : Nat
  coverOpen : Bool
  powerWarn : Bool
  deriving DecidableEq, Repr

/-! ### Stream Link (Chapter 10) -/

/-- The receive framer (R175): HUNT, or RECEIVE with the kind, length, body and check bytes taken so far. -/
inductive Framer where
  | hunt
  | receive (taken : List Byte)
  deriving DecidableEq, Repr

/-- A record in the Order Queue (R178). -/
inductive Queued where
  | order (o : SheetOrder)
  | stop
  | purge
  | load (table : TableId) (first : Nat) (body : List Byte)
  deriving DecidableEq, Repr

/-- The outcome of a resolved group with the fields that belong to it alone (R41). -/
inductive GroupOutcome where
  | delivered (bin : Option BinId) (jog : Option Jog)
  | broken (reason : Option BreakReason)
  deriving DecidableEq, Repr

/-- A GROUP RESULT (R41). -/
structure GroupResult where
  group : Half
  outcome : GroupOutcome
  firstTag : Half
  lastTag : Option Half
  accepted : Nat
  delivered : Nat
  purged : Nat
  removed : Nat
  unfed : Nat
  deriving DecidableEq, Repr

/-- One bin in an ATTENTION snapshot (Table 11-7). -/
structure BinSnapshot where
  state : BinState
  stacked : Nat
  reserved : Nat
  deriving DecidableEq, Repr

/-- An ATTENTION snapshot (R188). -/
structure Attention where
  trays : PerTray TrayState
  bins : PerBin BinSnapshot
  purgeOffline : Bool
  purgeStacked : Nat
  waiting : WaitReason
  cadenceLost : Bool
  powerWarn : Bool
  deriving DecidableEq, Repr

/-- A STREAM FAULT record (R189). -/
structure StreamFault where
  badCheck : Nat
  malformed : Nat
  overflow : Nat
  orphan : Nat
  refused : Nat
  lastRefused : Option ControlKind
  deriving DecidableEq, Repr

/-- A STATUS record (R190). -/
structure Status where
  state : TransportState
  fault : Option FaultRecord
  further : Nat
  orders : Nat
  reports : Nat
  sheets : Nat
  groups : Nat
  late : Nat
  anomalies : Nat
  deriving DecidableEq, Repr

/-- A report record (R185). -/
inductive Report where
  | groupResult (r : GroupResult)
  | fault (r : FaultRecord)
  | loadResult (table : TableId) (cause : Option LoadCause)
  | attention (a : Attention)
  | streamFault (f : StreamFault)
  | credit (halves : Nat)
  | status (s : Status)
  deriving DecidableEq, Repr

/-- The four coalesced report kinds (R187). -/
inductive CoalescedKind where
  | credit | streamFault | attention | status
  deriving DecidableEq, Repr

/-- At most one record of each coalesced kind (R186, R187). -/
structure Slots where
  credit : Option Report
  streamFault : Option Report
  attention : Option Report
  status : Option Report
  deriving DecidableEq, Repr

def Slots.none : Slots := ⟨Option.none, Option.none, Option.none, Option.none⟩

def Slots.get (v : Slots) : CoalescedKind → Option Report
  | .credit => v.credit | .streamFault => v.streamFault | .attention => v.attention | .status => v.status

def Slots.set (v : Slots) (k : CoalescedKind) (r : Option Report) : Slots :=
  match k with
  | .credit => { v with credit := r } | .streamFault => { v with streamFault := r }
  | .attention => { v with attention := r } | .status => { v with status := r }

/-- Reports that found no free place (R186): the held FAULT, one of each coalesced kind, and the groups whose results
are held, in the order in which they were resolved. -/
structure Held where
  fault : Option FaultRecord
  slots : Slots
  results : List GroupKey
  deriving DecidableEq, Repr

/-- The Stream Link (Chapter 10): framer, Order Queue, taken-record count, pending load, Report Queue (its head is
being transmitted when `transmitting`), return-ready line, held reports, and the pending record of each kind. -/
structure Link where
  framer : Framer
  orders : List Queued
  taken : Nat
  pendingLoad : Option PendingLoad
  reports : List Report
  transmitting : Bool
  returnReady : Bool
  held : Held
  waiting : Slots
  deriving DecidableEq, Repr

/-- What the part sends on its interfaces (Table 0-1): gate, motor, pick, release, loop, eject and conversion commands
to the mechanics, cues to the imaging controller, and framed records on the stream link. -/
inductive Message where
  | gateGd (p : GdPosition)
  | gateGx (p : Destination)
  | motorStart (spdInt spdFrac : Nat)
  | motorStop
  | divider (spdInt spdFrac : Nat)
  | pickRequest (t : TrayId)
  | releaseRequest (t : TrayId)
  | loopRelease
  | conversionRequest
  | ejectRequest (target : EjectTarget) (jog : Jog)
  | cue (tag seq : Half) (side : Side) (length : Nat)
  | frame (bytes : List Byte)
  deriving DecidableEq, Repr

/-- The part's own state: its fourteen blocks, and three fields of the model's. `sent` holds what the part sent in the
last step, in order; `attentionDue` says that an ATTENTION occurrence was made in the event in progress (R188) and is
clear between events; `freeIndex` counts the uses of the free value. -/
structure Part where
  clock : Clock
  sensors : Sensors
  gates : Gates
  tables : Tables
  planner : Planner
  groups : GroupTable
  feeders : PerTray Feeder
  arbiter : Arbiter
  track : Track
  cue : CueUnit
  loop : List LoopEntry
  acc : Accumulator
  stacker : Stacker
  ctl : Control
  link : Link
  sent : List Message
  attentionDue : Bool
  freeIndex : Nat
  deriving DecidableEq, Repr

/-- The machine: the part, and the commands that wait for it, first in, first out. -/
structure State extends Part where
  pending : List Instr
  deriving DecidableEq, Repr

/-- An entry of the Routing Table that was never loaded (R26): not valid. Its other fields are 0, which R26 does not say
(DESIGN CHOICE, notes/assumptions/31.md); an entry not valid is read for nothing. -/
def RoutingEntry.unloaded : RoutingEntry := ⟨false, 0, 0, 0, 0⟩

/-- The machine right after power-on reset with every line at rest (notes/assumptions/2.md): the values of Tables 1-8,
3-7, 4-3, 8-3, 9-7 and 10-6 and of R42, R105, R107 and R118, with the reset's gate and motor commands just sent. -/
def State.reset : State where
  clock :=
    { tick := 0, period := 2000, spdInt := 2000, spdFrac := 0, fraction := 0, watchArmed := false,
      watchReference := 0, cadenceLost := false }
  sensors := { staging := .all false, path := .all false }
  gates := { gd := .exit, gx := .purge, gdOccupants := [], gxOccupants := [] }
  tables :=
    { geometry := none, parameters := none, media := none, routing := List.replicate 32 RoutingEntry.unloaded,
      binMap := none }
  planner := { openGroup := none, waiting := .none, reported := .none }
  groups := { entries := [], nextKey := 0 }
  feeders :=
    .all { state := .ready, drawerOpen := false, paperLow := false, paperOut := false, holder := none,
           request := false, deadline := none, abandoned := false }
  arbiter :=
    { slotIndex := 0, block := 0, launchCounter := 0, pendingSecond := 0, lastExit := none, lastSetGroup := none,
      cadenceGroup := none, pitch := 0, expiryDue := false }
  track := { sheets := [], nextSeq := 0, gauge := none, anomalies := 0 }
  cue := { outstanding := [], late := 0 }
  loop := []
  acc := { setGroup := none, sheets := [], eject := none }
  stacker :=
    { bins := .all { stacked := 0, doorOpen := false, full := false, hold := false, remembered := false,
                     jog := .left, state := .full },
      purgeStacked := 0, purgeDoorOpen := false, allowances := [] }
  ctl :=
    { state := .halted, drainReason := none, warmupEnd := none, runEnd := none, runEndReached := false,
      sweepClass := none,
      firstFault := some { kind := .reset, station := none, tag := none, group := none, tick := 0,
                           state := .halted, occupancy := 0 },
      locked := true, further := 0, coverOpen := false, powerWarn := false }
  link :=
    { framer := .hunt, orders := [], taken := 0, pendingLoad := none,
      reports := [.credit 2,
                  .fault { kind := .reset, station := none, tag := none, group := none, tick := 0,
                           state := .halted, occupancy := 0 }],
      transmitting := false, returnReady := false, held := { fault := none, slots := .none, results := [] },
      waiting := .none }
  sent := [.gateGd .exit, .gateGx .purge, .motorStop]
  attentionDue := false
  freeIndex := 0
  pending := []

end Sys2Proof.Machine
end

