-- ==== Sys2Proof/Machine/Operands.lean ====
section
/-! DEFINITION. The operand forms: the bytes of the records on the stream link, read and written (R175, R176, R192 to
R194, Chapter 11), and the entries a LOAD carries (Table 11-4). -/

namespace Sys2Proof.Machine

/-! ### Numbers in bytes, high-order byte first (R175) -/

def word16 (hi lo : Byte) : Nat := hi.toNat * 256 + lo.toNat

def half16 (hi lo : Byte) : Half := BitVec.ofNat 16 (word16 hi lo)

def byteOf (n : Nat) : Byte := BitVec.ofNat 8 n

def bytes16 (n : Nat) : List Byte := [byteOf (n / 256), byteOf n]

def bytes32 (n : Nat) : List Byte := bytes16 (n / 65536) ++ bytes16 (n % 65536)

/-! ### The check (R176) -/

/-- One bit of the CRC with polynomial x^16 + x^12 + x^5 + 1. -/
def crcBit (c : Half) : Half := if c.msb then (c <<< 1) ^^^ 0x1021#16 else c <<< 1

def crcByte (c : Half) (b : Byte) : Half :=
  let c0 := c ^^^ (b.setWidth 16 <<< 8)
  crcBit (crcBit (crcBit (crcBit (crcBit (crcBit (crcBit (crcBit c0)))))))

/-- The check over the kind, length and body bytes, from an initial value of all ones. -/
def check (bytes : List Byte) : Half := bytes.foldl crcByte 0xFFFF#16

/-! ### Numbers that name things -/

def TrayId.number : TrayId → Nat
  | .t1 => 1 | .t2 => 2 | .t3 => 3 | .t4 => 4

def trayOf? : Nat → Option TrayId
  | 1 => some .t1 | 2 => some .t2 | 3 => some .t3 | 4 => some .t4 | _ => none

def BinId.number : BinId → Nat
  | .b1 => 1 | .b2 => 2 | .b3 => 3 | .b4 => 4 | .b5 => 5 | .b6 => 6

def binOf? : Nat → Option BinId
  | 1 => some .b1 | 2 => some .b2 | 3 => some .b3 | 4 => some .b4 | 5 => some .b5 | 6 => some .b6 | _ => none

def TableId.code : TableId → Nat
  | .geometry => 1 | .parameters => 2 | .media => 3 | .routing => 4 | .binMap => 5

def tableOf? : Nat → Option TableId
  | 1 => some .geometry | 2 => some .parameters | 3 => some .media | 4 => some .routing | 5 => some .binMap
  | _ => none

/-- Bytes of one entry (Table 11-4). -/
def TableId.entrySize : TableId → Nat
  | .geometry => 2 | .parameters => 2 | .media => 6 | .routing => 7 | .binMap => 4

/-! ### Entries of a LOAD (Table 11-4); unused bytes and bits are ignored (R193) -/

def wordEntries : List Byte → List Nat
  | a :: b :: rest => word16 a b :: wordEntries rest
  | _ => []

def mediaEntries : List Byte → List MediaEntry
  | v :: l1 :: l0 :: p :: a :: n :: rest =>
    { valid := v.msb, length := word16 l1 l0, primary := p.toNat, alternate := a.toNat, nominal := n.toNat,
      slots := none } :: mediaEntries rest
  | _ => []

def routingEntries : List Byte → List RoutingEntry
  | v :: m1 :: m0 :: k1 :: k0 :: b :: j :: rest =>
    { valid := v.msb, value := half16 m1 m0, mask := half16 k1 k0, bin := b.toNat, jog := j.toNat }
      :: routingEntries rest
  | _ => []

/-- A Bin Map entry is read by the index it lands on. -/
def binMapEntry (index : Nat) (a b c : Byte) : BinMapEntry :=
  if index < 8 then .logical a.toNat b.toNat
  else if index < 14 then .physical (word16 a b) c.toNat
  else .purge (word16 a b)

def binMapEntries : Nat → List Byte → List BinMapEntry
  | i, a :: b :: c :: _ :: rest => binMapEntry i a b c :: binMapEntries (i + 1) rest
  | _, _ => []

/-! ### Inbound bodies (Table 11-2, Table 11-3, R192) -/

/-- A SHEET ORDER body of 9 bytes with FIRST set or of 6 with FIRST clear; any other does not fit. -/
def orderOf? : List Byte → Option SheetOrder
  | [t1, t0, g1, g0, m, c] =>
    if m.getLsbD 7 then none
    else some { tag := half16 t1 t0, group := half16 g1 g0, first := none, last := m.getLsbD 6,
                plex := if m.getLsbD 5 then .duplex else .simplex, imageA := m.getLsbD 4, imageB := m.getLsbD 3,
                media := c.setWidth 4 }
  | [t1, t0, g1, g0, m, c, d, a1, a0] =>
    if m.getLsbD 7 then
      some { tag := half16 t1 t0, group := half16 g1 g0, first := some ⟨d, half16 a1 a0⟩, last := m.getLsbD 6,
             plex := if m.getLsbD 5 then .duplex else .simplex, imageA := m.getLsbD 4, imageB := m.getLsbD 3,
             media := c.setWidth 4 }
    else none
  | _ => none

/-- A LOAD whose table id is one of the five and whose length is that of its entry count (R192), within the limit of
R175. -/
def LoadRecord.queued? (l : LoadRecord) : Option Queued :=
  match tableOf? l.table.toNat with
  | none => none
  | some t =>
    if l.body.length = l.count.toNat * t.entrySize ∧ 3 + l.body.length ≤ Config.maxBody then
      some (.load t l.first.toNat l.body)
    else none

/-- An inbound record by its class (Table 10-1). -/
inductive Inbound where
  | queued (q : Queued)
  | start
  | halt
  | clearFault
  | binEmptied (number : Byte)
  | query
  deriving DecidableEq, Repr

/-- The second and third tests of R175: the record of a kind value and a body, or none when the kind is unknown or the
length does not fit (Table 11-1). -/
def inboundOf? (kind : Byte) (body : List Byte) : Option Inbound :=
  if kind = 0x10#8 then (orderOf? body).map fun o => .queued (.order o)
  else if kind = 0x11#8 then if body = [] then some (.queued .stop) else none
  else if kind = 0x12#8 then if body = [] then some (.queued .purge) else none
  else if kind = 0x13#8 then
    match body with
    | t :: f :: c :: rest => (LoadRecord.queued? ⟨t, f, c, rest⟩).map .queued
    | _ => none
  else if kind = 0x20#8 then if body = [] then some .start else none
  else if kind = 0x21#8 then if body = [] then some .halt else none
  else if kind = 0x22#8 then if body = [] then some .clearFault else none
  else if kind = 0x23#8 then
    match body with
    | [n] => some (.binEmptied n)
    | _ => none
  else if kind = 0x24#8 then if body = [] then some .query else none
  else none

/-- What the framer does with a byte (R175): goes on, or ends a record, accepted, malformed or with a bad check. -/
inductive Framed where
  | more (f : Framer)
  | bad
  | malformed
  | record (r : Inbound)
  deriving DecidableEq, Repr

/-- Body length carried in the two length bytes behind the kind. -/
def lengthOf : List Byte → Nat
  | _ :: h :: l :: _ => word16 h l
  | _ => 0

/-- The judgement of a record whose last check byte has been taken: `taken` is kind, length, body and check. -/
def judge (taken : List Byte) : Framed :=
  let n := lengthOf taken
  let checked := taken.take (3 + n)
  match taken.drop (3 + n) with
  | [c1, c0] =>
    if check checked = half16 c1 c0 then
      match inboundOf? (checked.headD 0) (checked.drop 3) with
      | some r => .record r
      | none => .malformed
    else .bad
  | _ => .bad

/-- One byte into the receive framer. -/
def Framer.step (f : Framer) (b : Byte) : Framed :=
  match f with
  | .hunt => if b = 0xA5#8 then .more (.receive []) else .more .hunt
  | .receive taken =>
    let now := taken ++ [b]
    if now.length < 3 then .more (.receive now)
    else if Config.maxBody < lengthOf now then .malformed
    else if now.length < 3 + lengthOf now + 2 then .more (.receive now)
    else judge now

/-! ### Codes of reports (Table 11-10, Table 11-7, Table 11-1) -/

def BreakReason.code : BreakReason → Nat
  | .count => 1 | .media => 2 | .overlength => 3 | .sequence => 4 | .truncated => 5 | .purged => 6 | .stream => 7
  | .starved => 8 | .cadence => 9 | .image => 10 | .jam => 11 | .bin => 12 | .power => 13

def FaultKind.code : FaultKind → Nat
  | .late => 1 | .unexpected => 2 | .short => 3 | .stall => 4 | .doubleFeed => 5 | .gateConflict => 6
  | .coverOpen => 7 | .purgeOpen => 8 | .residue => 9 | .ejectTimeout => 10 | .setCollision => 11
  | .operatorHalt => 12 | .reset => 13

def PathSensor.code : PathSensor → Nat
  | .mg => 5 | .rg => 6 | .tr => 7 | .fx => 8 | .dl => 10 | .xs => 12 | .ac => 14 | .pg => 15

def Station.code : Station → Nat
  | .st t => TrayId.number t
  | .path q => PathSensor.code q
  | .gd => 9
  | .dp => 11
  | .gx => 13

def TransportState.code : TransportState → Nat
  | .halted => 0 | .standby => 1 | .warmup => 2 | .running => 3 | .draining => 4 | .jammed => 5 | .recovery => 6
  | .runout => 7 | .safe => 8

def TrayState.code : TrayState → Nat
  | .ready => 0 | .low => 1 | .empty => 2 | .opened => 3 | .fault => 4

def BinState.code : BinState → Nat
  | .ready => 0 | .full => 1 | .offline => 2

def WaitReason.code : WaitReason → Nat
  | .none => 0 | .tray => 1 | .bin => 2 | .report => 3 | .track => 4 | .purgeRoom => 5

def LoadCause.code : LoadCause → Nat
  | .extent => 1 | .incomplete => 2 | .range => 3 | .conflict => 4 | .cross => 5

def ControlKind.code : ControlKind → Nat
  | .start => 0x20 | .halt => 0x21 | .clearFault => 0x22 | .binEmptied => 0x23

def Jog.code : Jog → Nat
  | .left => 0 | .right => 1

/-! ### Outbound bodies (R194, Tables 11-5 to 11-9) -/

def bit (b : Bool) (weight : Nat) : Nat := if b then weight else 0

/-- An optional field: its value when present, and 0 when absent. -/
def optNat {α : Type} (f : α → Nat) : Option α → Nat
  | some x => f x
  | none => 0

def FaultRecord.body (r : FaultRecord) : List Byte :=
  [byteOf (FaultKind.code r.kind), byteOf (optNat Station.code r.station),
   byteOf (bit r.tag.isSome 128 + bit r.group.isSome 64)]
  ++ bytes16 (optNat BitVec.toNat r.tag) ++ bytes16 (optNat BitVec.toNat r.group) ++ bytes32 r.tick.toNat
  ++ [byteOf (TransportState.code r.state), byteOf r.occupancy]

def GroupResult.body (r : GroupResult) : List Byte :=
  let outcome := match r.outcome with
    | .delivered b j =>
      [byteOf (128 + bit r.lastTag.isSome 64), 0, byteOf (optNat BinId.number b), byteOf (optNat Jog.code j)]
    | .broken c => [byteOf (bit r.lastTag.isSome 64), byteOf (optNat BreakReason.code c), 0, 0]
  bytes16 r.group.toNat ++ outcome ++ bytes16 r.firstTag.toNat ++ bytes16 (optNat BitVec.toNat r.lastTag)
  ++ [byteOf r.accepted, byteOf r.delivered, byteOf r.purged, byteOf r.removed, byteOf r.unfed]

def BinSnapshot.body (b : BinSnapshot) : List Byte :=
  byteOf (BinState.code b.state) :: (bytes16 b.stacked ++ bytes16 b.reserved)

def Attention.body (a : Attention) : List Byte :=
  [byteOf (TrayState.code a.trays.t1), byteOf (TrayState.code a.trays.t2), byteOf (TrayState.code a.trays.t3),
   byteOf (TrayState.code a.trays.t4)]
  ++ BinSnapshot.body a.bins.b1 ++ BinSnapshot.body a.bins.b2 ++ BinSnapshot.body a.bins.b3
  ++ BinSnapshot.body a.bins.b4 ++ BinSnapshot.body a.bins.b5 ++ BinSnapshot.body a.bins.b6
  ++ [byteOf (bit a.purgeOffline 2)] ++ bytes16 a.purgeStacked
  ++ [byteOf (WaitReason.code a.waiting), byteOf (bit a.cadenceLost 128 + bit a.powerWarn 64)]

def StreamFault.body (f : StreamFault) : List Byte :=
  bytes16 f.badCheck ++ bytes16 f.malformed ++ bytes16 f.overflow ++ bytes16 f.orphan ++ bytes16 f.refused
  ++ [byteOf (optNat ControlKind.code f.lastRefused)]

def Status.body (s : Status) : List Byte :=
  [byteOf (TransportState.code s.state), byteOf (bit s.fault.isSome 128), byteOf s.further]
  ++ (match s.fault with
      | some r => FaultRecord.body r
      | none => List.replicate 13 0)
  ++ [byteOf s.orders, byteOf s.reports, byteOf s.sheets, byteOf s.groups] ++ bytes16 s.late
  ++ bytes16 s.anomalies

/-- Kind value of a report (Table 11-1). -/
def Report.kindValue : Report → Nat
  | .groupResult _ => 0x40 | .fault _ => 0x41 | .attention _ => 0x42 | .streamFault _ => 0x43 | .credit _ => 0x44
  | .loadResult _ _ => 0x45 | .status _ => 0x46

def Report.body : Report → List Byte
  | .groupResult r => GroupResult.body r
  | .fault r => FaultRecord.body r
  | .attention a => Attention.body a
  | .streamFault f => StreamFault.body f
  | .credit halves => bytes16 halves
  | .loadResult t cause => [byteOf (TableId.code t), byteOf (bit cause.isSome 1), byteOf (optNat LoadCause.code cause)]
  | .status s => Status.body s

/-- A record framed for the link: start delimiter, kind, body length, body and check (R175, R176, R194). -/
def frameOf (kind : Nat) (body : List Byte) : List Byte :=
  let checked := byteOf kind :: (bytes16 body.length ++ body)
  0xA5#8 :: (checked ++ bytes16 (check checked).toNat)

def Report.frame (r : Report) : List Byte := frameOf r.kindValue r.body

/-! ### Inbound records as the stream controller sends them (Tables 11-1 to 11-3); unused bits are 0 -/

/-- The marks and sides byte of a SHEET ORDER (Table 11-2). -/
def SheetOrder.marks (o : SheetOrder) : Nat :=
  bit o.first.isSome 128 + bit o.last 64 + bit (o.plex == .duplex) 32 + bit o.imageA 16 + bit o.imageB 8

def SheetOrder.body (o : SheetOrder) : List Byte :=
  bytes16 o.tag.toNat ++ bytes16 o.group.toNat ++ [byteOf (SheetOrder.marks o), byteOf o.media.toNat]
  ++ (match o.first with
      | some f => f.declared :: bytes16 f.account.toNat
      | none => [])

/-- A LOAD body: header, then the entries. -/
def loadBody (t : TableId) (first : Nat) (entries : List Byte) : List Byte :=
  byteOf (TableId.code t) :: byteOf first :: byteOf (entries.length / TableId.entrySize t) :: entries

/-- Kind value and body of an inbound record. -/
def Inbound.encode : Inbound → Nat × List Byte
  | .queued (.order o) => (0x10, SheetOrder.body o)
  | .queued .stop => (0x11, [])
  | .queued .purge => (0x12, [])
  | .queued (.load t first entries) => (0x13, loadBody t first entries)
  | .start => (0x20, [])
  | .halt => (0x21, [])
  | .clearFault => (0x22, [])
  | .binEmptied n => (0x23, [n])
  | .query => (0x24, [])

/-- A record that the link can carry: a LOAD of whole entries whose number and first index are one byte each, within
the limit of R175. -/
def Inbound.wellFormed : Inbound → Bool
  | .queued (.load t first entries) =>
    decide (first < 256) && entries.length % TableId.entrySize t == 0
      && decide (entries.length / TableId.entrySize t < 256) && decide (3 + entries.length ≤ Config.maxBody)
  | _ => true

/-- The framed bytes of an inbound record. -/
def Inbound.frame (r : Inbound) : List Byte := frameOf r.encode.1 r.encode.2

/-- Bytes fed to the framer one after another, up to the first that ends a record. -/
def Framer.feed (f : Framer) : List Byte → Framed
  | [] => .more f
  | b :: rest =>
    match f.step b with
    | .more g => g.feed rest
    | x => x

end Sys2Proof.Machine
end

