-- ==== Sys2Proof/Machine/Flags.lean ====
section
/-! DEFINITION. Everything the rules read off the state without changing it: tick comparison, table fields, the
conditions of admission and of a pick, bin and tray states, the boundary source, the waiting reasons, the snapshots. -/

namespace Sys2Proof.Machine

/-! ### Comparison of wrapping numbers -/

/-- `a` is earlier (lower) than `b`: their difference, read as a signed number, is negative (R8, R60, R68, R78). -/
def lower {n : Nat} (a b : BitVec n) : Bool := (a - b).msb

/-- The deadline `t` is reached: the tick counter is no longer earlier than it (R8). -/
def Part.reached (p : Part) (t : Tick) : Bool := !lower p.clock.tick t

/-- The tick `n` ticks after the current one. -/
def Part.after (p : Part) (n : Nat) : Tick := p.clock.tick + BitVec.ofNat 32 n

def Part.reachedBy (p : Part) : Option Tick → Bool
  | some t => p.reached t
  | none => false

/-! ### Transport states (Table 9-2) -/

/-- The moving states (R151). -/
def TransportState.moving : TransportState → Bool
  | .running | .draining | .runout | .recovery => true
  | _ => false

/-- RUNNING, DRAINING and RUNOUT: the states in which path edges are matched (R85, R89). -/
def TransportState.matching : TransportState → Bool
  | .running | .draining | .runout => true
  | _ => false

/-- The states that run the motors (Table 9-2). -/
def TransportState.motors : TransportState → Bool
  | .warmup | .running | .draining | .recovery | .runout => true
  | _ => false

/-- The states in which admissions and picks are made (Table 9-2). -/
def TransportState.picking : TransportState → Bool
  | .warmup | .running => true
  | _ => false

/-- The states in which the Planner takes a SHEET ORDER or a PURGE (R19). -/
def TransportState.examines : TransportState → Bool
  | .standby | .warmup | .running | .draining | .runout | .safe => true
  | _ => false

def FaultKind.faultClass : FaultKind → FaultClass
  | .ejectTimeout | .setCollision => .stacker
  | .operatorHalt | .reset => .stop
  | _ => .path

def Sensor.station : Sensor → Station
  | .st t => .st t
  | .path q => .path q

/-! ### Table fields -/

/-- Legs of the Path Geometry Table by the station they end at (Table 1-1, Table 1-2). -/
def PathSensor.leg : PathSensor → Nat
  | .mg => 0 | .rg => 1 | .tr => 2 | .fx => 3 | .xs => 4 | .dl => 5 | .ac => 6 | .pg => 7

/-- Length of the leg that ends at `q`; an unloaded table holds no entries (R5). -/
def Part.legTo (p : Part) (q : PathSensor) : Nat :=
  ((p.tables.geometry.map Geometry.entries).getD []).getD (PathSensor.leg q) 0

def ParameterSet.spdInt (s : ParameterSet) : Nat := s.entries.getD 0 0
def ParameterSet.spdFrac (s : ParameterSet) : Nat := s.entries.getD 1 0
def ParameterSet.pitch (s : ParameterSet) : Nat := s.entries.getD 2 0
/-- CADENCE is LOCKED (Table 11-4: 0 PACED, 1 LOCKED). -/
def ParameterSet.locked (s : ParameterSet) : Bool := s.entries.getD 3 0 == 1
def ParameterSet.fixMargin (s : ParameterSet) : Nat := s.entries.getD 4 0
def ParameterSet.slip (s : ParameterSet) : Nat := s.entries.getD 5 0
def ParameterSet.earlyMargin (s : ParameterSet) : Nat := s.entries.getD 6 0
def ParameterSet.lenTol (s : ParameterSet) : Nat := s.entries.getD 7 0
def ParameterSet.gapMin (s : ParameterSet) : Nat := s.entries.getD 8 0
def ParameterSet.gateClear (s : ParameterSet) : Nat := s.entries.getD 9 0
def ParameterSet.setGap (s : ParameterSet) : Nat := s.entries.getD 10 0
def ParameterSet.loopDrain (s : ParameterSet) : Nat := s.entries.getD 11 0
def ParameterSet.pickLimit (s : ParameterSet) : Nat := s.entries.getD 12 0
def ParameterSet.pickRetries (s : ParameterSet) : Nat := s.entries.getD 13 0
def ParameterSet.parkLimit (s : ParameterSet) : Nat := s.entries.getD 14 0
def ParameterSet.sampleDelay (s : ParameterSet) : Nat := s.entries.getD 15 0
def ParameterSet.sampleSpacing (s : ParameterSet) : Nat := s.entries.getD 16 0
def ParameterSet.dfTol (s : ParameterSet) : Nat := s.entries.getD 17 0
def ParameterSet.ejectLimit (s : ParameterSet) : Nat := s.entries.getD 18 0
def ParameterSet.warmup (s : ParameterSet) : Nat := s.entries.getD 19 0
def ParameterSet.clearRun (s : ParameterSet) : Nat := s.entries.getD 20 0
def ParameterSet.defaultLbin (s : ParameterSet) : Nat := s.entries.getD 21 0

/-- The Parameter Set in force; one not loaded holds no entries (R17, notes/assumptions/4.md). -/
def Part.params (p : Part) : ParameterSet := p.tables.parameters.getD ⟨[]⟩

/-- The slot count ceil((L + GAP_MIN) / PITCH) (R43). -/
def ParameterSet.slotCount (s : ParameterSet) (length : Nat) : Nat :=
  (length + s.gapMin + s.pitch - 1) / s.pitch

/-- The Media Table entry of a known code: loaded, and marked valid (R18). -/
def Part.media? (p : Part) (code : Nat) : Option MediaEntry :=
  match p.tables.media with
  | none => none
  | some t => (t.entries[code]?).filter MediaEntry.valid

/-- The Bin Map entry of a logical bin: primary, and alternate or none. -/
def Part.logicalBin (p : Part) (lbin : Nat) : Option BinId × Option BinId :=
  match p.tables.binMap with
  | none => (none, none)
  | some m =>
    match m.entries[lbin]? with
    | some (.logical a b) => (binOf? a, binOf? b)
    | _ => (none, none)

/-- Capacity of a physical bin; 0 while the Bin Map is not loaded (R139). -/
def Part.capacity (p : Part) (b : BinId) : Nat :=
  match p.tables.binMap with
  | none => 0
  | some m =>
    match m.entries[7 + BinId.number b]? with
    | some (.physical c _) => c
    | _ => 0

/-- Release mode of a physical bin, while the Bin Map is loaded (Table 8-2). -/
def BinMap.mode (m : BinMap) (b : BinId) : ReleaseMode :=
  match m.entries[7 + BinId.number b]? with
  | some (.physical _ 1) => .onNotice
  | _ => .onDoor

/-- Capacity of the purge bin; 0 while the Bin Map is not loaded (R139). -/
def Part.purgeCapacity (p : Part) : Nat :=
  match p.tables.binMap with
  | none => 0
  | some m =>
    match m.entries.getD 14 (.purge 0) with
    | .purge c => c
    | _ => 0

/-! ### Records and entries -/

def Part.sheet? (p : Part) (seq : Half) : Option Sheet := p.track.sheets.find? fun s => s.seq == seq

def Part.group? (p : Part) (k : GroupKey) : Option Group := p.groups.entries.find? fun g => g.key == k

/-- The open group's entry (R19). -/
def Part.openGroup? (p : Part) : Option Group :=
  match p.planner.openGroup with
  | none => none
  | some k => p.group? k

/-- Group id of the group concerned by a fault (Table 9-5). -/
def Part.groupId? (p : Part) (k : GroupKey) : Option Half := (p.group? k).map Group.id

def Sheet.spoiled (s : Sheet) : Bool := s.destination == .purge

/-- A fresh sheet: PICKING or STAGED, never launched (R63). -/
def Sheet.fresh (s : Sheet) : Bool := s.state == .picking || s.state == .staged

def Sheet.coversAt (s : Sheet) (q : Sensor) : Bool := s.covered.any fun e => e.station == q

/-- Stacker-bound: decided STACK at XS and its trail not yet cleared of AC (R36, R94). -/
def Sheet.stackerBound (s : Sheet) : Bool :=
  s.exitDecision == some .stack && (!s.itinerary.isEmpty || s.coversAt (.path .ac))

/-- The record of lowest seq (R63). -/
def lowestSeq (sheets : List Sheet) : Option Sheet :=
  sheets.foldl (fun best s =>
    match best with
    | none => some s
    | some b => if lower s.seq b.seq then some s else some b) none

/-- The record of lowest launch order (R85, R89). -/
def lowestLaunch (sheets : List Sheet) : Option Sheet :=
  sheets.foldl (fun best s =>
    match best with
    | none => some s
    | some b => if lower (s.launchOrder.getD 0) (b.launchOrder.getD 0) then some s else some b) none

/-! ### Allowance, room and bin states (8.3, R146, R149) -/

/-- Reserved count of a bin (R142). -/
def Part.reservedIn (p : Part) (b : BinId) : Nat :=
  ((p.stacker.allowances.filter fun a => a.bin == b).map Allowance.count).sum

def Part.allowance? (p : Part) (k : GroupKey) : Option Allowance :=
  p.stacker.allowances.find? fun a => a.group == k

/-- Reserved count of a group: its entry's count, or 0 (R142). -/
def Part.reservedOf (p : Part) (k : GroupKey) : Nat := optNat Allowance.count (p.allowance? k)

/-- Free room of a bin (R142). -/
def Part.freeRoom (p : Part) (b : BinId) : Nat :=
  p.capacity b - (p.stacker.bins.get b).stacked - p.reservedIn b

/-- A bin can grant a reservation of `c` sheets (R143). -/
def Part.canGrant (p : Part) (b : BinId) (c : Nat) : Bool :=
  decide (c ≤ p.freeRoom b) && !(p.stacker.bins.get b).full

/-- Purge free room (R149). -/
def Part.purgeRoom (p : Part) : Nat := p.purgeCapacity - p.stacker.purgeStacked

/-- A bin's state (R146). -/
def Bin.formed (b : Bin) (capacity : Nat) : BinState :=
  if b.doorOpen || b.hold then .offline
  else if b.full || decide (capacity ≤ b.stacked) then .full
  else .ready

/-! ### Trays and staging (3.2, 3.3) -/

/-- A tray's state as its paper sensors stand, the drawer closed (Table 3-4). -/
def paperState (low out : Bool) : TrayState := if out then .empty else if low then .low else .ready

def TrayState.usable : TrayState → Bool
  | .ready | .low => true
  | _ => false

def Part.usable (p : Part) (t : TrayId) : Bool := TrayState.usable (p.feeders.get t).state

/-- A staging position is free: held by no record, its sensor uncovered, no abandoned-request mark (R49). -/
def Part.stagingFree (p : Part) (t : TrayId) : Bool :=
  (p.feeders.get t).holder.isNone && !p.sensors.staging.get t && !(p.feeders.get t).abandoned

def MediaEntry.primaryTray (m : MediaEntry) : TrayId := (trayOf? m.primary).getD .t1

def MediaEntry.alternateTray (m : MediaEntry) : Option TrayId := trayOf? m.alternate

/-- The pick tray of an order (R48). -/
def Part.pickTray (p : Part) (m : MediaEntry) : TrayId :=
  if p.usable m.primaryTray then m.primaryTray
  else match m.alternateTray with
    | some a => if p.usable a then a else m.primaryTray
    | none => m.primaryTray

/-- The other of a media's two trays, when it has an alternate (R53). -/
def MediaEntry.otherTray (m : MediaEntry) (t : TrayId) : Option TrayId :=
  match m.alternateTray with
  | none => none
  | some a => if t = m.primaryTray then some a else some m.primaryTray

/-- A tray that a given-up or stalled sheet may move to (R53, R54). -/
def Part.moveTarget (p : Part) (s : Sheet) : Option TrayId :=
  match p.media? s.media with
  | none => none
  | some m => (m.otherTray s.tray).filter fun t => p.usable t && p.stagingFree t

/-- A sheet in PICKING with no request outstanding (R54). -/
def Part.stalled (p : Part) (s : Sheet) : Bool := s.state == .picking && !(p.feeders.get s.tray).request

/-! ### Conditions of a pick and of admission (R23, R25, R49) -/

/-- Sheets in the part: the Sheet Track and the accumulator (R49). -/
def Part.sheetsInPart (p : Part) : Nat := p.track.sheets.length + p.acc.sheets.length

/-- The pick conditions of R49, tested in their order: the first that fails as a waiting reason, or the pick tray. -/
def Part.pickCheck (p : Part) (m : MediaEntry) : Except WaitReason TrayId :=
  let t := p.pickTray m
  if Config.tableSize ≤ p.track.sheets.length then .error .track
  else if !p.stagingFree t then .error .tray
  else if p.purgeRoom < p.sheetsInPart + 1 then .error .purgeRoom
  else .ok t

/-- The Routing Table entry an account class matches, in index order (R22). -/
def Part.route (p : Part) (account : Half) : Nat × JogPolicy :=
  match p.tables.routing.find? fun e => e.valid && (account &&& e.mask == e.value &&& e.mask) with
  | some e => (e.bin, if e.jog = 1 then .alternate else .fixed)
  | none => (p.params.defaultLbin, .fixed)

/-- A FIRST order broken from the start, with its reason (R21). -/
def Part.startBreak (p : Part) (o : SheetOrder) (f : FirstFields) : Option BreakReason :=
  if f.declared.toNat < 1 ∨ 64 < f.declared.toNat then some .count
  else if (p.media? o.media.toNat).isNone then some .media
  else none

/-- Conditions 1 to 3 of R23, which also hold for a group broken from the start. -/
def Part.tableCheck (p : Part) : Except WaitReason Unit :=
  if !p.ctl.state.picking then .error .none
  else if Config.tableSize ≤ p.groups.entries.length then .error .report
  else if Config.queueSize < p.link.reports.length + (p.groups.entries.length + 1) + 6 then .error .report
  else .ok ()

/-- What admission grants: bin, noted alternate, jog policy, media entry and pick tray. -/
structure Grant where
  bin : BinId
  alternate : Option BinId
  policy : JogPolicy
  media : MediaEntry
  tray : TrayId
  deriving DecidableEq, Repr

/-- The bin that grants a reservation: the primary, or failing that the alternate (R23, R143). -/
def Part.grantBin (p : Part) (primary alternate : Option BinId) (c : Nat) : Option BinId :=
  (primary.filter fun b => p.canGrant b c).orElse fun _ => alternate.filter fun b => p.canGrant b c

/-- The conditions of R23 for a FIRST order that is not broken from the start. -/
def Part.admissionCheck (p : Part) (o : SheetOrder) (f : FirstFields) : Except WaitReason Grant :=
  match p.tableCheck, p.media? o.media.toNat with
  | .error e, _ => .error e
  | .ok _, none => .error .none
  | .ok _, some m =>
    let r := p.route f.account
    let l := p.logicalBin r.1
    match p.grantBin l.1 l.2 f.declared.toNat with
    | none => .error .bin
    | some b =>
      match p.pickCheck m with
      | .error e => .error e
      | .ok t => .ok ⟨b, l.2, r.2, m, t⟩

/-! ### Path, boundary source, set (R10, R131, R158) -/

/-- The path is empty: no record, no sheet in the accumulator, no eject in flight (9.4, 10.4). -/
def Part.pathEmpty (p : Part) : Bool := p.track.sheets.isEmpty && p.acc.sheets.isEmpty && p.acc.eject.isNone

/-- The boundary source is the cadence line (R10). -/
def Part.sourceIsLine (p : Part) : Bool := p.params.locked && !p.clock.cadenceLost

def GroupState.broken : GroupState → Bool
  | .brokenOpen | .brokenClosed => true
  | _ => false

def GroupState.closedState : GroupState → Bool
  | .closed | .brokenClosed => true
  | _ => false

/-- The set is intact, complete and due (R131, first case). -/
def Part.dueIntact (p : Part) (g : Group) : Bool :=
  g.state == .closed && g.inSet == g.accepted && p.acc.eject.isNone && !p.acc.sheets.isEmpty

/-- The set is broken and due (R131, second case; R36). -/
def Part.dueBroken (p : Part) (g : Group) : Bool :=
  g.state.broken && !p.acc.sheets.isEmpty && p.acc.eject.isNone
    && !(p.track.sheets.any fun s => s.group == g.key && s.stackerBound)

/-- A sheet reaching AC may not enter: an eject is in flight, or the set is another group's (R129). -/
def Part.collides (p : Part) (k : GroupKey) : Bool :=
  p.acc.eject.isSome || (!p.acc.sheets.isEmpty && !(p.acc.setGroup == some k))

/-- The first path sensor at level covered, in the order of R169. -/
def Part.firstCovered (p : Part) : Option PathSensor := PathSensor.list.find? fun q => p.sensors.path.get q

/-! ### Reports -/

def Report.kind : Report → Option CoalescedKind
  | .credit _ => some .credit
  | .streamFault _ => some .streamFault
  | .attention _ => some .attention
  | .status _ => some .status
  | _ => none

def Slots.any (v : Slots) : Bool := v.credit.isSome || v.streamFault.isSome || v.attention.isSome || v.status.isSome

/-- Some report is held (R181, R186). -/
def Part.anyHeld (p : Part) : Bool :=
  p.link.held.fault.isSome || p.link.held.slots.any || !p.link.held.results.isEmpty

/-- The Report Queue has a free place (R185). -/
def Part.reportRoom (p : Part) : Bool := decide (p.link.reports.length < Config.queueSize)

/-- A LOAD at the head may be dealt with (R181). -/
def Part.loadRoom (p : Part) : Bool := p.reportRoom && !p.anyHeld

/-- An ATTENTION snapshot (R188). -/
def Part.attentionNow (p : Part) : Attention :=
  let bin (b : BinId) : BinSnapshot :=
    { state := (p.stacker.bins.get b).state, stacked := (p.stacker.bins.get b).stacked, reserved := p.reservedIn b }
  { trays := p.feeders.map Feeder.state
    bins := ⟨bin .b1, bin .b2, bin .b3, bin .b4, bin .b5, bin .b6⟩
    purgeOffline := p.stacker.purgeDoorOpen
    purgeStacked := p.stacker.purgeStacked
    waiting := p.planner.reported
    cadenceLost := p.clock.cadenceLost
    powerWarn := p.ctl.powerWarn }

/-- A STATUS record with a given Report Queue occupancy (R190). -/
def Part.statusNow (p : Part) (reports : Nat) : Status :=
  { state := p.ctl.state
    fault := if p.ctl.locked then p.ctl.firstFault else none
    further := p.ctl.further
    orders := p.link.orders.length
    reports := reports
    sheets := p.track.sheets.length
    groups := p.groups.entries.length
    late := p.cue.late
    anomalies := p.track.anomalies }

/-! ### Waiting reasons (R25, R58, R181, R182) -/

/-- The waiting reason of a check that fails, NONE of one that holds. -/
def waitOf {α : Type} : Except WaitReason α → WaitReason
  | .error e => e
  | .ok _ => .none

/-- The waiting reason of a SHEET ORDER at the head (R19, R25). -/
def Part.orderWait (p : Part) (o : SheetOrder) : WaitReason :=
  if !p.ctl.state.examines then .none
  else match o.first with
    | some f =>
      match p.startBreak o f with
      | some _ => waitOf p.tableCheck
      | none => waitOf (p.admissionCheck o f)
    | none =>
      if !p.ctl.state.picking then .none
      else match p.openGroup?, p.media? o.media.toNat with
        | some g, some m => if g.state == .admitting && g.id == o.group then waitOf (p.pickCheck m) else .none
        | _, _ => .none

/-- The Planner's waiting reason (R25, R181, R182). -/
def Part.plannerWait (p : Part) : WaitReason :=
  match p.link.orders with
  | .order o :: _ => p.orderWait o
  | .load _ _ _ :: _ => if p.loadRoom then .none else .report
  | _ => .none

/-- Some sheet is stalled, or the state is DRAINING and some sheet is in PICKING (R58). -/
def Part.trayWait (p : Part) : Bool :=
  p.track.sheets.any fun s => p.stalled s || (p.ctl.state == .draining && s.state == .picking)

/-- The reported waiting reason, formed from the Planner's (R58). -/
def Part.reportedWait (p : Part) (planner : WaitReason) : WaitReason :=
  match planner with
  | .none => if p.trayWait then .tray else .none
  | w => w

end Sys2Proof.Machine
end

