-- ==== Sys2Proof/Machine/Ops.lean ====
section
/-! DEFINITION. The operations that commands share: what the part sends, report occurrences, group breaks, spoiling,
faults and the states they lead to, removal of a sheet, pick requests and gate positions. -/

namespace Sys2Proof.Machine

/-! ### Elementary updates -/

/-- A message put on one of the part's interfaces. -/
def Part.send (p : Part) (m : Message) : Part := { p with sent := p.sent ++ [m] }

/-- An ATTENTION occurrence (R188); its snapshot is taken at the end of the event (notes/assumptions/7.md). -/
def Part.notice (p : Part) : Part := { p with attentionDue := true }

/-- No ATTENTION occurrence is left to deal with. -/
def Part.noticed (p : Part) : Part := { p with attentionDue := false }

def Part.mapSheet (p : Part) (seq : Half) (f : Sheet → Sheet) : Part :=
  { p with track := { p.track with sheets := p.track.sheets.map fun s => if s.seq == seq then f s else s } }

def Part.mapGroup (p : Part) (k : GroupKey) (f : Group → Group) : Part :=
  { p with groups := { p.groups with entries := p.groups.entries.map fun g => if g.key == k then f g else g } }

def Part.mapFeeder (p : Part) (t : TrayId) (f : Feeder → Feeder) : Part :=
  { p with feeders := p.feeders.set t (f (p.feeders.get t)) }

/-- The sensor anomaly count, which saturates at 65535 (R102). -/
def Part.anomaly (p : Part) : Part :=
  { p with track := { p.track with anomalies := min 65535 (p.track.anomalies + 1) } }

/-- A tray's new state; a change makes an ATTENTION occurrence (R46). -/
def Part.setTrayState (p : Part) (t : TrayId) (x : TrayState) : Part :=
  if (p.feeders.get t).state = x then p else (p.mapFeeder t fun f => { f with state := x }).notice

/-- A bin with its state formed again; a change of state makes an ATTENTION occurrence (R146). -/
def Part.setBin (p : Part) (b : BinId) (x : Bin) : Part :=
  let formed := x.formed (p.capacity b)
  let q : Part := { p with stacker := { p.stacker with bins := p.stacker.bins.set b { x with state := formed } } }
  if (p.stacker.bins.get b).state = formed then q else q.notice

/-! ### Reports (R164, R185 to R189) -/

def Part.appendReport (p : Part) (r : Report) : Part :=
  { p with link := { p.link with reports := p.link.reports ++ [r] } }

/-- Kind of the report being transmitted, when it is a coalesced kind (R187). -/
def Part.sendingKind (p : Part) : Option CoalescedKind :=
  if p.link.transmitting then p.link.reports.head?.bind Report.kind else none

/-- An occurrence of a coalesced kind (R187). -/
def Part.occur (p : Part) (k : CoalescedKind) (fresh : Report) (refresh : Report → Report) : Part :=
  if p.sendingKind = some k then
    let r := match p.link.waiting.get k with
      | some r => refresh r
      | none => fresh
    { p with link := { p.link with waiting := p.link.waiting.set k (some r) } }
  else if p.link.reports.any fun r => r.kind == some k then
    { p with link := { p.link with
        reports := p.link.reports.map fun r => if r.kind == some k then refresh r else r } }
  else match p.link.held.slots.get k with
    | some r =>
      { p with link := { p.link with held := { p.link.held with
          slots := p.link.held.slots.set k (some (refresh r)) } } }
    | none =>
      if p.reportRoom then p.appendReport fresh
      else { p with link := { p.link with held := { p.link.held with
               slots := p.link.held.slots.set k (some fresh) } } }

def sat16 (n : Nat) : Nat := min 65535 n

/-- Counts of an occurrence added into a STREAM FAULT record, with saturation (R187, R189). -/
def StreamFault.plus (f d : StreamFault) : StreamFault :=
  { badCheck := sat16 (f.badCheck + d.badCheck)
    malformed := sat16 (f.malformed + d.malformed)
    overflow := sat16 (f.overflow + d.overflow)
    orphan := sat16 (f.orphan + d.orphan)
    refused := sat16 (f.refused + d.refused)
    lastRefused := d.lastRefused.orElse fun _ => f.lastRefused }

def StreamFault.zero : StreamFault := ⟨0, 0, 0, 0, 0, none⟩

def Part.streamFault (p : Part) (d : StreamFault) : Part :=
  p.occur .streamFault (.streamFault d) fun r =>
    match r with
    | .streamFault f => .streamFault (f.plus d)
    | r => r

/-- A CREDIT occurrence of some halves (R179, R187). -/
def Part.credit (p : Part) (halves : Nat) : Part :=
  p.occur .credit (.credit halves) fun r =>
    match r with
    | .credit n => .credit (sat16 (n + halves))
    | r => r

/-- The ATTENTION record made, refreshed, held or kept pending (R187, R188). -/
def Part.attention (p : Part) : Part := p.occur .attention (.attention p.attentionNow) fun _ => .attention p.attentionNow

/-- A STATUS occurrence; a new record counts itself in its Report Queue occupancy (R190). -/
def Part.status (p : Part) : Part :=
  p.occur .status (.status (p.statusNow (p.link.reports.length + 1)))
    fun _ => .status (p.statusNow p.link.reports.length)

/-- A refused immediate control (R180). -/
def Part.refuse (p : Part) (k : ControlKind) : Part :=
  p.streamFault { StreamFault.zero with refused := 1, lastRefused := some k }

/-- The FAULT report of a capture, appended or held (R164). -/
def Part.reportFault (p : Part) (r : FaultRecord) : Part :=
  if p.reportRoom then p.appendReport (.fault r)
  else { p with link := { p.link with held := { p.link.held with fault := some r } } }

/-! ### The Order Queue head (R178, R179) -/

/-- The head record leaves the Order Queue. -/
def Part.dropHead (p : Part) : Part := { p with link := { p.link with orders := p.link.orders.tail } }

def Part.setTaken (p : Part) (n : Nat) : Part := { p with link := { p.link with taken := n } }

/-- The taken-record count rises, and every 32nd record taken grants one half of credit (R179). -/
def Part.countTaken (p : Part) : Part :=
  if p.link.taken + 1 < 32 then p.setTaken (p.link.taken + 1) else (p.setTaken 0).credit 1

/-- A head record is taken (R19, R179). -/
def Part.takeHead (p : Part) : Part := p.dropHead.countTaken

/-! ### Spoiling and breaks (R34 to R37, R81) -/

/-- A spoil request; a record already spoiled is unchanged (R81). -/
def Sheet.spoilWith (s : Sheet) (r : SpoilReason) : Sheet :=
  { s with destination := .purge, spoil := some (s.spoil.getD r) }

def Part.spoilSheet (p : Part) (seq : Half) (r : SpoilReason) : Part := p.mapSheet seq fun s => s.spoilWith r

/-- A group's sheets take destination PURGE, its reservation is released and it ceases to be the cadence group
(R35, R71, R144). -/
def Part.breakEffects (p : Part) (k : GroupKey) : Part :=
  { p with
    track := { p.track with
      sheets := p.track.sheets.map fun s => if s.group == k then s.spoilWith .groupBroken else s }
    stacker := { p.stacker with allowances := p.stacker.allowances.filter fun a => !(a.group == k) }
    arbiter := { p.arbiter with
      cadenceGroup := if p.arbiter.cadenceGroup == some k then none else p.arbiter.cadenceGroup } }

/-- The open-group pointer is cleared. -/
def Part.clearOpen (p : Part) : Part := { p with planner := { p.planner with openGroup := none } }

/-- A group that is BROKEN_OPEN with 64 orders accepted closes (R32). -/
def Part.closeAtCap (p : Part) (k : GroupKey) : Part :=
  match p.group? k with
  | some g =>
    if g.state = .brokenOpen ∧ 64 ≤ g.accepted then
      (p.mapGroup k fun g => { g with state := .brokenClosed }).clearOpen
    else p
  | none => p

/-- A break request (R34). -/
def Part.breakGroup (p : Part) (k : GroupKey) (r : BreakReason) : Part :=
  match p.group? k with
  | none => p
  | some g =>
    match g.state with
    | .admitting =>
      ((p.mapGroup k fun g => { g with state := .brokenOpen, reason := some r }).breakEffects k).closeAtCap k
    | .closed => (p.mapGroup k fun g => { g with state := .brokenClosed, reason := some r }).breakEffects k
    | .brokenOpen | .brokenClosed => p

/-- A break request for the open group, when there is one (R34). -/
def Part.breakOpen (p : Part) (r : BreakReason) : Part :=
  match p.planner.openGroup with
  | none => p
  | some k => p.breakGroup k r

/-- Truncation of the open group (R37). -/
def Part.truncate (p : Part) : Part :=
  match p.planner.openGroup with
  | none => p
  | some k =>
    match p.group? k with
    | none => p.clearOpen
    | some g =>
      match g.state with
      | .admitting =>
        ((p.mapGroup k fun g => { g with state := .brokenClosed, reason := some .truncated }).breakEffects k).clearOpen
      | .brokenOpen => (p.mapGroup k fun g => { g with state := .brokenClosed }).clearOpen
      | .closed | .brokenClosed => p.clearOpen

/-- Break requests for each listed group, in admission order (R167, R172). -/
def Part.breakAll (p : Part) (keys : List GroupKey) (r : BreakReason) : Part :=
  ((p.groups.entries.map Group.key).filter fun k => keys.contains k).foldl (fun q k => q.breakGroup k r) p

/-! ### Faults and stops (R162 to R165) -/

/-- SAMPLING records are discarded when the moving states are left (R99). -/
def Sheet.discardSampling (s : Sheet) : Sheet :=
  match s.sampling with
  | .sampling _ _ => { s with sampling := .idle }
  | _ => s

def Part.discardSampling (p : Part) : Part :=
  { p with track := { p.track with sheets := p.track.sheets.map Sheet.discardSampling } }

/-- The deadline of every outstanding pick request is dropped (R55). -/
def Part.dropPickDeadlines (p : Part) : Part :=
  { p with feeders := p.feeders.map fun f => { f with deadline := none } }

/-- Every outstanding request gets a new deadline (R55). -/
def Part.renewPickDeadlines (p : Part) : Part :=
  let d := p.after p.params.pickLimit
  { p with feeders := p.feeders.map fun f => if f.request then { f with deadline := some d } else f }

def Part.disarmWatch (p : Part) : Part := { p with clock := { p.clock with watchArmed := false } }

def Part.setTransport (p : Part) (x : TransportState) : Part := { p with ctl := { p.ctl with state := x } }

/-- Warm-up end, run end and drain reason become absent (R156, R159, R165). -/
def Part.dropTimed (p : Part) : Part :=
  { p with ctl := { p.ctl with drainReason := none, warmupEnd := none, runEnd := none, runEndReached := false } }

/-- The entry to JAMMED or HALTED (R165). -/
def Part.enterStopped (p : Part) (x : TransportState) : Part :=
  ((p.setTransport x).dropTimed.disarmWatch.dropPickDeadlines.discardSampling).send .motorStop

/-- A fault raised to Fault Capture (R162, R163). -/
def Part.raise (p : Part) (k : FaultKind) (station : Option Station) (tag group : Option Half) : Part :=
  if p.ctl.locked then { p with ctl := { p.ctl with further := min 255 (p.ctl.further + 1) } }
  else
    let r : FaultRecord :=
      { kind := k, station := station, tag := tag, group := group, tick := p.clock.tick, state := p.ctl.state,
        occupancy := p.track.sheets.length }
    let q : Part := { p with ctl := { p.ctl with firstFault := some r, locked := true } }
    (q.reportFault r).enterStopped (if k.faultClass = .stop then .halted else .jammed)

/-- A fault that concerns a sheet record, with its tag and its group's id (Table 9-5). -/
def Part.raiseFor (p : Part) (k : FaultKind) (station : Station) (s : Sheet) : Part :=
  p.raise k (some station) (some s.tag) (p.groupId? s.group)

/-! ### Transport entries (Chapter 9) -/

/-- Arming of the cadence watch at an entry to RUNNING (R12). -/
def Part.armWatch (p : Part) : Part :=
  if p.sourceIsLine then
    { p with clock := { p.clock with watchArmed := true, watchReference := p.clock.tick } }
  else p.disarmWatch

def Part.motorStart (p : Part) : Part := p.send (.motorStart p.clock.spdInt p.clock.spdFrac)

/-- The entry to STANDBY: motor stop, cadence-lost cleared (R14, R99, R151, R158, R170). -/
def Part.enterStandby (p : Part) : Part :=
  let q := ((p.setTransport .standby).dropTimed.disarmWatch.dropPickDeadlines.discardSampling).send .motorStop
  if q.clock.cadenceLost then Part.notice { q with clock := { q.clock with cadenceLost := false } } else q

/-- The entry to DRAINING (R157): pick deadlines dropped, the watch as it was. -/
def Part.enterDraining (p : Part) (r : DrainReason) : Part :=
  let q := (p.setTransport .draining).dropPickDeadlines
  { q with ctl := { q.ctl with drainReason := some r } }

/-! ### Removal (R104) -/

/-- A gauge busy with the record's conversion becomes idle (R97). -/
def Part.freeGauge (p : Part) (seq : Half) : Part :=
  { p with track := { p.track with
      gauge := p.track.gauge.filter fun g => !(g.1 == seq) } }

/-- A staging position held by the record is released; a request outstanding for it is abandoned (R56). -/
def Feeder.abandon (f : Feeder) (seq : Half) : Feeder :=
  if f.holder = some seq then
    { f with holder := none, request := false, deadline := none, abandoned := f.abandoned || f.request }
  else f

/-- A record leaves the Sheet Track, and with it the gauge and any staging position it still holds (R79, R97, R104).
R56 names the release for a record that is removed; that a record leaving at AC or PG with its staging stop still in
its covered list (R92) holds nothing either is DEDUCED (notes/assumptions/30.md). -/
def Part.leaveTrack (p : Part) (seq : Half) : Part :=
  Part.freeGauge
    { p with
      track := { p.track with sheets := p.track.sheets.filter fun s => !(s.seq == seq) }
      feeders := p.feeders.map fun f => f.abandon seq } seq

/-- Removal of a record by Transport Control (R104). -/
def Part.removeSheet (p : Part) (s : Sheet) : Part :=
  let q := p.leaveTrack s.seq
  let q : Part := { q with
    gates := { q.gates with
      gdOccupants := q.gates.gdOccupants.filter fun o => !(o.seq == s.seq)
      gxOccupants := q.gates.gxOccupants.filter fun o => !(o.seq == s.seq) }
    arbiter := { q.arbiter with
      pendingSecond := if s.route = some .freshLoop then q.arbiter.pendingSecond - 1 else q.arbiter.pendingSecond }
    loop := q.loop.filter fun e => !(e.seq == s.seq)
    cue := { q.cue with outstanding := q.cue.outstanding.filter fun c => !(c.seq == s.seq) } }
  q.mapGroup s.group fun g => { g with inPath := g.inPath - 1, removed := g.removed + 1 }

/-- Removal of several records, in Sheet Track order. -/
def Part.removeSheets (p : Part) (sheets : List Sheet) : Part := sheets.foldl Part.removeSheet p

/-! ### Picks (R50, R53) -/

/-- A pick request is sent for a tray, with a new deadline (R50). -/
def Part.requestPick (p : Part) (t : TrayId) : Part :=
  let d := p.after p.params.pickLimit
  (p.mapFeeder t fun f => { f with request := true, deadline := some d }).send (.pickRequest t)

/-- A record moves to another tray and is picked there (R53). -/
def Part.moveTo (p : Part) (s : Sheet) (t : TrayId) : Part :=
  let q := p.mapFeeder s.tray fun f => { f with holder := none, request := false, deadline := none }
  let q := q.mapFeeder t fun f => { f with holder := some s.seq }
  (q.mapSheet s.seq fun r => { r with tray := t, attempts := 0 }).requestPick t

/-- A sheet whose pick has been given up is moved to the other tray, or is left stalled (R53). -/
def Part.moveOn (p : Part) (s : Sheet) : Part :=
  if p.ctl.state.picking then
    match p.moveTarget s with
    | some t => p.moveTo s t
    | none => p
  else p

/-! ### Gate positions (R2) -/

def Part.setGd (p : Part) (x : GdPosition) : Part :=
  if p.gates.gd = x then p else Part.send { p with gates := { p.gates with gd := x } } (.gateGd x)

def Part.setGx (p : Part) (x : Destination) : Part :=
  if p.gates.gx = x then p else Part.send { p with gates := { p.gates with gx := x } } (.gateGx x)

/-! ### The accumulator (R135, R136, R138) -/

/-- The set list is emptied, the set group becomes absent and the eject record is dropped. -/
def Part.clearSet (p : Part) : Part := { p with acc := { setGroup := none, sheets := [], eject := none } }

end Sys2Proof.Machine
end

