-- ==== Sys2Proof/Machine/Tables.lean ====
section
/-! DEFINITION. Table loads: the candidate of each table, its validation with the first cause that applies, and its
application (R4, R5, R15 to R17, R26, R43 to R45, R139 to R141). -/

namespace Sys2Proof.Machine

/-! ### Candidates (R4) -/

/-- The current contents with the run of entries put in place of the entries it names. -/
def overlay {α : Type} (current : List α) (first : Nat) (run : List α) : List α :=
  current.take first ++ run ++ current.drop (first + run.length)

/-- The candidate of a table of `size` entries, or EXTENT or INCOMPLETE (R4). -/
def candidate {α : Type} (size : Nat) (current : Option (List α)) (first : Nat) (run : List α) :
    Except LoadCause (List α) :=
  if run.length = 0 ∨ size < first + run.length then .error .extent
  else match current with
    | some c => .ok (overlay c first run)
    | none => if first = 0 ∧ run.length = size then .ok run else .error .incomplete

/-- A further check of a candidate, with the cause it gives when it fails. -/
def alsoCheck {α : Type} (r : Except LoadCause α) (cause : LoadCause) (ok : α → Bool) : Except LoadCause α :=
  match r with
  | .error e => .error e
  | .ok c => if ok c then .ok c else .error cause

/-- Every value within its range, both ends included. -/
def inRanges (ranges : List (Nat × Nat)) (values : List Nat) : Bool :=
  (ranges.zip values).all fun x => decide (x.1.1 ≤ x.2) && decide (x.2 ≤ x.1.2)

/-! ### Path Geometry Table (R4, Table 1-2) -/

/-- The ranges of Table 1-2: RELDIST, and the seven legs. -/
def geometryRanges : List (Nat × Nat) := (100, 4095) :: List.replicate 7 (50, 16383)

def Part.checkGeometry (p : Part) (first : Nat) (run : List Nat) : Except LoadCause (List Nat) :=
  alsoCheck (candidate 8 (p.tables.geometry.map Geometry.entries) first run) .range (inRanges geometryRanges)

/-! ### Parameter Set (R15, R16, Table 1-6) -/

def parameterRanges : List (Nat × Nat) :=
  [(200, 65535), (0, 15), (400, 16383), (0, 1), (0, 255), (0, 255), (0, 63), (0, 255), (100, 4095), (0, 1023),
   (0, 7), (1, 4), (200, 16383), (0, 3), (100, 16383), (0, 1023), (20, 1023), (0, 63), (100, 65535), (0, 65535),
   (1000, 65535), (0, 7)]

/-- The two checks between a Parameter Set and Media Table entries (R16): every valid entry has a slot count of 1 to
4, and the three gauge conversions with one more spacing fit ahead of the shortest sheet's early trail. -/
def crossChecks (s : ParameterSet) (entries : List MediaEntry) : Bool :=
  (entries.filter MediaEntry.valid).all fun m =>
    decide (1 ≤ s.slotCount m.length) && decide (s.slotCount m.length ≤ 4)
      && decide (s.sampleDelay + 3 * s.sampleSpacing + s.lenTol < m.length)

def Part.mediaInForce (p : Part) : List MediaEntry := (p.tables.media.map MediaTable.entries).getD []

def Part.checkParameters (p : Part) (first : Nat) (run : List Nat) : Except LoadCause (List Nat) :=
  alsoCheck
    (alsoCheck
      (alsoCheck (candidate 22 (p.tables.parameters.map ParameterSet.entries) first run) .range
        (inRanges parameterRanges))
      .conflict fun c => decide ((ParameterSet.mk c).gateClear ≤ (ParameterSet.mk c).gapMin))
    .cross fun c => crossChecks ⟨c⟩ p.mediaInForce

/-! ### Media Table (R44, Table 3-1) -/

def MediaEntry.inRange (m : MediaEntry) : Bool :=
  decide (1000 ≤ m.length) && decide (m.length ≤ 6000) && decide (1 ≤ m.primary) && decide (m.primary ≤ 4)
    && decide (m.alternate ≤ 4) && decide (4 ≤ m.nominal) && decide (m.nominal ≤ 200)

def Part.checkMedia (p : Part) (first : Nat) (run : List MediaEntry) : Except LoadCause (List MediaEntry) :=
  alsoCheck
    (alsoCheck
      (alsoCheck (candidate 16 (p.tables.media.map MediaTable.entries) first run) .range
        fun c => (c.filter MediaEntry.valid).all MediaEntry.inRange)
      .conflict fun c => (c.filter MediaEntry.valid).all fun m => !(m.alternate == m.primary))
    .cross fun c =>
      match p.tables.parameters with
      | some s => crossChecks s c
      | none => true

/-! ### Routing Table (R26) -/

def Part.checkRouting (p : Part) (first : Nat) (run : List RoutingEntry) : Except LoadCause (List RoutingEntry) :=
  alsoCheck (candidate 32 (some p.tables.routing) first run) .range
    fun _ => run.all fun e => decide (e.bin ≤ 7) && decide (e.jog ≤ 1)

/-! ### Bin Map (R140, Table 8-2) -/

def BinMapEntry.inRange : BinMapEntry → Bool
  | .logical a b => decide (1 ≤ a) && decide (a ≤ 6) && decide (b ≤ 6)
  | .physical c m => decide (1 ≤ c) && decide (c ≤ 4000) && decide (m ≤ 1)
  | .purge c => decide (1 ≤ c) && decide (c ≤ 1000)

def BinMapEntry.noConflict : BinMapEntry → Bool
  | .logical a b => !(a == b)
  | _ => true

/-- The part with a Bin Map in force, for reading a candidate's capacities. -/
def Part.withBinMap (p : Part) (c : List BinMapEntry) : Part :=
  { p with tables := { p.tables with binMap := some ⟨c⟩ } }

/-- No room already promised is taken away (R140). -/
def Part.capacitiesCover (p : Part) (c : List BinMapEntry) : Bool :=
  (BinId.list.all fun b =>
    decide ((p.stacker.bins.get b).stacked + p.reservedIn b ≤ (p.withBinMap c).capacity b))
  && decide (p.stacker.purgeStacked + p.sheetsInPart ≤ (p.withBinMap c).purgeCapacity)

def Part.checkBinMap (p : Part) (first : Nat) (run : List BinMapEntry) : Except LoadCause (List BinMapEntry) :=
  alsoCheck
    (alsoCheck
      (alsoCheck (candidate 15 (p.tables.binMap.map BinMap.entries) first run) .range
        fun c => c.all BinMapEntry.inRange)
      .conflict fun c => c.all BinMapEntry.noConflict)
    .cross p.capacitiesCover

/-! ### Application -/

/-- The slot count of an entry, held for a valid entry while the Parameter Set is loaded (R43). -/
def MediaEntry.withSlots (m : MediaEntry) (s : Option ParameterSet) : MediaEntry :=
  { m with slots := if m.valid then s.map fun s => s.slotCount m.length else none }

def MediaTable.withSlots (t : MediaTable) (s : Option ParameterSet) : MediaTable :=
  ⟨t.entries.map fun m => m.withSlots s⟩

/-- A Path Geometry Table applied (R5). -/
def Part.applyGeometry (p : Part) (c : List Nat) : Part :=
  { p with tables := { p.tables with geometry := some ⟨c⟩ } }

/-- A Media Table applied (R45). -/
def Part.applyMedia (p : Part) (c : List MediaEntry) : Part :=
  { p with tables := { p.tables with media := some (MediaTable.withSlots ⟨c⟩ p.tables.parameters) } }

/-- A Parameter Set applied (R17, R43, R75): divider, fraction accumulator, pitch counter and, in RUNNING, the cadence
watch; the setting goes to the mechanics when the motors run (R7). -/
def Part.applyParameters (p : Part) (c : List Nat) : Part :=
  let s : ParameterSet := ⟨c⟩
  let q : Part := { p with
    tables := { p.tables with
      parameters := some s
      media := p.tables.media.map fun t => t.withSlots (some s) }
    clock := { p.clock with spdInt := s.spdInt, spdFrac := s.spdFrac, fraction := 0 }
    arbiter := { p.arbiter with pitch := 0, expiryDue := false } }
  let q := if q.ctl.state = .running then q.armWatch else q
  if q.ctl.state.motors then q.send (.divider s.spdInt s.spdFrac) else q

/-- A bin as a Bin Map load that takes its release mode from `old` to `new` leaves it (R141): a change from ON_NOTICE to
ON_DOOR ends a hold with the door closed, the stacked count becoming 0, and loses a notice remembered with the door
open. `old` is absent at a first load, which changes no mode (notes/assumptions/20.md). -/
def Bin.underMode (b : Bin) (old : Option ReleaseMode) (new : ReleaseMode) : Bin :=
  if old = some .onNotice ∧ new = .onDoor then
    if b.doorOpen then { b with remembered := false }
    else if b.hold then { b with hold := false, stacked := 0 }
    else b
  else b

/-- The release mode of a bin, absent while the Bin Map is not loaded. -/
def Part.releaseMode? (p : Part) (b : BinId) : Option ReleaseMode := p.tables.binMap.map fun m => m.mode b

/-- Every bin's state formed again, after a change `f` of the bins (R141). -/
def Part.reformBins (p : Part) (f : BinId → Bin → Bin) : Part :=
  BinId.list.foldl (fun q b => q.setBin b (f b (q.stacker.bins.get b))) p

/-- A Bin Map applied (R141). -/
def Part.applyBinMap (p : Part) (c : List BinMapEntry) : Part :=
  (p.withBinMap c).reformBins fun b x => x.underMode (p.releaseMode? b) (BinMap.mode ⟨c⟩ b)

def Part.applyRouting (p : Part) (c : List RoutingEntry) : Part :=
  { p with tables := { p.tables with routing := c } }

/-- A validated locked load applied (R183). -/
def Part.applyLocked (p : Part) : PendingLoad → Part
  | .geometry c => p.applyGeometry c
  | .parameters c => p.applyParameters c
  | .media c => p.applyMedia c

/-- Validation of a LOAD of a locked table (R4, R15, R44). -/
def Part.checkLocked (p : Part) (t : TableId) (first : Nat) (body : List Byte) : Except LoadCause PendingLoad :=
  match t with
  | .geometry => (p.checkGeometry first (wordEntries body)).map .geometry
  | .parameters => (p.checkParameters first (wordEntries body)).map .parameters
  | .media => (p.checkMedia first (mediaEntries body)).map .media
  | .routing | .binMap => .error .extent

/-- Validation and application of a LOAD of a live table (R26, R140, R141): the part after it, and the cause when it
is refused. -/
def Part.liveLoad (p : Part) (t : TableId) (first : Nat) (body : List Byte) : Part × Option LoadCause :=
  match t with
  | .routing =>
    match p.checkRouting first (routingEntries body) with
    | .ok c => (p.applyRouting c, none)
    | .error e => (p, some e)
  | .binMap =>
    match p.checkBinMap first (binMapEntries first body) with
    | .ok c => (p.applyBinMap c, none)
    | .error e => (p, some e)
  | .geometry | .parameters | .media => (p, some .extent)

def TableId.live : TableId → Bool
  | .routing | .binMap => true
  | _ => false

end Sys2Proof.Machine
end

