-- ==== Sys2Proof/Machine/Planner.lean ====
section
/-! DEFINITION. The events at the Order Queue head: truncation at the first examination of a FIRST order, admission, a
group broken from the start, a further order, a discard, an orphan, STOP, PURGE and the loads (Chapter 2, R155, R181 to
R184). Each event is an Option: `none` when the head record is not that event's, or its conditions do not hold. -/

namespace Sys2Proof.Machine

/-! ### Taking an order into a pick (R50, R78) -/

/-- The sheet record of an order (R18, R50, R78). -/
def sheetOf (o : SheetOrder) (m : MediaEntry) (k : GroupKey) (seq : Half) (t : TrayId) : Sheet :=
  { seq := seq, tag := o.tag, group := k, media := o.media.toNat, length := m.length, slots := m.slots.getD 0,
    nominal := m.nominal, plex := o.plex, imageA := o.imageA, imageB := o.imageB && o.plex == .duplex,
    pass := .first, route := none, destination := .stack, spoil := none, state := .picking, tray := t,
    attempts := 0, launchTick := none, launchOrder := none, itinerary := [], window := none, covered := [],
    exitDecision := none, thickness := none, sampling := .idle, cueA := .none, cueB := .none }

/-- An order taken into a pick for the group `k` on tray `t` (R24, R29, R50). -/
def Part.takeIntoPick (p : Part) (o : SheetOrder) (m : MediaEntry) (k : GroupKey) (t : TrayId) : Part :=
  let seq := p.track.nextSeq
  let q : Part := { p with
    track := { p.track with sheets := p.track.sheets ++ [sheetOf o m k seq t], nextSeq := seq + 1 } }
  let q := (q.mapFeeder t fun f => { f with holder := some seq }).mapGroup k
    fun g => { g with accepted := g.accepted + 1, inPath := g.inPath + 1 }
  if q.usable t then q.requestPick t else q

/-- The LAST order taken into a pick closes the group intact (R31, R144). -/
def Part.closeIntact (p : Part) (k : GroupKey) (tag : Half) : Part :=
  let accepted := optNat Group.accepted (p.group? k)
  let q := (p.mapGroup k fun g => { g with lastTag := some tag, state := .closed }).clearOpen
  { q with stacker := { q.stacker with
      allowances := q.stacker.allowances.map fun a => if a.group == k then { a with count := accepted } else a } }

def Part.closeIfLast (p : Part) (o : SheetOrder) (k : GroupKey) : Part :=
  if o.last then p.closeIntact k o.tag else p

/-! ### Group entries (R21, R24) -/

def groupOf (k : GroupKey) (o : SheetOrder) (f : FirstFields) : Group :=
  { key := k, id := o.group, firstTag := o.tag, lastTag := none, declared := f.declared.toNat, bin := none,
    policy := .fixed, state := .admitting, reason := none, accepted := 0, inPath := 0, inSet := 0, delivered := 0,
    purged := 0, removed := 0, unfed := 0, jog := none }

/-- A new entry at the end of the Group Table (R24, R27). -/
def Part.addGroup (p : Part) (g : Group) : Part :=
  { p with groups := { entries := p.groups.entries ++ [g], nextKey := p.groups.nextKey + 1 } }

def Part.setOpen (p : Part) (k : GroupKey) : Part := { p with planner := { p.planner with openGroup := some k } }

/-- An allowance entry appended for a group (R143). -/
def Part.reserve (p : Part) (a : Allowance) : Part :=
  { p with stacker := { p.stacker with allowances := p.stacker.allowances ++ [a] } }

/-- The order at the head, when the state lets the Planner examine it (R19). -/
def Part.headOrder (p : Part) : Option SheetOrder :=
  match p.link.orders with
  | .order o :: _ => if p.ctl.state.examines then some o else none
  | _ => none

/-! ### FIRST orders (R20 to R24, R37) -/

/-- The truncation made at the first examination of a FIRST order (R20, R37). -/
def Part.headTruncation (p : Part) : Option Part :=
  match p.headOrder with
  | some o => if o.first.isSome && p.planner.openGroup.isSome then some p.truncate else none
  | none => none

/-- The taking of a FIRST order into admission (R24). -/
def Part.openGroupWith (p : Part) (o : SheetOrder) (f : FirstFields) (g : Grant) : Part :=
  let k := p.groups.nextKey
  let q := p.takeHead.addGroup { groupOf k o f with bin := some g.bin, policy := g.policy }
  let q := (q.setOpen k).reserve { group := k, bin := g.bin, count := f.declared.toNat, alternate := g.alternate }
  (q.takeIntoPick o g.media k g.tray).closeIfLast o k

/-- GROUP_ADMISSION: a FIRST order taken into admission once all its conditions hold (R23, R24). -/
def Part.groupAdmission (p : Part) : Option Part :=
  match p.headOrder with
  | none => none
  | some o =>
    match o.first with
    | none => none
    | some f =>
      let q := p.truncate
      match q.startBreak o f, q.admissionCheck o f with
      | none, .ok g => some (q.openGroupWith o f g)
      | _, _ => none

/-- The taking of an order that opens a group broken from the start (R21). -/
def Part.openBroken (p : Part) (o : SheetOrder) (f : FirstFields) (r : BreakReason) : Part :=
  let k := p.groups.nextKey
  let g := { groupOf k o f with accepted := 1, unfed := 1, reason := some r }
  let q := p.takeHead
  if o.last then q.addGroup { g with state := .brokenClosed, lastTag := some o.tag }
  else (q.addGroup { g with state := .brokenOpen }).setOpen k

/-- BROKEN_FROM_START: a FIRST order with an invalid count or an unknown media code is taken (R21, R23). -/
def Part.brokenFromStart (p : Part) : Option Part :=
  match p.headOrder with
  | none => none
  | some o =>
    match o.first with
    | none => none
    | some f =>
      let q := p.truncate
      match q.startBreak o f, q.tableCheck with
      | some r, .ok _ => some (q.openBroken o f r)
      | _, _ => none

/-! ### Orders after the first (R30 to R33) -/

/-- The discard of an order as unfed (R32). -/
def Part.discard (p : Part) (o : SheetOrder) (k : GroupKey) : Part :=
  let q := p.takeHead.mapGroup k fun g => { g with accepted := g.accepted + 1, unfed := g.unfed + 1 }
  if o.last then (q.mapGroup k fun g => { g with state := .brokenClosed, lastTag := some o.tag }).clearOpen
  else q.closeAtCap k

/-- The discard of an order as an orphan (R33): counted, and breaking an ADMITTING open group with SEQUENCE. A CREDIT of
the taking (R179) goes before the STREAM FAULT (DESIGN CHOICE, notes/assumptions/18.md). -/
def Part.discardOrphan (p : Part) : Part :=
  (p.takeHead.streamFault { StreamFault.zero with orphan := 1 }).breakOpen .sequence

/-- The open group of an order not marked FIRST, when their group ids are equal (Table 2-2). -/
def Part.ownGroup (p : Part) (o : SheetOrder) : Option Group :=
  if o.first.isSome then none else p.openGroup?.filter fun g => g.id == o.group

/-- The reason for which a further order breaks its ADMITTING group (R30). -/
def Part.furtherBreak (p : Part) (o : SheetOrder) (g : Group) : Option BreakReason :=
  if g.accepted = g.declared then some .overlength
  else if (p.media? o.media.toNat).isNone then some .media
  else none

/-- FURTHER_ORDER_PICK: an order of the ADMITTING open group is examined. It breaks the group and is then discarded as
unfed, or as an orphan when the break closed the group at 64 (R30, R32); or it is taken into a pick. -/
def Part.furtherOrderPick (p : Part) : Option Part :=
  match p.headOrder with
  | none => none
  | some o =>
    match p.ownGroup o with
    | none => none
    | some g =>
      if g.state = .admitting then
        match p.furtherBreak o g with
        | some r =>
          let q := p.breakGroup g.key r
          some (if q.planner.openGroup.isSome then q.discard o g.key else q.discardOrphan)
        | none =>
          match p.media? o.media.toNat with
          | none => none
          | some m =>
            if p.ctl.state.picking then
              match p.pickCheck m with
              | .ok t => some ((p.takeHead.takeIntoPick o m g.key t).closeIfLast o g.key)
              | .error _ => none
            else none
      else none

/-- DISCARDED_AS_UNFED: an order of the BROKEN_OPEN open group is taken and discarded (R32). -/
def Part.discardedAsUnfed (p : Part) : Option Part :=
  match p.headOrder with
  | none => none
  | some o =>
    match p.ownGroup o with
    | some g => if g.state = .brokenOpen then some (p.discard o g.key) else none
    | none => none

/-- ORPHAN: an order not marked FIRST that belongs to no open group is taken and discarded (R33). -/
def Part.orphanTaken (p : Part) : Option Part :=
  match p.headOrder with
  | none => none
  | some o => if o.first.isNone && (p.ownGroup o).isNone then some p.discardOrphan else none

/-! ### STOP and PURGE (R38, R155) -/

/-- STOP_TAKEN: a STOP at the head is taken in the states of R155. -/
def Part.stopTaken (p : Part) : Option Part :=
  match p.link.orders with
  | .stop :: _ =>
    match p.ctl.state with
    | .running => some (p.takeHead.truncate.enterDraining .stop)
    | .draining =>
      let q := p.takeHead.truncate
      some (if q.ctl.drainReason = some .load then { q with ctl := { q.ctl with drainReason := some .stop } } else q)
    | .standby | .runout | .safe => some p.takeHead.truncate
    | .warmup | .halted | .jammed | .recovery => none
  | _ => none

/-- PURGE_TAKEN: a PURGE at the head is taken and breaks an ADMITTING open group (R19, R38). -/
def Part.purgeTaken (p : Part) : Option Part :=
  match p.link.orders with
  | .purge :: _ => if p.ctl.state.examines then some (p.takeHead.breakOpen .purged) else none
  | _ => none

/-! ### Loads (R181 to R184) -/

/-- The LOAD RESULT takes the place kept for it before the taken record is counted toward credit (R179, R184). -/
def Part.loadResult (p : Part) (t : TableId) (cause : Option LoadCause) : Part :=
  ((p.dropHead).appendReport (.loadResult t cause)).countTaken

/-- LIVE_LOAD_TAKEN: a LOAD of the Routing Table or the Bin Map at the head (R181). -/
def Part.liveLoadTaken (p : Part) : Option Part :=
  match p.link.orders with
  | .load t first body :: _ =>
    if TableId.live t && p.loadRoom then
      let r := p.liveLoad t first body
      some (r.1.loadResult t r.2)
    else none
  | _ => none

def Part.setPendingLoad (p : Part) (c : Option PendingLoad) : Part :=
  { p with link := { p.link with pendingLoad := c } }

/-- LOCKED_LOAD_TAKEN: a LOAD of a locked table at the head, applied at once with the path empty, made pending with a
drain in RUNNING or DRAINING (R182). -/
def Part.lockedLoadTaken (p : Part) : Option Part :=
  match p.link.orders with
  | .load t first body :: _ =>
    if !TableId.live t && p.loadRoom && p.link.pendingLoad.isNone
        && (p.pathEmpty || p.ctl.state == .running || p.ctl.state == .draining) then
      match p.checkLocked t first body with
      | .error e => some (p.loadResult t (some e))
      | .ok c =>
        let q := p.loadResult t none
        if p.pathEmpty then some (q.applyLocked c)
        else
          let q := (q.setPendingLoad (some c)).truncate
          some (if p.ctl.state = .running then q.enterDraining .load else q)
    else none
  | _ => none

/-- PENDING_LOAD_APPLIED: the pending load is applied at the first event that leaves the path empty (R183). -/
def Part.pendingLoadApplied (p : Part) : Option Part :=
  match p.link.pendingLoad with
  | some c =>
    if p.pathEmpty then some ((p.setPendingLoad none).applyLocked c) else none
  | none => none

end Sys2Proof.Machine
end

