-- ==== Sys2Proof/Machine/Cascade.lean ====
section
/-! DEFINITION. What follows within one event. A command's own effect is followed, in the same event, by everything the
rules put "in the same event" or "at the first moment" at which its conditions hold: a pending load's application, the
end of a drain, runout or recovery, the start of a due eject, the resolution of a group, the end of a stall, and the
records at the Order Queue head. Then the waiting reasons, the ATTENTION record and the return transmission follow. -/

namespace Sys2Proof.Machine

/-! ### Ends of a drain, a runout and a recovery -/

/-- The entry to RUNNING after a drain of reason LOAD (R12, R55, R158). -/
def Part.resumeRunning (p : Part) : Part := (p.setTransport .running).dropTimed.renewPickDeadlines.armWatch

/-- DRAIN_END: the path is empty in DRAINING (R158). -/
def Part.drainEnd (p : Part) : Option Part :=
  if p.ctl.state = .draining ∧ p.pathEmpty = true then
    some (if p.ctl.drainReason = some .load then p.resumeRunning else p.enterStandby)
  else none

/-- The entry to SAFE (R99, R151, R173). -/
def Part.enterSafe (p : Part) : Part :=
  ((p.setTransport .safe).dropTimed.disarmWatch.dropPickDeadlines.discardSampling).send .motorStop

/-- RUNOUT_END: the path is empty in RUNOUT (R173). -/
def Part.runoutEnd (p : Part) : Option Part :=
  if p.ctl.state = .runout ∧ p.pathEmpty = true then
    some (if p.ctl.powerWarn then p.enterSafe else p.enterSafe.enterStandby)
  else none

def Part.dropSweepClass (p : Part) : Part := { p with ctl := { p.ctl with sweepClass := none } }

/-- The recovery ends clean once the run end has been reached, with the accumulator empty and no eject in flight
(R170). -/
def Part.recoveryEnd (p : Part) : Option Part :=
  if p.ctl.state = .recovery ∧ p.ctl.runEndReached = true ∧ p.acc.sheets = [] ∧ p.acc.eject = none then
    some p.dropSweepClass.enterStandby
  else none

/-! ### Ejects (R131, R133, R134) -/

/-- An eject request is sent and the eject record is made ACTIVE. -/
def Part.startEject (p : Part) (target : EjectTarget) (jog : Jog) : Part :=
  let e : Eject :=
    { target := target, jog := jog, count := p.acc.sheets.length,
      deadline := some (p.after p.params.ejectLimit), status := .active }
  Part.send { p with acc := { p.acc with eject := some e } } (.ejectRequest target jog)

/-- A broken set goes to the purge bin (R134). -/
def Part.ejectToPurge (p : Part) : Part := p.startEject .purge .left

def Part.ejectToBin (p : Part) (b : BinId) : Part := p.startEject (.bin b) (p.stacker.bins.get b).jog

/-- The alternate bin a set may be redirected to (R133, case 2). -/
def Part.redirectBin (p : Part) (g : Group) : Option BinId :=
  match (p.allowance? g.key).bind Allowance.alternate with
  | none => none
  | some b =>
    if !(g.bin == some b) && (p.stacker.bins.get b).state == .ready && decide (p.acc.sheets.length ≤ p.freeRoom b)
    then some b else none

/-- The allowance entry moves to the alternate bin, with the set's count, and the group's physical bin with it. -/
def Part.redirect (p : Part) (g : Group) (b : BinId) : Part :=
  let q : Part := { p with stacker := { p.stacker with
    allowances := p.stacker.allowances.map fun a =>
      if a.group == g.key then { a with bin := b, count := p.acc.sheets.length } else a } }
  q.mapGroup g.key fun g => { g with bin := some b }

/-- A group whose physical bin is READY (R133, case 1). -/
def Part.readyBin (p : Part) (g : Group) : Option BinId :=
  g.bin.filter fun b => (p.stacker.bins.get b).state == .ready

/-- An intact complete set is ejected to its bin, to its alternate, or, its group broken with BIN, to purge (R133). -/
def Part.ejectIntact (p : Part) (g : Group) : Part :=
  match p.readyBin g with
  | some b => p.ejectToBin b
  | none =>
    match p.redirectBin g with
    | some b => (p.redirect g b).ejectToBin b
    | none => (p.breakGroup g.key .bin).ejectToPurge

/-- SET_EJECT_START: a due set in a moving state is ejected (R131). -/
def Part.setEjectStart (p : Part) : Option Part :=
  match p.acc.setGroup.bind p.group? with
  | none => none
  | some g =>
    if !p.ctl.state.moving then none
    else if p.dueIntact g then some (p.ejectIntact g)
    else if p.dueBroken g then some p.ejectToPurge
    else none

/-! ### Resolution (R40, R41) -/

/-- The GROUP RESULT of an entry as its counts stand (R41). -/
def Group.result (g : Group) : GroupResult :=
  { group := g.id
    outcome := if g.state = .closed then .delivered g.bin g.jog else .broken g.reason
    firstTag := g.firstTag
    lastTag := g.lastTag
    accepted := g.accepted
    delivered := g.delivered
    purged := g.purged
    removed := g.removed
    unfed := g.unfed }

/-- An entry's GROUP RESULT is appended and the entry leaves the table (R27, R40, R71). -/
def Part.reportGroup (p : Part) (g : Group) : Part :=
  let q := p.appendReport (.groupResult g.result)
  { q with
    groups := { q.groups with entries := q.groups.entries.filter fun x => !(x.key == g.key) }
    arbiter := { q.arbiter with
      cadenceGroup := if q.arbiter.cadenceGroup == some g.key then none else q.arbiter.cadenceGroup } }

/-- A closed group with no sheet in path or in set, not resolved before (R40). -/
def Part.resolvable (p : Part) (g : Group) : Bool :=
  g.state.closedState && g.inPath == 0 && g.inSet == 0 && !p.link.held.results.contains g.key

/-- GROUP_RESOLUTION: the first such group is resolved, its result appended or held (R40, R186). -/
def Part.groupResolution (p : Part) : Option Part :=
  match p.groups.entries.find? p.resolvable with
  | none => none
  | some g =>
    if p.reportRoom then some (p.reportGroup g)
    else some { p with link := { p.link with held := { p.link.held with
                  results := p.link.held.results ++ [g.key] } } }

/-! ### Stalls (R54) -/

/-- The tray that ends a sheet's stall: its own when usable with its staging sensor uncovered, or, its own not usable,
the other. -/
def Part.stallTray (p : Part) (s : Sheet) : Option TrayId :=
  if p.usable s.tray then (if p.sensors.staging.get s.tray then none else some s.tray) else p.moveTarget s

/-- STALL_END: the stalled sheet of lowest seq that a tray can serve gets a pick request (R54). -/
def Part.stallEnd (p : Part) : Option Part :=
  if p.ctl.state.picking then
    match lowestSeq (p.track.sheets.filter fun s => p.stalled s && (p.stallTray s).isSome) with
    | none => none
    | some s =>
      match p.stallTray s with
      | none => none
      | some t =>
        if t = s.tray then some ((p.mapSheet s.seq fun r => { r with attempts := 0 }).requestPick t)
        else some (p.moveTo s t)
  else none

/-! ### The cascade -/

/-- The first event that the rules put at this moment, carried out; `none` when nothing more follows. The end of a
recovery stands last, so that a LOAD at the head is taken in RECOVERY once the path is empty there (R182). -/
def Part.internal (p : Part) : Option Part :=
  p.pendingLoadApplied <|> p.drainEnd <|> p.runoutEnd <|> p.setEjectStart <|> p.groupResolution <|> p.stallEnd
    <|> p.headTruncation <|> p.groupAdmission <|> p.brokenFromStart <|> p.furtherOrderPick
    <|> p.discardedAsUnfed <|> p.orphanTaken <|> p.stopTaken <|> p.purgeTaken <|> p.liveLoadTaken
    <|> p.lockedLoadTaken <|> p.recoveryEnd

def Part.settleIn : Nat → Part → Part
  | 0, p => p
  | n + 1, p =>
    match p.internal with
    | none => p
    | some q => q.settleIn n

/-- A bound on the events one event can bring about (notes/assumptions/6.md). -/
def Part.fuel (p : Part) : Nat :=
  8 * p.link.orders.length + p.groups.entries.length + p.track.sheets.length + 8

/-- Everything that follows in the same event. -/
def Part.settle (p : Part) : Part := p.settleIn p.fuel

/-! ### The end of an event -/

/-- The waiting reasons as the event leaves them; a change from what they were before it makes an ATTENTION occurrence
(R25, R58). A reason that ends and comes back within one event is no change: that is the model's (DESIGN CHOICE,
notes/assumptions/36.md). -/
def Part.updateWaits (p : Part) : Part :=
  let w := p.plannerWait
  let r := p.reportedWait w
  if p.planner.waiting = w ∧ p.planner.reported = r then p
  else Part.notice { p with planner := { p.planner with waiting := w, reported := r } }

/-- An ATTENTION occurrence made in the event is dealt with, its snapshot as the event leaves the state (R188). -/
def Part.attend (p : Part) : Part :=
  let q := p.updateWaits
  if q.attentionDue then q.noticed.attention else q

/-- A transmission of the head report begins (R191). R191 names the event and no place within it: the model begins the
transmission last (DESIGN CHOICE, notes/assumptions/34.md). -/
def Part.beginSending (p : Part) : Part :=
  match p.link.reports with
  | r :: _ =>
    if p.link.returnReady && !p.link.transmitting then
      Part.send { p with link := { p.link with transmitting := true } } (.frame r.frame)
    else p
  | [] => p

/-- The end of an event, with the begin of a transmission last (notes/assumptions/34.md). The second `attend` follows
a waiting reason that the first ATTENTION's own place in the Report Queue changed. -/
def Part.finish (p : Part) : Part := p.attend.attend.beginSending

/-- One event after its own effect: all that follows, and its end. -/
def Part.close (p : Part) : Part := p.settle.finish

/-- An event that takes place only when its conditions hold; otherwise the part is as it was. -/
def Part.attempt (p : Part) (e : Part → Option Part) : Part := (e p).getD p

/-- A step begins: nothing sent yet. -/
def Part.start (p : Part) : Part := { p with sent := [] }

/-- A machine state with another part, its queue as it was. -/
def State.withPart (s : State) (p : Part) : State := { s with toPart := p }

/-- The machine after an event whose own effect left the part as `p`. -/
def State.after (s : State) (p : Part) : State := s.withPart p.close

/-- A command whose own effect on the part is `f`. -/
def State.run (s : State) (f : Part → Part) : Host.Outcome State Fault Refusal := .next (s.after (f s.toPart.start))

end Sys2Proof.Machine
end

