-- ==== Sys2Proof/Machine/Arbiter.lean ====
section
/-! DEFINITION. The Launch Arbiter and the cadence line: boundaries, candidates, launches, starvation, the pitch
counter's expiry, the cadence pulse and the cadence watch (Chapter 4, R9 to R14), with the lead windows and trail
watches that a launch opens (R82, R83, R88). -/

namespace Sys2Proof.Machine

/-! ### Windows and watches -/

/-- The lead window of a leg that ends at `q`, from an arrival at tick `a` (R83). -/
def Part.windowFor (p : Part) (q : PathSensor) (a : Tick) : Window :=
  let d := p.legTo q
  let s := p.params
  let e := a + BitVec.ofNat 32 d
  { station := q
    expected := e
    early := e - BitVec.ofNat 32 (min s.earlyMargin (d - 1))
    late := e + BitVec.ofNat 32 (min 4095 (s.fixMargin + d * s.slip / 1024)) }

/-- The covered-list entry of a sheet of some length at a station from an arrival at tick `a` (R88). -/
def Part.coverFor (p : Part) (q : Sensor) (length : Nat) (a : Tick) : CoverEntry :=
  let s := p.params
  let t := a + BitVec.ofNat 32 length
  { station := q
    arrival := a
    short := t - BitVec.ofNat 32 s.lenTol
    long := t + BitVec.ofNat 32 (min 4095 (s.lenTol + length * s.slip / 1024)) }

/-! ### Candidates (R61, R63 to R65) -/

/-- The states that allow an FF launch (Table 4-2). -/
def TransportState.allowsFF : TransportState → Bool
  | .running | .draining => true
  | _ => false

/-- The states that allow a DR launch (Table 4-2). -/
def TransportState.allowsDR : TransportState → Bool
  | .running | .draining | .runout => true
  | _ => false

/-- Set spacing at a boundary of slot index `k` (R65). -/
def Part.spacingMet (p : Part) (k : BitVec 32) (s : Sheet) : Bool :=
  s.spoiled || p.arbiter.lastSetGroup == some s.group ||
    match p.arbiter.lastExit with
    | none => true
    | some e => decide (((e.slots + p.params.setGap : Nat) : Int) ≤ (k - e.slot).toInt)

/-- The FF candidate: the fresh sheet of lowest seq (R63). -/
def Part.ffCandidate (p : Part) : Option Sheet := lowestSeq (p.track.sheets.filter Sheet.fresh)

def Part.ffEligible (p : Part) (k : BitVec 32) (s : Sheet) : Bool :=
  p.ctl.state.allowsFF && s.state == .staged &&
    (s.spoiled ||
      match s.plex with
      | .simplex => p.arbiter.pendingSecond == 0 && p.spacingMet k s
      | .duplex => decide (p.arbiter.pendingSecond < Config.fourSheets))

/-- The DR candidate: the loop head, when it is PARKED (R64). -/
def Part.drCandidate (p : Part) : Option Sheet :=
  match p.loop with
  | e :: _ => if e.state = .parked then p.sheet? e.seq else none
  | [] => none

def Part.drEligible (p : Part) (k : BitVec 32) (s : Sheet) : Bool :=
  p.ctl.state.allowsDR && p.spacingMet k s

/-! ### Launches (R68, R69, R71, R82) -/

/-- A loop-bound launch is the fresh-feed launch of an unspoiled duplex sheet (4.1). -/
def Sheet.loopBound (s : Sheet) : Bool := !s.spoiled && s.plex == .duplex

/-- The record of a launched sheet (R68, R69, R82). -/
def Part.launched (p : Part) (s : Sheet) (pass : Pass) (route : Route) (covered : List CoverEntry) : Sheet :=
  { s with
    state := .moving
    pass := pass
    route := some route
    launchTick := some p.clock.tick
    launchOrder := some p.arbiter.launchCounter
    itinerary := [.mg, .rg, .tr, .fx, if route = .freshLoop then .dl else .xs]
    window := some (p.windowFor .mg p.clock.tick)
    covered := covered
    exitDecision := none
    sampling := if s.thickness.isSome then s.sampling else .idle }

/-- The cadence group after an FF launch of the sheet (R71). -/
def Part.followCadence (p : Part) (s : Sheet) : Part :=
  if s.spoiled then p
  else
    let finished := (p.group? s.group).any (fun g => g.state == .closed)
      && !(p.track.sheets.any fun r => r.group == s.group && r.fresh)
    { p with arbiter := { p.arbiter with cadenceGroup := if finished then none else some s.group } }

/-- The arbiter's own state after a launch of the sheet at the slot just taken; `exit` is an exit-bound launch. -/
def Arbiter.afterLaunch (a : Arbiter) (s : Sheet) (exit : Bool) (pendingSecond : Nat) : Arbiter :=
  { a with
    launchCounter := a.launchCounter + 1
    block := s.slots - 1
    pendingSecond := pendingSecond
    lastExit := if exit then some ⟨a.slotIndex, s.slots⟩ else a.lastExit
    lastSetGroup := if exit && !s.spoiled then some s.group else a.lastSetGroup }

/-- An FF launch (R68). -/
def Part.launchFF (p : Part) (s : Sheet) : Part :=
  let route : Route := if s.loopBound then .freshLoop else .freshExit
  let q := p.mapSheet s.seq fun r =>
    p.launched r .first route [p.coverFor (.st r.tray) r.length p.clock.tick]
  let n := if s.loopBound then q.arbiter.pendingSecond + 1 else q.arbiter.pendingSecond
  let q : Part := { q with arbiter := q.arbiter.afterLaunch s (!s.loopBound) n }
  (q.followCadence s).send (.releaseRequest s.tray)

/-- A DR launch (R69, R123). -/
def Part.launchDR (p : Part) (s : Sheet) : Part :=
  let q := p.mapSheet s.seq fun r => p.launched r .second .second []
  Part.send
    { q with
      loop := q.loop.tail
      arbiter := q.arbiter.afterLaunch s true (q.arbiter.pendingSecond - 1) }
    .loopRelease

/-! ### The choice and starvation (R60, R66, R72) -/

/-- The launch made at an open boundary of slot index `k`, or none (R66). -/
def Part.choice (p : Part) (k : BitVec 32) : Option Part :=
  match p.ffCandidate.filter (p.ffEligible k), p.drCandidate.filter (p.drEligible k) with
  | some f, none => some (p.launchFF f)
  | none, some d => some (p.launchDR d)
  | some f, some d =>
    some (if p.params.loopDrain ≤ p.arbiter.pendingSecond then p.launchDR d else p.launchFF f)
  | none, none => none

/-- An empty open slot from the cadence line is a starvation when the cadence group's next fresh sheet is not STAGED
(R72), and the group breaks with STARVED at the boundary itself. A break for another reason taken after the boundary then
finds the group broken and has no effect: so R74's last cell is read (DEDUCED, notes/assumptions/32.md). -/
def Part.starve (p : Part) : Part :=
  match p.arbiter.cadenceGroup with
  | none => p
  | some k =>
    if p.ctl.state.allowsFF then
      match lowestSeq (p.track.sheets.filter fun s => s.group == k && s.fresh) with
      | some s => if s.state = .staged then p else p.breakGroup k .starved
      | none => p.breakGroup k .starved
    else p

/-- A slot boundary, from the cadence line or from the pitch counter (R60). -/
def Part.boundary (p : Part) (line : Bool) : Part :=
  let k := p.arbiter.slotIndex + 1
  let q : Part := { p with arbiter := { p.arbiter with slotIndex := k } }
  if 0 < q.arbiter.block then { q with arbiter := { q.arbiter with block := q.arbiter.block - 1 } }
  else match q.choice k with
    | some r => r
    | none => if line then q.starve else q

/-! ### Sources of boundaries -/

/-- PITCH_EXPIRY: the expiry of the pitch counter, a boundary when the counter is the source (R9, R10). -/
def Part.pitchExpiry (p : Part) : Option Part :=
  if p.arbiter.expiryDue then
    let q : Part := { p with arbiter := { p.arbiter with expiryDue := false } }
    some (if p.sourceIsLine then q else q.boundary false)
  else none

/-- A cadence pulse (R11). -/
def Part.cadencePulse (p : Part) : Part :=
  if p.sourceIsLine then
    let q := p.boundary true
    if p.clock.watchArmed then { q with clock := { q.clock with watchReference := p.clock.tick } } else q
  else p

/-- The drain that cadence loss starts or joins (R157). -/
def Part.drainForCadence (p : Part) : Part :=
  match p.ctl.state with
  | .running => p.enterDraining .cadence
  | .draining =>
    if p.ctl.drainReason = some .load then { p with ctl := { p.ctl with drainReason := some .cadence } } else p
  | _ => p

/-- CADENCE_LOSS: the armed watch's deadline, its reference plus twice PITCH, is reached (R13, R73, R157). -/
def Part.cadenceLoss (p : Part) : Option Part :=
  if p.clock.watchArmed && p.reached (p.clock.watchReference + BitVec.ofNat 32 (2 * p.params.pitch)) then
    let q : Part := { p with clock := { p.clock with cadenceLost := true, watchArmed := false } }
    some (q.breakOpen .cadence).drainForCadence.notice
  else none

def execPitchExpiry (s : State) : Host.Outcome State Fault Refusal := s.run fun p => p.attempt Part.pitchExpiry

def execCadencePulse (s : State) : Host.Outcome State Fault Refusal := s.run Part.cadencePulse

def execCadenceLoss (s : State) : Host.Outcome State Fault Refusal := s.run fun p => p.attempt Part.cadenceLoss

end Sys2Proof.Machine
end

