-- ==== Sys2Proof/Machine/Feeders.lean ====
section
/-! DEFINITION. The Tray Feeders: drawers, paper sensors, pick deadlines, stalls (Chapter 3). The staging sensor edges
are in Track.lean. -/

namespace Sys2Proof.Machine

/-- A drawer opens (R46, R47): the tray is OPEN, the abandoned-request mark is cleared, and an outstanding pick is a
misfeed without retry (R53). -/
def Part.openDrawer (p : Part) (t : TrayId) : Part :=
  let had := (p.feeders.get t).request
  let holder := (p.feeders.get t).holder
  let q := (p.mapFeeder t fun f =>
    { f with drawerOpen := true, abandoned := false, request := false, deadline := none }).setTrayState t .opened
  if had then
    match holder.bind q.sheet? with
    | some s => q.moveOn s
    | none => q
  else q

/-- A drawer closes; a tray that was OPEN takes its state from its paper sensors (R46, R47). -/
def Part.closeDrawer (p : Part) (t : TrayId) : Part :=
  let q := p.mapFeeder t fun f => { f with drawerOpen := false }
  let f := p.feeders.get t
  if f.state = .opened then q.setTrayState t (paperState f.paperLow f.paperOut) else q

/-- A tray's state after an edge of a paper sensor (Table 3-4). -/
def TrayState.afterPaper (s : TrayState) (which : PaperSensor) (active : Bool) : TrayState :=
  match s, which, active with
  | .ready, .out, true => .empty
  | .low, .out, true => .empty
  | .ready, .low, true => .low
  | .low, .low, false => .ready
  | s, _, _ => s

/-- A paper-low or paper-out edge (R46). -/
def Part.paperEdge (p : Part) (t : TrayId) (which : PaperSensor) (active : Bool) : Part :=
  let q := p.mapFeeder t fun f =>
    match which with
    | .low => { f with paperLow := active }
    | .out => { f with paperOut := active }
  q.setTrayState t ((p.feeders.get t).state.afterPaper which active)

/-- A misfeed at the pick deadline (R52): a retry, or the sheet is given up on its tray. -/
def Part.misfeed (p : Part) (t : TrayId) (s : Sheet) : Part :=
  let q := p.mapFeeder t fun f => { f with request := false, deadline := none }
  if p.usable t then
    if s.attempts < p.params.pickRetries then
      (q.mapSheet s.seq fun r => { r with attempts := r.attempts + 1 }).requestPick t
    else (q.setTrayState t .fault).moveOn s
  else q.moveOn s

/-- PICK_DEADLINE: the deadline of an outstanding request is reached in WARMUP or RUNNING (R52, R55). -/
def Part.pickDeadline (t : TrayId) (p : Part) : Option Part :=
  let f := p.feeders.get t
  if p.ctl.state.picking && f.request && p.reachedBy f.deadline then
    match f.holder.bind p.sheet? with
    | some s => some (p.misfeed t s)
    | none => none
  else none

def execDrawerOpening (t : TrayId) (s : State) : Host.Outcome State Fault Refusal := s.run fun p => p.openDrawer t

def execDrawerClosing (t : TrayId) (s : State) : Host.Outcome State Fault Refusal := s.run fun p => p.closeDrawer t

def execPaperSensorEdge (t : TrayId) (which : PaperSensor) (active : Bool) (s : State) :
    Host.Outcome State Fault Refusal :=
  s.run fun p => p.paperEdge t which active

def execPickDeadline (t : TrayId) (s : State) : Host.Outcome State Fault Refusal :=
  s.run fun p => p.attempt (Part.pickDeadline t)

/-- The stalled sheet of lowest seq that a tray can serve gets its pick request (R54). -/
def execStallEnd (s : State) : Host.Outcome State Fault Refusal := s.run fun p => p.attempt Part.stallEnd

end Sys2Proof.Machine
end

