-- ==== Sys2Proof/Machine/Track.lean ====
section
/-! DEFINITION. The Sheet Track: covered and uncovered edges of the staging and path sensors, lead arrivals with the
station's work (cues at RG and TR, gate decisions at FX and XS, the collision test at AC), good trails, the path
deadlines and the thickness gauge (Chapter 5, R51, R57, R108, R109, R113, R119, R129, R130). -/

namespace Sys2Proof.Machine

/-! ### Cues at RG and TR (R108, R109, R113) -/

/-- The side facing up (R108). -/
def Sheet.sideUp (s : Sheet) : Side :=
  match s.pass with
  | .first => .a
  | .second => .b

def Sheet.image (s : Sheet) : Side → Bool
  | .a => s.imageA
  | .b => s.imageB

def Sheet.cueState (s : Sheet) : Side → CueState
  | .a => s.cueA
  | .b => s.cueB

def Sheet.setCue (s : Sheet) (side : Side) (c : CueState) : Sheet :=
  match side with
  | .a => { s with cueA := c }
  | .b => { s with cueB := c }

/-- A side missed: the sheet is spoiled with IMAGE_MISS and its group breaks with IMAGE (R109, R113). -/
def Part.missSide (p : Part) (s : Sheet) (side : Side) : Part :=
  ((p.mapSheet s.seq fun r => r.setCue side .missed).spoilSheet s.seq .imageMiss).breakGroup s.group .image

/-- An outstanding cue leaves the list (R107). -/
def Part.dropCue (p : Part) (seq : Half) (side : Side) : Part :=
  { p with cue := { p.cue with
      outstanding := p.cue.outstanding.filter fun c => !(c.seq == seq && c.side == side) } }

/-- The Image Cue Unit at a lead arrival at RG (R108, R109, R115). -/
def Part.cueAtRG (p : Part) (s : Sheet) : Part :=
  let side := s.sideUp
  if s.image side && s.destination == .stack && s.cueState side == .none then
    if p.cue.outstanding.length < Config.fourSheets then
      let q := p.mapSheet s.seq fun r => r.setCue side .cued
      Part.send { q with cue := { q.cue with outstanding := q.cue.outstanding ++ [⟨s.seq, side⟩] } }
        (.cue s.tag s.seq side s.length)
    else p.missSide s side
  else p

/-- The settlement at a lead arrival at TR (R113). -/
def Part.settleAtTR (p : Part) (s : Sheet) : Part :=
  let side := s.sideUp
  if s.cueState side = .cued then (p.dropCue s.seq side).missSide s side else p

/-- Gauge sampling begins at a lead arrival at RG of a record whose thickness is absent (R96). -/
def Part.beginSampling (p : Part) (s : Sheet) : Part :=
  if s.thickness.isSome then p
  else
    let d := p.params.sampleDelay
    let g := p.params.sampleSpacing
    p.mapSheet s.seq fun r =>
      { r with sampling := .sampling [] [p.after d, p.after (d + g), p.after (d + 2 * g)] }

/-! ### Gate decisions (R93 to R95) -/

/-- The GD decision at a lead arrival at FX (R93, R95); the Bool says that no fault was raised. -/
def Part.decideGD (p : Part) (s : Sheet) : Part × Bool :=
  let loop := !s.spoiled && s.pass == .first && s.plex == .duplex
  let need : GdPosition := if loop then .loop else .exit
  if !p.gates.gdOccupants.isEmpty && !(p.gates.gd == need) then (p.raiseFor .gateConflict .gd s, false)
  else
    let q := p.setGd need
    let q : Part := { q with gates := { q.gates with gdOccupants := q.gates.gdOccupants ++ [⟨s.seq, none⟩] } }
    let reroute := s.route == some .freshLoop && !loop
    let q := q.mapSheet s.seq fun r =>
      { r with
        itinerary := [if loop then .dl else .xs]
        route := if reroute then some .freshExit else r.route }
    ({ q with arbiter := { q.arbiter with
        pendingSecond := if reroute then q.arbiter.pendingSecond - 1 else q.arbiter.pendingSecond } }, true)

/-- The GX decision at a lead arrival at XS (R94, R95). -/
def Part.decideGX (p : Part) (s : Sheet) : Part × Bool :=
  let need := s.destination
  if !p.gates.gxOccupants.isEmpty && !(p.gates.gx == need) then (p.raiseFor .gateConflict .gx s, false)
  else
    let q := p.setGx need
    let q : Part := { q with gates := { q.gates with gxOccupants := q.gates.gxOccupants ++ [⟨s.seq, none⟩] } }
    (q.mapSheet s.seq fun r =>
      { r with
        itinerary := [match need with | .stack => .ac | .purge => .pg]
        exitDecision := some need }, true)

/-! ### Lead arrivals (R85, R86) -/

/-- The station's own work at a lead arrival (R86). -/
def Part.stationWork (p : Part) (s : Sheet) (q : PathSensor) : Part × Bool :=
  match q with
  | .rg => ((p.cueAtRG s).beginSampling s, true)
  | .tr => (p.settleAtTR s, true)
  | .fx => p.decideGD s
  | .xs => p.decideGX s
  | .ac => if p.collides s.group then (p.raiseFor .setCollision (.path .ac) s, false) else (p, true)
  | .mg | .dl | .pg => (p, true)

/-- The lead window of the new front station is opened, unless the itinerary has ended (R84). -/
def Part.openWindow (p : Part) (seq : Half) : Part :=
  p.mapSheet seq fun r => { r with window := r.itinerary.head?.map fun q => p.windowFor q p.clock.tick }

/-- A lead arrival of a record at a station (R86). -/
def Part.leadArrival (p : Part) (s : Sheet) (q : PathSensor) : Part :=
  let r := p.mapSheet s.seq fun r =>
    { r with
      window := none
      itinerary := r.itinerary.tail
      covered := r.covered ++ [p.coverFor (.path q) r.length p.clock.tick] }
  let w := r.stationWork s q
  if w.2 then w.1.openWindow s.seq else w.1

/-- The records whose lead window is open at a station (R85). -/
def Part.expectedAt (p : Part) (q : PathSensor) : List Sheet :=
  p.track.sheets.filter fun s => s.window.any fun w => w.station == q

/-- A covered edge matched by launch order (R85). -/
def Part.matchArrival (p : Part) (q : PathSensor) : Part :=
  match lowestLaunch (p.expectedAt q) with
  | none => p.raise .unexpected (some (.path q)) none none
  | some s =>
    if s.window.any fun w => lower p.clock.tick w.early then p.raiseFor .unexpected (.path q) s
    else p.leadArrival s q

/-- A sensor's level (R1). -/
def Part.setPathLevel (p : Part) (q : PathSensor) (x : Bool) : Part :=
  { p with sensors := { p.sensors with path := p.sensors.path.set q x } }

def Part.setStagingLevel (p : Part) (t : TrayId) (x : Bool) : Part :=
  { p with sensors := { p.sensors with staging := p.sensors.staging.set t x } }

/-- A covered edge at a path sensor (R85, R101, R169). -/
def Part.pathCovered (p : Part) (q : PathSensor) : Part :=
  let r := p.setPathLevel q true
  if p.ctl.state.matching then r.matchArrival q
  else if p.ctl.state = .recovery then r.raise .residue (some (.path q)) none none
  else r.anomaly

/-- A covered edge at a staging sensor (R51, R56, R57, R169). An arrival after a pick deadline at the same tick finds the
request of the retry (R52) when there is one, and stages the sheet for it: so R51's last sentence is read (DEDUCED,
notes/assumptions/37.md). -/
def Part.stagingCovered (p : Part) (t : TrayId) : Part :=
  let r := p.setStagingLevel t true
  let f := p.feeders.get t
  if f.request then
    let q := r.mapFeeder t fun f => { f with request := false, deadline := none }
    match f.holder with
    | some seq => q.mapSheet seq fun s => { s with state := .staged }
    | none => q
  else if f.abandoned then (r.mapFeeder t fun f => { f with abandoned := false }).anomaly
  else if p.ctl.state.matching then r.raise .unexpected (some (.st t)) none none
  else if p.ctl.state = .recovery then r.raise .residue (some (.st t)) none none
  else r.anomaly

/-! ### Good trails (R89, R91, R92, R95, R119, R130) -/

/-- The occupants of a gate after a good trail at its decision station (R95): the release tick is set, or with
GATE_CLEAR 0 the occupant leaves. -/
def Part.releaseFor (p : Part) (seq : Half) (occupants : List Occupant) : List Occupant :=
  let c := p.params.gateClear
  if c = 0 then occupants.filter fun o => !(o.seq == seq)
  else occupants.map fun o => if o.seq == seq then { o with release := some (p.after c) } else o

/-- The hand-over at DL (R92, R119). It empties the covered list, an entry of the staging stop included; the staging
position then stays held (notes/assumptions/38.md). -/
def Part.handOver (p : Part) (s : Sheet) : Part :=
  let q := p.mapSheet s.seq fun r => { r with state := .looped, window := none, covered := [] }
  let e : LoopEntry :=
    { seq := s.seq, state := .inbound, handOver := p.clock.tick, deadline := some (p.after p.params.parkLimit) }
  { q with loop := q.loop ++ [e] }

/-- A good trail at AC (R130): the collision test again, then the join. -/
def Part.joinSet (p : Part) (s : Sheet) : Part :=
  if p.collides s.group then p.raiseFor .setCollision (.path .ac) s
  else
    let q := p.leaveTrack s.seq
    let q : Part := { q with acc := { q.acc with
      setGroup := if q.acc.sheets.isEmpty then some s.group else q.acc.setGroup
      sheets := q.acc.sheets ++ [⟨s.seq, s.tag⟩] } }
    q.mapGroup s.group fun g => { g with inPath := g.inPath - 1, inSet := g.inSet + 1 }

/-- A good trail at PG (R92, R149). -/
def Part.landInPurge (p : Part) (s : Sheet) : Part :=
  let q := p.leaveTrack s.seq
  let q : Part := { q with stacker := { q.stacker with purgeStacked := q.stacker.purgeStacked + 1 } }
  q.mapGroup s.group fun g => { g with inPath := g.inPath - 1, purged := g.purged + 1 }

/-- The clearing of a path station by a good trail (R91, R92). -/
def Part.cleared (p : Part) (s : Sheet) (q : PathSensor) : Part :=
  match q with
  | .mg | .rg | .tr => p
  | .fx => { p with gates := { p.gates with gdOccupants := p.releaseFor s.seq p.gates.gdOccupants } }
  | .xs => { p with gates := { p.gates with gxOccupants := p.releaseFor s.seq p.gates.gxOccupants } }
  | .dl => p.handOver s
  | .ac => p.joinSet s
  | .pg => p.landInPurge s

/-- The record that covers a station, of lowest launch order (R89). -/
def Part.covering (p : Part) (q : Sensor) : Option Sheet :=
  lowestLaunch (p.track.sheets.filter fun s => s.coversAt q)

/-- The entry of a station leaves a covered list (R89). -/
def Part.uncover (p : Part) (seq : Half) (q : Sensor) : Part :=
  p.mapSheet seq fun s => { s with covered := s.covered.filter fun e => !(e.station == q) }

/-- The trail of a covering record has left too soon (R89). -/
def Part.tooSoon (p : Part) (s : Sheet) (q : Sensor) : Bool :=
  s.covered.any fun e => e.station == q && lower p.clock.tick e.short

/-- An uncovered edge at a path sensor (R89, R101, R168). -/
def Part.pathUncovered (p : Part) (q : PathSensor) : Part :=
  let r := p.setPathLevel q false
  if p.ctl.state.matching then
    match p.covering (.path q) with
    | none => r.anomaly
    | some s =>
      if p.tooSoon s (.path q) then r.raiseFor .short (.path q) s
      else (r.uncover s.seq (.path q)).cleared s q
  else if p.ctl.state = .recovery then r
  else r.anomaly

/-- A good trail at a staging stop releases the staging position of the record's tray (R56, R91). -/
def Part.releaseStaging (p : Part) (s : Sheet) (t : TrayId) : Part :=
  (p.uncover s.seq (.st t)).mapFeeder s.tray fun f =>
    { f with holder := if f.holder = some s.seq then none else f.holder }

/-- An uncovered edge at a staging sensor (R57, R89, R101). R57 counts it in RECOVERY too, beside the level that R168
speaks of (DEDUCED, notes/assumptions/13.md). With the position held by a launched sheet that has no entry for the stop,
it is an anomaly and the position stays held (DESIGN CHOICE, notes/assumptions/38.md). -/
def Part.stagingUncovered (p : Part) (t : TrayId) : Part :=
  let r := p.setStagingLevel t false
  match p.covering (.st t) with
  | some s =>
    if p.ctl.state.matching then
      if p.tooSoon s (.st t) then r.raiseFor .short (.st t) s else r.releaseStaging s t
    else r.anomaly
  | none =>
    match (p.feeders.get t).holder.bind p.sheet? with
    | some s =>
      if s.state = .staged ∧ (p.ctl.state.matching || p.ctl.state == .warmup) = true then
        r.raiseFor .short (.st t) s
      else r.anomaly
    | none => r.anomaly

/-! ### Path deadlines (R87, R90, R95, R97, R100) -/

/-- LATE_LIMIT_REACHED: the late limit of a record's lead window is reached in a moving state (R87). -/
def Part.lateLimit (seq : Half) (p : Part) : Option Part :=
  if p.ctl.state.moving then
    match p.sheet? seq with
    | none => none
    | some s =>
      match s.window with
      | none => none
      | some w =>
        if p.reached w.late then
          some ((p.mapSheet seq fun r => { r with window := none }).raiseFor .late (.path w.station) s)
        else none
  else none

/-- STALL: the long limit of a record's covered entry is reached in a moving state (R90). -/
def Part.stallAt (seq : Half) (q : Sensor) (p : Part) : Option Part :=
  if p.ctl.state.moving then
    match p.sheet? seq with
    | none => none
    | some s =>
      if s.covered.any fun e => e.station == q && p.reached e.long then some (p.raiseFor .stall (Sensor.station q) s)
      else none
  else none

/-- The occupants of a gate. -/
def Gates.occupants (g : Gates) : Gate → List Occupant
  | .gd => g.gdOccupants
  | .gx => g.gxOccupants

def Gates.setOccupants (g : Gates) (x : Gate) (o : List Occupant) : Gates :=
  match x with
  | .gd => { g with gdOccupants := o }
  | .gx => { g with gxOccupants := o }

/-- GATE_RELEASE: an occupant's release tick is reached in a moving state (R95). -/
def Part.gateRelease (g : Gate) (seq : Half) (p : Part) : Option Part :=
  let due (o : Occupant) : Bool := o.seq == seq && p.reachedBy o.release
  if p.ctl.state.moving && (p.gates.occupants g).any due then
    some { p with gates := p.gates.setOccupants g ((p.gates.occupants g).filter fun o => !due o) }
  else none

/-- CONVERSION_START: the next start of a SAMPLING record is reached in a moving state (R97). -/
def Part.conversionStart (seq : Half) (p : Part) : Option Part :=
  if p.ctl.state.moving then
    match p.sheet? seq with
    | none => none
    | some s =>
      match s.sampling with
      | .sampling values (t :: rest) =>
        if p.reached t then
          match p.track.gauge with
          | none =>
            let q := p.mapSheet seq fun r => { r with sampling := .sampling values rest }
            some (Part.send { q with track := { q.track with gauge := some (seq, 3 - rest.length) } }
              .conversionRequest)
          | some _ => some (p.mapSheet seq fun r => { r with sampling := .abandoned }).anomaly
        else none
      | _ => none
  else none

/-! ### The gauge (R97, R98) -/

/-- The middle of three values (R98). -/
def median (a b c : Nat) : Nat := max (min a b) (min (max a b) c)

/-- The double threshold (R98). -/
def doubleThreshold (nominal dfTol : Nat) : Nat := min 255 (max (nominal + 1) (2 * nominal - dfTol))

/-- The thin threshold (R98). -/
def thinThreshold (nominal : Nat) : Nat := nominal / 2

/-- The evaluation of a record at its third value (R98). -/
def Part.evaluate (p : Part) (s : Sheet) (m : Nat) : Part :=
  let q := p.mapSheet s.seq fun r => { r with thickness := some (BitVec.ofNat 8 m), sampling := .idle }
  if doubleThreshold s.nominal p.params.dfTol ≤ m then q.raiseFor .doubleFeed (.path .rg) s
  else if m < thinThreshold s.nominal then (q.spoilSheet s.seq .thin).breakGroup s.group .media
  else q

/-- A conversion completion with its value (R97). -/
def Part.conversionDone (p : Part) (v : Byte) : Part :=
  match p.track.gauge with
  | none => p.anomaly
  | some g =>
    let q : Part := { p with track := { p.track with gauge := none } }
    match q.sheet? g.1 with
    | none => q
    | some s =>
      match s.sampling with
      | .sampling [a, b] _ => q.evaluate s (median a.toNat b.toNat v.toNat)
      | .sampling values starts => q.mapSheet s.seq fun r => { r with sampling := .sampling (values ++ [v]) starts }
      | _ => q

/-! ### Commands -/

def execStagingCoveredEdge (t : TrayId) (s : State) : Host.Outcome State Fault Refusal :=
  s.run fun p => p.stagingCovered t

def execStagingUncoveredEdge (t : TrayId) (s : State) : Host.Outcome State Fault Refusal :=
  s.run fun p => p.stagingUncovered t

def execPathCoveredEdge (q : PathSensor) (s : State) : Host.Outcome State Fault Refusal :=
  s.run fun p => p.pathCovered q

def execPathUncoveredEdge (q : PathSensor) (s : State) : Host.Outcome State Fault Refusal :=
  s.run fun p => p.pathUncovered q

def execLateLimitReached (seq : Half) (s : State) : Host.Outcome State Fault Refusal :=
  s.run fun p => p.attempt (Part.lateLimit seq)

def execStall (seq : Half) (q : Sensor) (s : State) : Host.Outcome State Fault Refusal :=
  s.run fun p => p.attempt (Part.stallAt seq q)

def execGateRelease (g : Gate) (seq : Half) (s : State) : Host.Outcome State Fault Refusal :=
  s.run fun p => p.attempt (Part.gateRelease g seq)

def execConversionStart (seq : Half) (s : State) : Host.Outcome State Fault Refusal :=
  s.run fun p => p.attempt (Part.conversionStart seq)

def execConversionCompletion (v : Byte) (s : State) : Host.Outcome State Fault Refusal :=
  s.run fun p => p.conversionDone v

end Sys2Proof.Machine
end

