-- ==== Sys2Proof/Machine/Images.lean ====
section
/-! DEFINITION. The answers of the imaging controller (Chapter 6). Cues are issued and settled at lead arrivals
(Track.lean). -/

namespace Sys2Proof.Machine

/-- The outstanding cue list holds an entry for the seq and side (R110). -/
def Part.awaits (p : Part) (seq : Half) (side : Side) : Bool :=
  p.cue.outstanding.any fun c => c.seq == seq && c.side == side

/-- A late answer (R112). -/
def Part.lateAnswer (p : Part) : Part := { p with cue := { p.cue with late := min 65535 (p.cue.late + 1) } }

/-- A READY (R110, R112). -/
def Part.readyAnswer (p : Part) (seq : Half) (side : Side) : Part :=
  if p.awaits seq side then (p.dropCue seq side).mapSheet seq fun s => s.setCue side .ready else p.lateAnswer

/-- A DECLINE (R111, R112): the sheet is spoiled first, so that it keeps its own cause at its group's break. -/
def Part.declineAnswer (p : Part) (seq : Half) (side : Side) : Part :=
  if p.awaits seq side then
    let q := ((p.dropCue seq side).mapSheet seq fun s => s.setCue side .declined).spoilSheet seq .imageDeclined
    match p.sheet? seq with
    | some s => q.breakGroup s.group .image
    | none => q
  else p.lateAnswer

def execReadyAnswer (seq : Half) (side : Side) (s : State) : Host.Outcome State Fault Refusal :=
  s.run fun p => p.readyAnswer seq side

def execDeclineAnswer (seq : Half) (side : Side) (s : State) : Host.Outcome State Fault Refusal :=
  s.run fun p => p.declineAnswer seq side

end Sys2Proof.Machine
end

