-- ==== Sys2Proof/Machine/StackerOps.lean ====
section
/-! DEFINITION. The Set Accumulator's eject completion and limit, the stacker bins' doors and sensors, the purge bin,
and the BIN EMPTIED control (Chapter 8). -/

namespace Sys2Proof.Machine

/-! ### Eject completion (R132, R135 to R137) -/

def Jog.other : Jog → Jog
  | .left => .right
  | .right => .left

/-- A bin after `n` sheets were delivered into it, with its jog position changed under policy ALTERNATE (R135, R145). -/
def Bin.afterDelivery (b : Bin) (n : Nat) (policy : JogPolicy) : Bin :=
  { b with stacked := b.stacked + n, jog := if policy = .alternate then Jog.other b.jog else b.jog }

/-- The delivery of a set into a stacker bin (R135). -/
def Part.deliver (p : Part) (e : Eject) (b : BinId) : Part :=
  match p.acc.setGroup.bind p.group? with
  | none => (p.setBin b ((p.stacker.bins.get b).afterDelivery e.count .fixed)).clearSet
  | some g =>
    let q : Part := { p with stacker := { p.stacker with
      allowances := p.stacker.allowances.filter fun a => !(a.group == g.key) } }
    let q := q.setBin b ((p.stacker.bins.get b).afterDelivery e.count g.policy)
    (q.mapGroup g.key fun x =>
      { x with inSet := x.inSet - e.count, delivered := x.delivered + e.count, bin := some b, jog := some e.jog }).clearSet

/-- The landing of a set in the purge bin (R136). -/
def Part.landSet (p : Part) (e : Eject) : Part :=
  let q : Part := { p with stacker := { p.stacker with purgeStacked := p.stacker.purgeStacked + e.count } }
  match p.acc.setGroup with
  | none => q.clearSet
  | some k =>
    (q.mapGroup k fun x => { x with inSet := x.inSet - e.count, purged := x.purged + e.count }).clearSet

/-- An EJECT DONE (R132). -/
def Part.ejectDone (p : Part) : Part :=
  match p.acc.eject with
  | none => p.anomaly
  | some e =>
    match e.status, e.target with
    | .expired, _ => p.anomaly
    | .active, .bin b => p.deliver e b
    | .active, .purge => p.landSet e

/-- EJECT_TIMEOUT: the eject deadline is reached in a moving state with the eject ACTIVE (R137). -/
def Part.ejectTimeout (p : Part) : Option Part :=
  match p.acc.eject with
  | none => none
  | some e =>
    if p.ctl.state.moving && e.status == .active && p.reachedBy e.deadline then
      let q : Part := { p with acc := { p.acc with eject := some { e with status := .expired, deadline := none } } }
      some (q.raise .ejectTimeout none none (p.acc.setGroup.bind p.groupId?))
    else none

/-! ### Bin doors and full sensors (R146, R147) -/

/-- A bin after its door closes (R147). -/
def Bin.closeDoor (b : Bin) (m : ReleaseMode) : Bin :=
  match m with
  | .onDoor => { b with doorOpen := false, stacked := 0, hold := false, remembered := false }
  | .onNotice =>
    if b.remembered then { b with doorOpen := false, stacked := 0, hold := false, remembered := false }
    else { b with doorOpen := false, hold := true }

def Part.openBin (p : Part) (b : BinId) : Part := p.setBin b { p.stacker.bins.get b with doorOpen := true }

/-- A door closing acts by the bin's release mode; while the Bin Map is not loaded the mode is a free value
(notes/assumptions/12.md). -/
def Part.closeBin (p : Part) (b : BinId) : Part :=
  match p.tables.binMap with
  | some m => p.setBin b ((p.stacker.bins.get b).closeDoor (m.mode b))
  | none =>
    Part.setBin { p with freeIndex := p.freeIndex + 1 } b
      ((p.stacker.bins.get b).closeDoor (Config.unloadedReleaseMode p.freeIndex))

def Part.fullEdge (p : Part) (b : BinId) (active : Bool) : Part :=
  p.setBin b { p.stacker.bins.get b with full := active }

/-! ### BIN EMPTIED (R148, R193) -/

/-- An eject into the bin is in flight, ACTIVE or EXPIRED. -/
def Part.ejectingInto (p : Part) (b : BinId) : Bool := p.acc.eject.any fun e => e.target == .bin b

/-- A BIN EMPTIED for a physical bin: accepted, or refused and then nothing (R148). -/
def Part.emptyBin (p : Part) (b : BinId) : Option Part :=
  match p.tables.binMap with
  | none => none
  | some m =>
    let x := p.stacker.bins.get b
    if p.ejectingInto b then none
    else if m.mode b = .onDoor then none
    else if x.doorOpen then some (p.setBin b { x with remembered := true }).notice
    else if x.hold then some (p.setBin b { x with stacked := 0, hold := false }).notice
    else none

/-- A BIN EMPTIED as received: a number outside 1..6 is refused before the Stacker is reached (R193). -/
def Part.binEmptied (p : Part) (n : Byte) : Part :=
  match (binOf? n.toNat).bind p.emptyBin with
  | some q => q
  | none => p.refuse .binEmptied

/-! ### The purge bin (R149, R161) -/

/-- The purge door opens; in WARMUP or a moving state this is PURGE_OPEN (R149, R161). -/
def Part.openPurge (p : Part) : Part :=
  let q : Part := { p with stacker := { p.stacker with purgeDoorOpen := true } }
  let q := if p.stacker.purgeDoorOpen then q else q.notice
  if p.ctl.state.moving || p.ctl.state == .warmup then q.raise .purgeOpen none none none else q

/-- The purge door closes and the stacked count becomes 0 (R149). -/
def Part.closePurge (p : Part) : Part :=
  let q : Part := { p with stacker := { p.stacker with purgeDoorOpen := false, purgeStacked := 0 } }
  if p.stacker.purgeDoorOpen || decide (0 < p.stacker.purgeStacked) then q.notice else q

/-! ### Commands -/

/-- A due set in a moving state is ejected (R131). -/
def execSetEjectStart (s : State) : Host.Outcome State Fault Refusal := s.run fun p => p.attempt Part.setEjectStart

def execEjectDone (s : State) : Host.Outcome State Fault Refusal := s.run Part.ejectDone

def execEjectTimeout (s : State) : Host.Outcome State Fault Refusal := s.run fun p => p.attempt Part.ejectTimeout

def execBinDoorOpening (b : BinId) (s : State) : Host.Outcome State Fault Refusal := s.run fun p => p.openBin b

def execBinDoorClosing (b : BinId) (s : State) : Host.Outcome State Fault Refusal := s.run fun p => p.closeBin b

def execFullSensorEdge (b : BinId) (active : Bool) (s : State) : Host.Outcome State Fault Refusal :=
  s.run fun p => p.fullEdge b active

def execPurgeDoorOpening (s : State) : Host.Outcome State Fault Refusal := s.run Part.openPurge

def execPurgeDoorClosing (s : State) : Host.Outcome State Fault Refusal := s.run Part.closePurge

end Sys2Proof.Machine
end

