-- ==== Sys2Proof/Machine/Transport.lean ====
section
/-! DEFINITION. Transport Control: START, HALT and CLEAR FAULT, the ends of timed operations, the interlocks, the
recovery sweep and the power-warn runout (Chapter 9). -/

namespace Sys2Proof.Machine

/-! ### START and warm-up (R152, R156, R161) -/

/-- The conditions of a START in STANDBY (R152). -/
def Part.startReady (p : Part) : Bool :=
  p.tables.geometry.isSome && p.tables.parameters.isSome && p.tables.media.isSome && p.tables.binMap.isSome
    && !p.ctl.coverOpen && !p.ctl.powerWarn

/-- The purge door level tested at an entry to WARMUP or RECOVERY (R161). -/
def Part.testPurgeDoor (p : Part) : Part :=
  if p.stacker.purgeDoorOpen then p.raise .purgeOpen none none none else p

/-- The entry to WARMUP (R55, R151, R156, R161). -/
def Part.enterWarmup (p : Part) : Part :=
  let q := (p.setTransport .warmup).motorStart
  let q : Part := { q with ctl := { q.ctl with warmupEnd := some (p.after p.params.warmup) } }
  q.renewPickDeadlines.testPurgeDoor

/-- A START (R152, Table 9-3). -/
def Part.startControl (p : Part) : Part :=
  match p.ctl.state with
  | .standby => if p.startReady then p.enterWarmup else p.refuse .start
  | .warmup | .running => p
  | .halted | .jammed | .recovery | .draining | .runout | .safe => p.refuse .start

/-- WARMUP_END: the warm-up end is reached (R12, R55, R156). -/
def Part.warmupEnd (p : Part) : Option Part :=
  if p.ctl.state == .warmup && p.reachedBy p.ctl.warmupEnd then some (p.setTransport .running).dropTimed.armWatch
  else none

/-! ### HALT (R153) -/

def Part.haltControl (p : Part) : Part :=
  match p.ctl.state with
  | .standby | .warmup | .running | .draining | .recovery | .runout => p.raise .operatorHalt none none none
  | .halted | .jammed | .safe => p.refuse .halt

/-! ### CLEAR FAULT and the recovery sweep (R154, R166 to R169) -/

/-- The set is removed from the accumulator, with any eject of it (R138). -/
def Part.removeSet (p : Part) : Part :=
  match p.acc.setGroup with
  | none => p.clearSet
  | some k =>
    let n := p.acc.sheets.length
    (p.mapGroup k fun g => { g with inSet := g.inSet - n, removed := g.removed + n }).clearSet

/-- The sweep: every record, and for the STACKER class the set (R166). -/
def Part.sweep (p : Part) : Part :=
  let q := p.removeSheets p.track.sheets
  if p.ctl.sweepClass = some .stacker then q.removeSet else q

/-- The groups with a sheet or set that the sweep removes (R167). -/
def Part.sweptGroups (p : Part) : List GroupKey :=
  p.track.sheets.map Sheet.group
    ++ (if p.ctl.sweepClass = some .stacker ∧ p.acc.sheets ≠ [] then p.acc.setGroup.toList else [])

/-- JAM breaks, in admission order: each swept group, and the open group when it is still ADMITTING (R167). -/
def Part.jamBreaks (p : Part) (swept : List GroupKey) : Part := p.breakAll (swept ++ p.planner.openGroup.toList) .jam

/-- An eject still ACTIVE at the entry to a moving state gets a new deadline (R137). -/
def Part.renewEject (p : Part) : Part :=
  { p with acc := { p.acc with eject := p.acc.eject.map fun e =>
      if e.status = .active then { e with deadline := some (p.after p.params.ejectLimit) } else e } }

/-- A path sensor at level covered after the sweep is residue (R169). -/
def Part.testResidue (p : Part) : Part :=
  match p.firstCovered with
  | some q => p.raise .residue (some (.path q)) none none
  | none => p

/-- The entry to RECOVERY up to the due test, in the order of R169. A Parameter Set pending when the sweep empties the
path is applied after this work, so the run end is computed from the set that the sweep found in force (DEDUCED,
notes/assumptions/33.md). -/
def Part.enterRecovery (p : Part) : Part :=
  let q := (((p.setTransport .recovery).motorStart).setGd .exit).setGx .purge
  let swept := q.sweptGroups
  let q := (q.sweep.jamBreaks swept).renewEject
  let q : Part := { q with ctl := { q.ctl with
    runEnd := some (p.after p.params.clearRun), runEndReached := false } }
  q.testResidue.testPurgeDoor

/-- A CLEAR FAULT (R154). -/
def Part.clearFaultControl (p : Part) : Part :=
  if (p.ctl.state == .halted || p.ctl.state == .jammed) && !p.ctl.coverOpen
      && p.tables.geometry.isSome && p.tables.parameters.isSome then
    Part.enterRecovery { p with ctl := { p.ctl with
      sweepClass := p.ctl.firstFault.map fun r => r.kind.faultClass
      firstFault := none, locked := false, further := 0 } }
  else p.refuse .clearFault

/-- RUN_END: the run end is reached; the recovery ends at once, or when the eject in flight has completed (R170). -/
def Part.runEndReached (p : Part) : Option Part :=
  if p.ctl.state == .recovery && p.reachedBy p.ctl.runEnd then
    some (Part.attempt { p with ctl := { p.ctl with runEndReached := true } } Part.recoveryEnd)
  else none

/-! ### Interlocks (R160) -/

def Part.openCover (p : Part) : Part :=
  let q : Part := { p with ctl := { p.ctl with coverOpen := true } }
  if p.ctl.state.moving || p.ctl.state == .warmup then q.raise .coverOpen none none none else q

def Part.closeCover (p : Part) : Part := { p with ctl := { p.ctl with coverOpen := false } }

/-! ### Power warn (R171, R172) -/

/-- The entry to RUNOUT (R172). -/
def Part.enterRunout (p : Part) : Part :=
  let q := (p.setTransport .runout).dropTimed.disarmWatch.dropPickDeadlines
  let fresh := p.track.sheets.filter Sheet.fresh
  ((q.removeSheets fresh).breakOpen .power).breakAll (fresh.map Sheet.group) .power

def Part.assertPowerWarn (p : Part) : Part :=
  let q := Part.notice { p with ctl := { p.ctl with powerWarn := true } }
  match p.ctl.state with
  | .warmup | .running | .draining => q.enterRunout
  | _ => q

def Part.clearPowerWarn (p : Part) : Part :=
  let q := Part.notice { p with ctl := { p.ctl with powerWarn := false } }
  if p.ctl.state = .safe then q.enterStandby else q

/-! ### Commands -/

def execCoverOpening (s : State) : Host.Outcome State Fault Refusal := s.run Part.openCover

def execCoverClosing (s : State) : Host.Outcome State Fault Refusal := s.run Part.closeCover

def execPowerWarnAsserted (s : State) : Host.Outcome State Fault Refusal := s.run Part.assertPowerWarn

def execPowerWarnCleared (s : State) : Host.Outcome State Fault Refusal := s.run Part.clearPowerWarn

def execWarmupEnd (s : State) : Host.Outcome State Fault Refusal := s.run fun p => p.attempt Part.warmupEnd

/-- The path is empty in DRAINING (R158). -/
def execDrainEnd (s : State) : Host.Outcome State Fault Refusal := s.run fun p => p.attempt Part.drainEnd

/-- The path is empty in RUNOUT (R173). -/
def execRunoutEnd (s : State) : Host.Outcome State Fault Refusal := s.run fun p => p.attempt Part.runoutEnd

def execRunEnd (s : State) : Host.Outcome State Fault Refusal := s.run fun p => p.attempt Part.runEndReached

end Sys2Proof.Machine
end

