-- ==== Sys2Proof/Machine/LinkRecords.lean ====
section
/-! DEFINITION. The receive side of the stream link: acceptance and drop of records, immediate controls, and the
framer's bytes (R175, R177, R178, R180, R190). -/

namespace Sys2Proof.Machine

/-! ### Drops (R177, R189) -/

/-- The STREAM FAULT counts of a drop with no overflow. -/
def dropCount : DropCause → StreamFault
  | .badCheck => { StreamFault.zero with badCheck := 1 }
  | .malformed => { StreamFault.zero with malformed := 1 }

/-- A dropped record: counted, and breaking an ADMITTING open group with STREAM (R177, R39). -/
def Part.dropped (p : Part) (d : StreamFault) : Part := (p.streamFault d).breakOpen .stream

def Part.drop (p : Part) (c : DropCause) : Part := p.dropped (dropCount c)

/-! ### Acceptance (R175, R178, R180) -/

/-- A queued-class record joins the Order Queue, or is dropped when it holds 64 records (R175, R178). -/
def Part.enqueue (p : Part) (q : Queued) : Part :=
  if Config.queueSize ≤ p.link.orders.length then p.dropped { StreamFault.zero with overflow := 1 }
  else { p with link := { p.link with orders := p.link.orders ++ [q] } }

/-- An inbound record whose check and form are good (Table 10-1). -/
def Part.accept (p : Part) : Inbound → Part
  | .queued q => p.enqueue q
  | .start => p.startControl
  | .halt => p.haltControl
  | .clearFault => p.clearFaultControl
  | .binEmptied n => p.binEmptied n
  | .query => p.status

/-- The framer's new state. -/
def Part.setFramer (p : Part) (f : Framer) : Part := { p with link := { p.link with framer := f } }

/-- The last byte of a record has been taken: the framer returns to HUNT (R175). -/
def Part.toHunt (p : Part) : Part := p.setFramer .hunt

/-- One byte into the receive framer (R175). -/
def Part.takeByte (p : Part) (b : Byte) : Part :=
  match p.link.framer.step b with
  | .more f => p.setFramer f
  | .bad => p.toHunt.drop .badCheck
  | .malformed => p.toHunt.drop .malformed
  | .record r => p.toHunt.accept r

/-- A LOAD received whole: queued when its table is known and its length fits it, malformed otherwise (R175). -/
def Part.takeLoad (p : Part) (l : LoadRecord) : Part :=
  match LoadRecord.queued? l with
  | some q => p.toHunt.enqueue q
  | none => p.toHunt.drop .malformed

/-! ### Commands: a record received whole (notes/assumptions/11.md) -/

def execSheetOrder (o : SheetOrder) (s : State) : Host.Outcome State Fault Refusal :=
  s.run fun p => p.toHunt.enqueue (.order o)

def execStop (s : State) : Host.Outcome State Fault Refusal := s.run fun p => p.toHunt.enqueue .stop

def execPurge (s : State) : Host.Outcome State Fault Refusal := s.run fun p => p.toHunt.enqueue .purge

def execLoad (l : LoadRecord) (s : State) : Host.Outcome State Fault Refusal := s.run fun p => p.takeLoad l

def execStart (s : State) : Host.Outcome State Fault Refusal := s.run fun p => p.toHunt.startControl

def execHalt (s : State) : Host.Outcome State Fault Refusal := s.run fun p => p.toHunt.haltControl

def execClearFault (s : State) : Host.Outcome State Fault Refusal := s.run fun p => p.toHunt.clearFaultControl

def execBinEmptied (n : Byte) (s : State) : Host.Outcome State Fault Refusal := s.run fun p => p.toHunt.binEmptied n

def execQuery (s : State) : Host.Outcome State Fault Refusal := s.run fun p => p.toHunt.status

def execDroppedRecord (c : DropCause) (s : State) : Host.Outcome State Fault Refusal :=
  s.run fun p => p.toHunt.drop c

/-- A byte on the receive side, a start delimiter among them. -/
def execStartDelimiter (b : Byte) (s : State) : Host.Outcome State Fault Refusal := s.run fun p => p.takeByte b

end Sys2Proof.Machine
end

