-- ==== Sys2Proof/Machine/LinkReturn.lean ====
section
/-! DEFINITION. The transmit side of the stream link: the return-ready line, the completion of a transmission, and the
handing out of the freed place (R186, R187, R191). -/

namespace Sys2Proof.Machine

/-- A level of the return-ready line (R191). -/
def Part.setReturnReady (p : Part) (x : Bool) : Part := { p with link := { p.link with returnReady := x } }

/-- A pending record of R187 becomes the held record of its kind (R186). -/
def Slots.over (waiting held : Slots) : Slots :=
  { credit := waiting.credit.orElse fun _ => held.credit
    streamFault := waiting.streamFault.orElse fun _ => held.streamFault
    attention := waiting.attention.orElse fun _ => held.attention
    status := waiting.status.orElse fun _ => held.status }

/-- The transmitted record leaves the Report Queue, and pending records become held (R186, R191). -/
def Part.endSending (p : Part) : Part :=
  { p with link := { p.link with
      reports := p.link.reports.tail
      transmitting := false
      held := { p.link.held with slots := p.link.waiting.over p.link.held.slots }
      waiting := .none } }

/-- A held record of a coalesced kind no longer held. -/
def Part.clearSlot (p : Part) (k : CoalescedKind) : Part :=
  { p with link := { p.link with held := { p.link.held with slots := p.link.held.slots.set k none } } }

/-- The free place goes to the first held report, in the order of R186. A held ATTENTION and a held STATUS are built
when they are appended (R188, R190). -/
def Part.handOut (p : Part) : Part :=
  match p.link.held.fault with
  | some r => Part.appendReport { p with link := { p.link with held := { p.link.held with fault := none } } } (.fault r)
  | none =>
    match p.link.held.slots.credit with
    | some r => (p.clearSlot .credit).appendReport r
    | none =>
      match p.link.held.slots.streamFault with
      | some r => (p.clearSlot .streamFault).appendReport r
      | none =>
        if p.link.held.slots.attention.isSome then (p.clearSlot .attention).appendReport (.attention p.attentionNow)
        else if p.link.held.slots.status.isSome then
          (p.clearSlot .status).appendReport (.status (p.statusNow (p.link.reports.length + 1)))
        else match p.link.held.results with
          | [] => p
          | k :: rest =>
            let q : Part := { p with link := { p.link with held := { p.link.held with results := rest } } }
            match q.group? k with
            | some g => q.reportGroup g
            | none => q

/-- TRANSMISSION_COMPLETE: the transmission in progress ends (R186, R191). -/
def Part.transmissionDone (p : Part) : Option Part :=
  if p.link.transmitting then some p.endSending.handOut else none

def execReturnReadyAsserted (s : State) : Host.Outcome State Fault Refusal := s.run fun p => p.setReturnReady true

def execReturnReadyCleared (s : State) : Host.Outcome State Fault Refusal := s.run fun p => p.setReturnReady false

def execTransmissionComplete (s : State) : Host.Outcome State Fault Refusal :=
  s.run fun p => p.attempt Part.transmissionDone

end Sys2Proof.Machine
end

