-- ==== Sys2Proof/Machine/Loop.lean ====
section
/-! DEFINITION. The Duplex Loop: the PARKED report and the park deadline (Chapter 7). Hand-over is a good trail at DL
(Track.lean) and release a DR launch (Arbiter.lean). -/

namespace Sys2Proof.Machine

/-- The list with its first INBOUND entry PARKED and its deadline dropped (R120). -/
def parkFirst : List LoopEntry → List LoopEntry
  | [] => []
  | e :: rest =>
    if e.state = .inbound then { e with state := .parked, deadline := none } :: rest else e :: parkFirst rest

/-- A PARKED report (R120). -/
def Part.parked (p : Part) : Part :=
  if p.loop.any fun e => e.state == .inbound then { p with loop := parkFirst p.loop } else p.anomaly

/-- An INBOUND entry whose park deadline is reached (R121). -/
def Part.parkOverdue (p : Part) (e : LoopEntry) : Bool := e.state == .inbound && p.reachedBy e.deadline

/-- PARK_DEADLINE: the park deadline of the oldest such entry is reached in a moving state (R121, R122). -/
def Part.parkDeadline (p : Part) : Option Part :=
  if p.ctl.state.moving then
    match p.loop.find? p.parkOverdue with
    | none => none
    | some e =>
      let q : Part := { p with loop := p.loop.map fun x => if x.seq == e.seq then { x with deadline := none } else x }
      match p.sheet? e.seq with
      | some s => some (q.raiseFor .late .dp s)
      | none => some (q.raise .late (some .dp) none none)
  else none

def execParked (s : State) : Host.Outcome State Fault Refusal := s.run Part.parked

def execParkDeadline (s : State) : Host.Outcome State Fault Refusal := s.run fun p => p.attempt Part.parkDeadline

end Sys2Proof.Machine
end

