-- ==== Sys2Proof/Machine/PlannerRows.lean ====
section
/-! DEFINITION. The commands of the Order Planner and the Group Table: each event at the Order Queue head, and the
resolution of a group, taken when its conditions hold (notes/assumptions/3.md). -/

namespace Sys2Proof.Machine

/-- A FIRST order is admitted once the conditions of R23 hold (R24). -/
def execGroupAdmission (s : State) : Host.Outcome State Fault Refusal := s.run fun p => p.attempt Part.groupAdmission

/-- A FIRST order opens a group broken from the start (R21). -/
def execBrokenFromStart (s : State) : Host.Outcome State Fault Refusal :=
  s.run fun p => p.attempt Part.brokenFromStart

/-- An order of the ADMITTING open group is taken into a pick, or breaks the group (R30). -/
def execFurtherOrderPick (s : State) : Host.Outcome State Fault Refusal :=
  s.run fun p => p.attempt Part.furtherOrderPick

/-- An order of the BROKEN_OPEN open group is discarded as unfed (R32). -/
def execDiscardedAsUnfed (s : State) : Host.Outcome State Fault Refusal :=
  s.run fun p => p.attempt Part.discardedAsUnfed

/-- An order of no open group is discarded as an orphan (R33). -/
def execOrphan (s : State) : Host.Outcome State Fault Refusal := s.run fun p => p.attempt Part.orphanTaken

/-- A STOP at the head is taken (R155). -/
def execStopTaken (s : State) : Host.Outcome State Fault Refusal := s.run fun p => p.attempt Part.stopTaken

/-- A PURGE at the head is taken (R38). -/
def execPurgeTaken (s : State) : Host.Outcome State Fault Refusal := s.run fun p => p.attempt Part.purgeTaken

/-- A LOAD of a live table at the head is taken (R181). -/
def execLiveLoadTaken (s : State) : Host.Outcome State Fault Refusal := s.run fun p => p.attempt Part.liveLoadTaken

/-- A LOAD of a locked table at the head is taken (R182). -/
def execLockedLoadTaken (s : State) : Host.Outcome State Fault Refusal :=
  s.run fun p => p.attempt Part.lockedLoadTaken

/-- The pending load is applied (R183). -/
def execPendingLoadApplied (s : State) : Host.Outcome State Fault Refusal :=
  s.run fun p => p.attempt Part.pendingLoadApplied

/-- A group is resolved (R40). -/
def execGroupResolution (s : State) : Host.Outcome State Fault Refusal :=
  s.run fun p => p.attempt Part.groupResolution

end Sys2Proof.Machine
end

