-- ==== Sys2Proof/Machine/Reset.lean ====
section
/-! DEFINITION. The two resets (Tables 1-8, 3-7, 4-3, 8-3, 9-7 and 10-6; R42, R59, R76, R105, R107, R118, R150, R174).
The levels that a reset reads from the lines are the command's operand. -/

namespace Sys2Proof.Machine

/-- A Tray Feeder after either reset (R59, Table 3-7): its state from its sensors, nothing outstanding. -/
def Feeder.fromLines (l : TrayLines) : Feeder :=
  { state := if l.drawerOpen then .opened else paperState l.paperLow l.paperOut
    drawerOpen := l.drawerOpen
    paperLow := l.paperLow
    paperOut := l.paperOut
    holder := none
    request := false
    deadline := none
    abandoned := false }

/-- A physical bin after a reset: levels from the lines, counts and marks as given, its state formed (R146, R150). -/
def Bin.fromLines (x : Bin) (l : BinLines) (capacity : Nat) : Bin :=
  let y := { x with doorOpen := l.doorOpen, full := l.full }
  { y with state := y.formed capacity }

/-- The six bins after a reset. -/
def Part.binsFromLines (p : Part) (l : Lines) (bins : PerBin Bin) : PerBin Bin :=
  let one (b : BinId) : Bin := (bins.get b).fromLines (l.bins.get b) (p.capacity b)
  ⟨one .b1, one .b2, one .b3, one .b4, one .b5, one .b6⟩

/-- The first-fault record of a reset (R174). -/
def resetRecord (tick : Tick) : FaultRecord :=
  { kind := .reset, station := none, tag := none, group := none, tick := tick, state := .halted, occupancy := 0 }

/-- What both resets leave, over the clock, the tables, the bins and the purge count that the reset leaves. With the
pitch counter at 0 (R9) a pitch expiry that stands in `expiryDue`, brought by a tick that has ended and not yet taken, is
dropped (DEDUCED, notes/assumptions/24.md). -/
def Part.afterReset (p : Part) (l : Lines) (clock : Clock) (tables : Tables) (bins : PerBin Bin) (purge : Nat) : Part :=
  { clock := { clock with watchArmed := false, watchReference := 0, cadenceLost := false }
    sensors := { staging := l.staging, path := l.path }
    gates := { gd := .exit, gx := .purge, gdOccupants := [], gxOccupants := [] }
    tables := tables
    planner := { openGroup := none, waiting := .none, reported := .none }
    groups := { entries := [], nextKey := 0 }
    feeders := l.trays.map Feeder.fromLines
    arbiter :=
      { slotIndex := 0, block := 0, launchCounter := 0, pendingSecond := 0, lastExit := none, lastSetGroup := none,
        cadenceGroup := none, pitch := 0, expiryDue := false }
    track := { sheets := [], nextSeq := 0, gauge := none, anomalies := 0 }
    cue := { outstanding := [], late := 0 }
    loop := []
    acc := { setGroup := none, sheets := [], eject := none }
    stacker :=
      { bins := Part.binsFromLines { p with tables := tables } l bins
        purgeStacked := purge, purgeDoorOpen := l.purgeDoorOpen, allowances := [] }
    ctl :=
      { state := .halted, drainReason := none, warmupEnd := none, runEnd := none, runEndReached := false,
        sweepClass := none, firstFault := some (resetRecord clock.tick), locked := true, further := 0,
        coverOpen := l.coverOpen, powerWarn := l.powerWarn }
    link :=
      { framer := .hunt, orders := [], taken := 0, pendingLoad := none,
        reports := [.credit 2, .fault (resetRecord clock.tick)], transmitting := false, returnReady := l.returnReady,
        held := { fault := none, slots := .none, results := [] }, waiting := .none }
    sent := [.gateGd .exit, .gateGx .purge, .motorStop]
    attentionDue := false
    freeIndex := p.freeIndex }

/-- A power-on reset: the values of State.reset, with the levels of the lines. -/
def Part.powerOn (p : Part) (l : Lines) : Part :=
  p.afterReset l State.reset.clock State.reset.tables State.reset.stacker.bins 0

/-- A controller reset: the clock's tick, divider and fraction accumulator, the tables, the bins' counts, marks and
jog positions and the purge stacked count are kept. -/
def Part.controllerReset (p : Part) (l : Lines) : Part :=
  p.afterReset l p.clock p.tables p.stacker.bins p.stacker.purgeStacked

def execPowerOnReset (l : Lines) (s : State) : Host.Outcome State Fault Refusal := s.run fun p => p.powerOn l

def execControllerReset (l : Lines) (s : State) : Host.Outcome State Fault Refusal :=
  s.run fun p => p.controllerReset l

end Sys2Proof.Machine
end

