-- ==== Sys2Proof/Machine/Dispatch.lean ====
section
/-! DEFINITION. One arm for each command: one direct call of its meaning. -/

namespace Sys2Proof.Machine

def exec (i : Instr) (s : State) : Host.Outcome State Fault Refusal :=
  match i with
  | .powerOnReset l => Sys2Proof.Machine.execPowerOnReset l s
  | .controllerReset l => Sys2Proof.Machine.execControllerReset l s
  | .sheetOrder o => Sys2Proof.Machine.execSheetOrder o s
  | .stop => Sys2Proof.Machine.execStop s
  | .purge => Sys2Proof.Machine.execPurge s
  | .load l => Sys2Proof.Machine.execLoad l s
  | .start => Sys2Proof.Machine.execStart s
  | .halt => Sys2Proof.Machine.execHalt s
  | .clearFault => Sys2Proof.Machine.execClearFault s
  | .binEmptied n => Sys2Proof.Machine.execBinEmptied n s
  | .query => Sys2Proof.Machine.execQuery s
  | .droppedRecord c => Sys2Proof.Machine.execDroppedRecord c s
  | .groupAdmission => Sys2Proof.Machine.execGroupAdmission s
  | .brokenFromStart => Sys2Proof.Machine.execBrokenFromStart s
  | .furtherOrderPick => Sys2Proof.Machine.execFurtherOrderPick s
  | .discardedAsUnfed => Sys2Proof.Machine.execDiscardedAsUnfed s
  | .orphan => Sys2Proof.Machine.execOrphan s
  | .stopTaken => Sys2Proof.Machine.execStopTaken s
  | .purgeTaken => Sys2Proof.Machine.execPurgeTaken s
  | .liveLoadTaken => Sys2Proof.Machine.execLiveLoadTaken s
  | .lockedLoadTaken => Sys2Proof.Machine.execLockedLoadTaken s
  | .pendingLoadApplied => Sys2Proof.Machine.execPendingLoadApplied s
  | .stagingCoveredEdge t => Sys2Proof.Machine.execStagingCoveredEdge t s
  | .stagingUncoveredEdge t => Sys2Proof.Machine.execStagingUncoveredEdge t s
  | .pathCoveredEdge q => Sys2Proof.Machine.execPathCoveredEdge q s
  | .pathUncoveredEdge q => Sys2Proof.Machine.execPathUncoveredEdge q s
  | .drawerOpening t => Sys2Proof.Machine.execDrawerOpening t s
  | .drawerClosing t => Sys2Proof.Machine.execDrawerClosing t s
  | .paperSensorEdge t w a => Sys2Proof.Machine.execPaperSensorEdge t w a s
  | .pickDeadline t => Sys2Proof.Machine.execPickDeadline t s
  | .stallEnd => Sys2Proof.Machine.execStallEnd s
  | .pitchExpiry => Sys2Proof.Machine.execPitchExpiry s
  | .cadencePulse => Sys2Proof.Machine.execCadencePulse s
  | .cadenceLoss => Sys2Proof.Machine.execCadenceLoss s
  | .lateLimitReached q => Sys2Proof.Machine.execLateLimitReached q s
  | .stall q z => Sys2Proof.Machine.execStall q z s
  | .gateRelease g q => Sys2Proof.Machine.execGateRelease g q s
  | .conversionStart q => Sys2Proof.Machine.execConversionStart q s
  | .conversionCompletion v => Sys2Proof.Machine.execConversionCompletion v s
  | .readyAnswer q d => Sys2Proof.Machine.execReadyAnswer q d s
  | .declineAnswer q d => Sys2Proof.Machine.execDeclineAnswer q d s
  | .parked => Sys2Proof.Machine.execParked s
  | .parkDeadline => Sys2Proof.Machine.execParkDeadline s
  | .setEjectStart => Sys2Proof.Machine.execSetEjectStart s
  | .ejectDone => Sys2Proof.Machine.execEjectDone s
  | .ejectTimeout => Sys2Proof.Machine.execEjectTimeout s
  | .binDoorOpening b => Sys2Proof.Machine.execBinDoorOpening b s
  | .binDoorClosing b => Sys2Proof.Machine.execBinDoorClosing b s
  | .fullSensorEdge b a => Sys2Proof.Machine.execFullSensorEdge b a s
  | .purgeDoorOpening => Sys2Proof.Machine.execPurgeDoorOpening s
  | .purgeDoorClosing => Sys2Proof.Machine.execPurgeDoorClosing s
  | .coverOpening => Sys2Proof.Machine.execCoverOpening s
  | .coverClosing => Sys2Proof.Machine.execCoverClosing s
  | .powerWarnAsserted => Sys2Proof.Machine.execPowerWarnAsserted s
  | .powerWarnCleared => Sys2Proof.Machine.execPowerWarnCleared s
  | .warmupEnd => Sys2Proof.Machine.execWarmupEnd s
  | .drainEnd => Sys2Proof.Machine.execDrainEnd s
  | .runoutEnd => Sys2Proof.Machine.execRunoutEnd s
  | .runEnd => Sys2Proof.Machine.execRunEnd s
  | .groupResolution => Sys2Proof.Machine.execGroupResolution s
  | .returnReadyAsserted => Sys2Proof.Machine.execReturnReadyAsserted s
  | .returnReadyCleared => Sys2Proof.Machine.execReturnReadyCleared s
  | .transmissionComplete => Sys2Proof.Machine.execTransmissionComplete s
  | .startDelimiter b => Sys2Proof.Machine.execStartDelimiter b s

end Sys2Proof.Machine
end

