-- ==== Sys2Proof/Machine/Idle.lean ====
section
/-! DEFINITION. One path tick, which is what a step does while no command waits (notes/assumptions/1.md): the events
that the clock alone brings about in the tick, and then the end of the tick (R6, R8, R9). -/

namespace Sys2Proof.Machine

/-- An event of the clock, with all that follows in it, when it is due. -/
def Part.fire (p : Part) (e : Part → Option Part) : Part :=
  match e p with
  | none => p
  | some q => q.close

/-- The covered entries of the records, as the events that test their long limits (R90). -/
def Sheet.stallTests (s : Sheet) : List (Part → Option Part) := s.covered.map fun e => Part.stallAt s.seq e.station

/-- The events of the clock in the order in which the model takes them (R103, notes/assumptions/5.md): the pitch
expiry, then every deadline that may be reached. -/
def Part.clockEvents (p : Part) : List (Part → Option Part) :=
  [Part.pitchExpiry]
  ++ TrayId.list.map Part.pickDeadline
  ++ p.track.sheets.map (fun s => Part.lateLimit s.seq)
  ++ p.track.sheets.flatMap Sheet.stallTests
  ++ p.gates.gdOccupants.map (fun o => Part.gateRelease .gd o.seq)
  ++ p.gates.gxOccupants.map (fun o => Part.gateRelease .gx o.seq)
  ++ p.track.sheets.map (fun s => Part.conversionStart s.seq)
  ++ p.loop.map (fun _ => Part.parkDeadline)
  ++ [Part.ejectTimeout, Part.cadenceLoss, Part.warmupEnd, Part.runEndReached]

/-- Every event of the clock that is due in the tick. -/
def Part.fireAll (p : Part) : Part := p.clockEvents.foldl Part.fire p

/-- The length in reference periods of the tick that begins, and the fraction accumulator (R6). -/
def Clock.divide (c : Clock) : Clock :=
  if c.fraction + c.spdFrac < 16 then { c with period := c.spdInt, fraction := c.fraction + c.spdFrac }
  else { c with period := c.spdInt + 1, fraction := c.fraction + c.spdFrac - 16 }

/-- The pitch counter at the end of a tick (R9). -/
def Part.countPitch (p : Part) : Part :=
  match p.tables.parameters with
  | none => p
  | some s =>
    if p.arbiter.pitch + 1 < s.pitch then { p with arbiter := { p.arbiter with pitch := p.arbiter.pitch + 1 } }
    else { p with arbiter := { p.arbiter with pitch := 0, expiryDue := true } }

/-- The end of a tick (R6, R8, R9). -/
def Part.endTick (p : Part) : Part :=
  Part.countPitch { p with clock := { p.clock.divide with tick := p.clock.tick + 1 } }

/-- One path tick. -/
def Part.tick (p : Part) : Part := p.start.fireAll.endTick

def State.idle (s : State) : State := s.withPart s.toPart.tick

end Sys2Proof.Machine
end

