-- ==== Sys2Proof/Safety.lean ====
section
/-! DEFINITION. What counts as a safe run: no step ends in a fault or a refusal, and what the manual says holds "at all
times" is true of every state met. Each promise is a predicate on the part, said in the manual's own terms. -/

namespace Sys2Proof.Machine

/-- A step goes on. -/
def Runs (o : Host.Outcome State Fault Refusal) : Prop := ∃ t, o = .next t

/-! ### Sizes -/

/-- The Order Queue, the Report Queue, the Group Table, the Sheet Track and the outstanding cue list hold no more than
their sizes, the taken-record, further-fault, anomaly and late-answer counts stay in their ranges (R27, R79, R102, R107,
R163, R178, R179, R185), and a transmission has a record to send (R191). The other ranges are `Ranged`'s. -/
def Part.Bounded (p : Part) : Prop :=
  p.link.orders.length ≤ 64 ∧ p.link.reports.length ≤ 64 ∧ p.link.taken < 32
  ∧ p.groups.entries.length ≤ 16 ∧ p.track.sheets.length ≤ 16 ∧ p.cue.outstanding.length ≤ 4
  ∧ p.ctl.further ≤ 255 ∧ p.track.anomalies ≤ 65535 ∧ p.cue.late ≤ 65535
  ∧ (p.link.transmitting = true → p.link.reports ≠ [])

/-- The ranges that rest on the account of sheets and room: the loop FIFO and the pending-second-pass count hold at most
4 (R70, R118), the set list at most 64 (R128), the allowance list at most 16 entries of 1 to 64 (R142), a bin 0 to 4000
and the purge bin 0 to 1000 (R146, R149), the fraction accumulator and SPD_FRAC 0 to 15 (R6). -/
def Part.Ranged (p : Part) : Prop :=
  p.loop.length ≤ 4 ∧ p.arbiter.pendingSecond ≤ 4 ∧ p.acc.sheets.length ≤ 64
  ∧ p.stacker.allowances.length ≤ 16 ∧ (∀ a ∈ p.stacker.allowances, 1 ≤ a.count ∧ a.count ≤ 64)
  ∧ (∀ b, (p.stacker.bins.get b).stacked ≤ 4000) ∧ p.stacker.purgeStacked ≤ 1000
  ∧ p.clock.fraction ≤ 15 ∧ p.clock.spdFrac ≤ 15

/-! ### Transport and Fault Capture -/

/-- The stopped states in which paper may lie in the path (9.1). -/
def TransportState.stopped : TransportState → Bool
  | .halted | .jammed => true
  | _ => false

/-- Fault Capture is locked exactly in HALTED and JAMMED, holds a first fault exactly then, of the class that leads to
the state, and counts further faults only then (R154, R162, R163). -/
def Part.CaptureAgrees (p : Part) : Prop :=
  p.ctl.locked = p.ctl.state.stopped
  ∧ p.ctl.firstFault.isSome = p.ctl.state.stopped
  ∧ (∀ r, p.ctl.firstFault = some r →
      p.ctl.state = if r.kind.faultClass = .stop then .halted else .jammed)
  ∧ (p.ctl.state.stopped = false → p.ctl.further = 0)

/-- A sheet whose gauge sampling is under way (R96). -/
def Sheet.isSampling (s : Sheet) : Bool :=
  match s.sampling with
  | .sampling _ _ => true
  | _ => false

/-- A drain reason, a warm-up end and a run end are present exactly in their states (Table 9-1); the cadence watch is
armed only in RUNNING and DRAINING, with cadence not lost (R12); a sheet is SAMPLING only in a moving state (R99); a
pick deadline runs exactly for a request outstanding in WARMUP or RUNNING (R55). -/
def Part.TimedAgrees (p : Part) : Prop :=
  p.ctl.drainReason.isSome = (p.ctl.state == .draining)
  ∧ p.ctl.warmupEnd.isSome = (p.ctl.state == .warmup)
  ∧ p.ctl.runEnd.isSome = (p.ctl.state == .recovery)
  ∧ (p.ctl.runEndReached = true → p.ctl.state = .recovery)
  ∧ (p.clock.watchArmed = true →
      (p.ctl.state = .running ∨ p.ctl.state = .draining) ∧ p.clock.cadenceLost = false)
  ∧ (p.ctl.state.moving = false → ∀ s ∈ p.track.sheets, s.isSampling = false)
  ∧ ∀ t, (p.feeders.get t).deadline.isSome = ((p.feeders.get t).request && p.ctl.state.picking)

def Part.TransportAgrees (p : Part) : Prop := p.CaptureAgrees ∧ p.TimedAgrees

/-! ### Tables -/

/-- A Path Geometry Table within Table 1-2. -/
def geometryOk (c : List Nat) : Bool := c.length == 8 && inRanges geometryRanges c

/-- A Parameter Set within Table 1-6, with GATE_CLEAR no more than GAP_MIN (R15). -/
def parametersOk (c : List Nat) : Bool :=
  c.length == 22 && inRanges parameterRanges c && decide ((ParameterSet.mk c).gateClear ≤ (ParameterSet.mk c).gapMin)

/-- A Media Table within Table 3-1 (R44). -/
def mediaOk (c : List MediaEntry) : Bool :=
  c.length == 16 && (c.filter MediaEntry.valid).all fun m => m.inRange && !(m.alternate == m.primary)

def routingOk (c : List RoutingEntry) : Bool :=
  c.length == 32 && c.all fun e => decide (e.bin ≤ 7) && decide (e.jog ≤ 1)

/-- A Bin Map within Table 8-2 (R140). -/
def binMapOk (c : List BinMapEntry) : Bool :=
  c.length == 15 && c.all fun e => e.inRange && e.noConflict

/-- A pending load would pass its validation again (R4, R15, R16, R44). -/
def Part.pendingOk (p : Part) : PendingLoad → Bool
  | .geometry c => geometryOk c
  | .parameters c => parametersOk c && crossChecks ⟨c⟩ p.mediaInForce
  | .media c => mediaOk c && p.tables.parameters.all fun s => crossChecks s c

/-- Every loaded table is as its validation let it be, the checks between tables hold, every valid media entry holds
its slot count while the Parameter Set is loaded and none otherwise (R4, R15, R16, R26, R43, R44, R140). -/
def Part.TablesHold (p : Part) : Prop :=
  p.tables.geometry.all (fun g => geometryOk g.entries) = true
  ∧ p.tables.parameters.all (fun s => parametersOk s.entries) = true
  ∧ p.tables.media.all (fun t => mediaOk t.entries) = true
  ∧ routingOk p.tables.routing = true
  ∧ p.tables.binMap.all (fun m => binMapOk m.entries) = true
  ∧ p.tables.parameters.all (fun s => crossChecks s p.mediaInForce) = true
  ∧ (∀ m ∈ p.mediaInForce, m.slots = if m.valid then p.tables.parameters.map fun s => s.slotCount m.length else none)
  ∧ p.link.pendingLoad.all p.pendingOk = true

/-- The pitch counter holds 0 to PITCH - 1, and 0 with no expiry while no Parameter Set is loaded (R9). -/
def Part.PitchInRange (p : Part) : Prop :=
  match p.tables.parameters with
  | none => p.arbiter.pitch = 0 ∧ p.arbiter.expiryDue = false
  | some s => p.arbiter.pitch < s.pitch

/-- The states that need tables have them: every state but HALTED the geometry and the parameters (R152, R154), and
the states between START and the end of the path all four tables that START tests (R152). -/
def Part.TablesLoaded (p : Part) : Prop :=
  (p.ctl.state ≠ .halted → p.tables.geometry.isSome = true ∧ p.tables.parameters.isSome = true)
  ∧ (p.ctl.state = .warmup ∨ p.ctl.state = .running ∨ p.ctl.state = .draining ∨ p.ctl.state = .runout →
      p.tables.media.isSome = true ∧ p.tables.binMap.isSome = true)

/-! ### Reports -/

def CoalescedKind.list : List CoalescedKind := [.credit, .streamFault, .attention, .status]

/-- How many records of a kind are queued. -/
def Part.queuedOf (p : Part) (k : CoalescedKind) : Nat :=
  (p.link.reports.filter fun r => r.kind == some k).length

/-- At most one record of each coalesced kind is queued or held; a pending one stands only behind one being
transmitted; each slot holds a record of its own kind (R186, R187). A report is held only while the queue is full, and
a held GROUP RESULT has its entry (R40, R186). -/
def Part.ReportsAgree (p : Part) : Prop :=
  (∀ k, p.queuedOf k + (p.link.held.slots.get k).toList.length ≤ 1)
  ∧ (∀ k, (p.link.waiting.get k).isSome = true → p.sendingKind = some k)
  ∧ (∀ k r, p.link.held.slots.get k = some r → r.kind = some k)
  ∧ (∀ k r, p.link.waiting.get k = some r → r.kind = some k)
  ∧ (p.anyHeld = true → p.link.reports.length = 64)
  ∧ p.link.held.results.Nodup
  ∧ ∀ k ∈ p.link.held.results, ∃ g ∈ p.groups.entries, g.key = k

/-! ### Groups -/

/-- An entry as its state says it is (Table 2-4, R28, R31, R32): an ADMITTING group has a valid declared count that its
accepted count does not pass; a BROKEN_OPEN one has accepted fewer than 64; a reason stands exactly when it is broken;
at least one order has been accepted; a last tag stands when it is CLOSED and not while it is open. -/
def Group.Agrees (g : Group) : Prop :=
  (g.state = .admitting → 1 ≤ g.declared ∧ g.declared ≤ 64 ∧ g.accepted ≤ g.declared)
  ∧ (g.state = .brokenOpen → g.accepted < 64)
  ∧ 1 ≤ g.accepted ∧ g.accepted ≤ 64
  ∧ g.reason.isSome = g.state.broken
  ∧ (g.state = .closed → g.lastTag.isSome = true)
  ∧ (g.state.closedState = false → g.lastTag = none)

/-- The group entries stand in admission order and are told apart; the open group is the one entry that is ADMITTING or
BROKEN_OPEN (R19, R27, R28); a group whose result is held is closed (R40). -/
def Part.GroupsAgree (p : Part) : Prop :=
  (p.groups.entries.map Group.key).Pairwise (· < ·)
  ∧ (∀ g ∈ p.groups.entries, g.key < p.groups.nextKey ∧ g.Agrees)
  ∧ (∀ g ∈ p.groups.entries, g.state.closedState = false ↔ p.planner.openGroup = some g.key)
  ∧ (∀ k, p.planner.openGroup = some k → ∃ g ∈ p.groups.entries, g.key = k)
  ∧ ∀ k ∈ p.link.held.results, ∀ g ∈ p.groups.entries, g.key = k → g.state.closedState = true

/-! ### Bills -/

/-- Sheets of a group in the Sheet Track. -/
def Part.sheetsOf (p : Part) (k : GroupKey) : List Sheet := p.track.sheets.filter fun s => s.group == k

/-- Sheets of a group in the accumulator. -/
def Part.setOf (p : Part) (k : GroupKey) : Nat := if p.acc.setGroup = some k then p.acc.sheets.length else 0

/-- The account of the bills (R29): for every entry, accepted is the sum of the other counts, in path is the number of
its sheets in the Sheet Track and in set the number in the accumulator. Sheet records have distinct seqs (R79) and
their group's entry; the set has its group's entry, and an eject in flight counts the whole set (R128). A group whose
result is held has no sheet left (R40). -/
def Part.BillsAccounted (p : Part) : Prop :=
  (∀ g ∈ p.groups.entries,
    g.accepted = g.inPath + g.inSet + g.delivered + g.purged + g.removed + g.unfed
    ∧ g.inPath = (p.sheetsOf g.key).length ∧ g.inSet = p.setOf g.key)
  ∧ (p.track.sheets.map Sheet.seq).Nodup
  ∧ (∀ s ∈ p.track.sheets, ∃ g ∈ p.groups.entries, g.key = s.group)
  ∧ (p.acc.setGroup.isSome = !p.acc.sheets.isEmpty)
  ∧ (∀ k, p.acc.setGroup = some k → ∃ g ∈ p.groups.entries, g.key = k)
  ∧ (∀ e, p.acc.eject = some e → e.count = p.acc.sheets.length ∧ p.acc.sheets ≠ [])
  ∧ ∀ g ∈ p.groups.entries, g.key ∈ p.link.held.results → g.inPath = 0 ∧ g.inSet = 0

/-- The next `n` seqs are carried by no record. -/
def Part.SeqsFreeFor (p : Part) (n : Nat) : Prop :=
  ∀ i, i < n → ∀ s ∈ p.track.sheets, s.seq ≠ p.track.nextSeq + BitVec.ofNat 16 i

/-- The next sixteen seqs, as many as one step can give out, are carried by no record. R79 says that no two records carry
the same seq; the seq counter wraps (R78), so that is so while no record stays in the part for some 65,500 further picks
(notes/assumptions/35.md). -/
def Part.SeqsFree (p : Part) : Prop := p.SeqsFreeFor 16

/-- Every record is where its state says (Table 5-2, R50, R56, R118): only a MOVING sheet has a lead window or covers a
station; the loop's entries name different records, each LOOPED; a pick request is outstanding only for the sheet that
holds the tray's staging position, in PICKING, and a sheet in PICKING holds that position of its tray. -/
def Part.SheetsPlaced (p : Part) : Prop :=
  (∀ s ∈ p.track.sheets, s.state ≠ .moving → s.window = none ∧ s.covered = [])
  ∧ (p.loop.map LoopEntry.seq).Nodup
  ∧ (∀ e ∈ p.loop, ∃ s ∈ p.track.sheets, s.seq = e.seq ∧ s.state = .looped)
  ∧ (∀ t, (p.feeders.get t).request = true → ∃ s ∈ p.track.sheets,
      (p.feeders.get t).holder = some s.seq ∧ s.state = .picking ∧ s.tray = t)
  ∧ ∀ s ∈ p.track.sheets, s.state = .picking → (p.feeders.get s.tray).holder = some s.seq

/-- A sheet still bound for its bill's bin. -/
def Sheet.Bound (s : Sheet) : Prop :=
  s.destination = .stack ∧ s.exitDecision ≠ some .purge ∧ PathSensor.pg ∉ s.itinerary
    ∧ s.coversAt (.path .pg) = false ∧ ∀ w, s.window = some w → w.station ≠ .pg

/-- Bill integrity: a bill not broken has lost no sheet, every sheet of it is still bound for its bin, and it is
delivered whole or not at all; a broken bill has no sheet delivered and every sheet of it in the path is bound for
purge (R35, R41); a bill holds its room exactly while it is neither broken nor delivered (R35, R142, R144); only a
broken set goes to purge and only an intact one to a bin (R131, R133, R134); the cadence group is unbroken and open or
with a fresh sheet to launch (R71). -/
def Part.BillsWhole (p : Part) : Prop :=
  (∀ g ∈ p.groups.entries, g.state.broken = false →
    g.purged = 0 ∧ g.removed = 0 ∧ g.unfed = 0
    ∧ (g.delivered = 0 ∨ (g.state = .closed ∧ g.delivered = g.accepted))
    ∧ ∀ s ∈ p.sheetsOf g.key, s.Bound)
  ∧ (∀ g ∈ p.groups.entries, g.state.broken = true →
      g.delivered = 0 ∧ ∀ s ∈ p.sheetsOf g.key, s.destination = .purge)
  ∧ (∀ g ∈ p.groups.entries,
      (p.stacker.allowances.any fun a => a.group == g.key) = (!g.state.broken && g.delivered == 0))
  ∧ (p.stacker.allowances.map Allowance.group).Nodup
  ∧ (∀ a ∈ p.stacker.allowances, ∃ g ∈ p.groups.entries, g.key = a.group ∧ g.bin = some a.bin
      ∧ a.count = if g.state = .closed then g.accepted else g.declared)
  ∧ (∀ e, p.acc.eject = some e → ∀ g ∈ p.groups.entries, p.acc.setGroup = some g.key →
      match e.target with
      | .purge => g.state.broken = true
      | .bin b => g.state = .closed ∧ g.inSet = g.accepted ∧ g.bin = some b)
  ∧ ∀ k, p.arbiter.cadenceGroup = some k → ∃ g ∈ p.groups.entries, g.key = k ∧ g.state.broken = false
      ∧ (g.state = .admitting ∨ ∃ s ∈ p.sheetsOf k, s.fresh = true)

/-! ### Bins and loop -/

/-- Every bin's state is the one its count, levels and marks give (R146). -/
def Part.BinsFormed (p : Part) : Prop :=
  ∀ b, (p.stacker.bins.get b).state = (p.stacker.bins.get b).formed (p.capacity b)

/-- In the loop FIFO the PARKED entries stand before the INBOUND ones, and a PARKED entry has no deadline (R118,
R120). -/
def loopOrdered : List LoopEntry → Bool
  | [] => true
  | e :: rest =>
    match e.state with
    | .parked => e.deadline.isNone && loopOrdered rest
    | .inbound => rest.all fun x => x.state == .inbound

def Part.LoopOrdered (p : Part) : Prop := loopOrdered p.loop = true

/-- The Stacker's standing promises: in no physical bin do stacked and reserved together pass the capacity (R142), and
the purge free room is at least the number of sheets in the part (R149). -/
def Part.RoomKept (p : Part) : Prop :=
  (∀ b, (p.stacker.bins.get b).stacked + p.reservedIn b ≤ p.capacity b)
  ∧ p.stacker.purgeStacked + p.track.sheets.length + p.acc.sheets.length ≤ p.purgeCapacity

/-- A station the record is bound for or covers. -/
def Sheet.meets (s : Sheet) (q : PathSensor) : Prop := q ∈ s.itinerary ∨ s.coversAt (.path q) = true

/-- A record's route is the one its state and its stations say (R70, R80, R82 to R84, R93, R94): no route before the first
launch, FRESH_LOOP in the loop and on the way to it, another route beyond XS; an unspoiled DUPLEX record on its first
pass was launched loop-bound. The itinerary is what is left of the one R3 gives, its first station the one the lead window
stands at, and a record with FX still ahead covers no station beyond it. -/
def Sheet.RouteAgrees (s : Sheet) : Prop :=
  (s.fresh = true → s.route = none)
  ∧ (s.state = .looped → s.route = some .freshLoop)
  ∧ (s.state = .moving → s.destination = .stack → s.pass = .first → s.plex = .duplex → s.route = some .freshLoop)
  ∧ (s.meets .dl → s.route = some .freshLoop)
  ∧ (s.meets .xs ∨ s.meets .ac ∨ s.meets .pg → s.route ≠ some .freshLoop)
  ∧ (s.itinerary <:+ [.mg, .rg, .tr, .fx, .dl] ∨ s.itinerary <:+ [.mg, .rg, .tr, .fx, .xs]
      ∨ s.itinerary = [.ac] ∨ s.itinerary = [.pg])
  ∧ (∀ w, s.window = some w → s.itinerary.head? = some w.station)
  ∧ (.fx ∈ s.itinerary → ∀ q ∈ [PathSensor.dl, .xs, .ac, .pg], s.coversAt (.path q) = false)

/-- The pending-second-pass count is the number of records that R70 counts, those whose route is FRESH_LOOP, and at most
4; with the LOOPED records and the loop FIFO agreeing one for one it is the number of MOVING ones on that route and of
loop entries, so that the loop too holds at most 4 (R70, R118). -/
def Part.LoopCounted (p : Part) : Prop :=
  p.arbiter.pendingSecond = (p.track.sheets.filter fun s => s.route == some .freshLoop).length
  ∧ p.arbiter.pendingSecond ≤ 4
  ∧ p.arbiter.pendingSecond
      = (p.track.sheets.filter fun s => s.route == some .freshLoop && s.state == .moving).length + p.loop.length
  ∧ (∀ s ∈ p.track.sheets, s.state = .looped → ∃ e ∈ p.loop, e.seq = s.seq)
  ∧ ∀ s ∈ p.track.sheets, s.RouteAgrees

/-- Every promise of this file together. -/
def Part.Sound (p : Part) : Prop :=
  p.Bounded ∧ p.Ranged ∧ p.TransportAgrees ∧ p.TablesHold ∧ p.PitchInRange ∧ p.TablesLoaded ∧ p.ReportsAgree
  ∧ p.GroupsAgree ∧ p.BillsAccounted ∧ p.SeqsFree ∧ p.SheetsPlaced ∧ p.BillsWhole ∧ p.BinsFormed ∧ p.LoopOrdered
  ∧ p.RoomKept ∧ p.LoopCounted

/-! ### STREAM FAULT counts and load causes -/

/-- The counts of one occurrence added into those of a record, each saturating at 65535; the last refused kind is the
occurrence's when it has one (R187, R189). -/
def StreamFault.Sum (f d x : StreamFault) : Prop :=
  x.badCheck = min 65535 (f.badCheck + d.badCheck) ∧ x.malformed = min 65535 (f.malformed + d.malformed)
  ∧ x.overflow = min 65535 (f.overflow + d.overflow) ∧ x.orphan = min 65535 (f.orphan + d.orphan)
  ∧ x.refused = min 65535 (f.refused + d.refused)
  ∧ x.lastRefused = (if d.lastRefused.isSome then d.lastRefused else f.lastRefused)

/-- The link with other reports, held and pending records, and the framer in HUNT. -/
def Link.reporting (l l' : Link) : Link :=
  { l with framer := .hunt, reports := l'.reports, held := l'.held, waiting := l'.waiting }

/-- What an occurrence of `d` leaves of the report side (R186, R187, R189): a new STREAM FAULT record, appended or held,
when there is none; the counts added into the one queued, held or pending when there is one; a pending record behind one
being transmitted. No other record is touched. -/
def Part.Counted (p q : Part) (d : StreamFault) : Prop :=
  let sending : Prop := p.sendingKind = some .streamFault
  let held (x : Option Report) : Held := { p.link.held with slots := { p.link.held.slots with streamFault := x } }
  (p.queuedOf .streamFault = 0 → p.link.held.slots.streamFault = none → p.link.reports.length < 64 →
    q.link.reports = p.link.reports ++ [.streamFault d] ∧ q.link.held = p.link.held ∧ q.link.waiting = p.link.waiting)
  ∧ (p.queuedOf .streamFault = 0 → p.link.held.slots.streamFault = none → 64 ≤ p.link.reports.length →
    q.link.reports = p.link.reports ∧ q.link.held = held (some (.streamFault d)) ∧ q.link.waiting = p.link.waiting)
  ∧ (∀ f, p.queuedOf .streamFault = 0 → p.link.held.slots.streamFault = some (.streamFault f) →
    q.link.reports = p.link.reports ∧ q.link.waiting = p.link.waiting
    ∧ ∃ x, q.link.held = held (some (.streamFault x)) ∧ f.Sum d x)
  ∧ (∀ pre f post, p.link.reports = pre ++ .streamFault f :: post → ¬ sending →
    (∀ r ∈ pre ++ post, r.kind ≠ some .streamFault) →
    q.link.held = p.link.held ∧ q.link.waiting = p.link.waiting
    ∧ ∃ x, q.link.reports = pre ++ .streamFault x :: post ∧ f.Sum d x)
  ∧ (sending → q.link.reports = p.link.reports ∧ q.link.held = p.link.held
    ∧ (p.link.waiting.streamFault = none →
        q.link.waiting = { p.link.waiting with streamFault := some (.streamFault d) })
    ∧ ∀ f, p.link.waiting.streamFault = some (.streamFault f) →
        ∃ x, q.link.waiting = { p.link.waiting with streamFault := some (.streamFault x) } ∧ f.Sum d x)

/-- What a drop leaves (R177, R39): the one count; no place taken and no credit counted; an ADMITTING open group broken
with STREAM, and no group touched otherwise; and nothing changed but what a break changes. -/
def Part.DroppedAs (p q : Part) (d : StreamFault) : Prop :=
  q = { p with
    sent := [], link := p.link.reporting q.link, groups := q.groups, track := q.track, planner := q.planner,
    stacker := q.stacker, arbiter := q.arbiter }
  ∧ p.Counted q d
  ∧ q.track.sheets.length = p.track.sheets.length
  ∧ (∀ g, p.openGroup? = some g → g.state = .admitting → g.accepted < 64 →
      q.group? g.key = some { g with state := .brokenOpen, reason := some .stream }
      ∧ q.planner.openGroup = p.planner.openGroup)
  ∧ ((∀ g, p.openGroup? = some g → g.state.broken = true) →
      q.groups = p.groups ∧ q.track = p.track ∧ q.planner = p.planner ∧ q.stacker = p.stacker ∧ q.arbiter = p.arbiter)

/-- What a refused immediate control leaves (R180, R189): the refused count and the last refused kind, and no other
effect. -/
def Part.RefusedAs (p q : Part) (k : ControlKind) : Prop :=
  q = { p with sent := [], link := p.link.reporting q.link }
  ∧ p.Counted q { StreamFault.zero with refused := 1, lastRefused := some k }

/-- A load judged by R4: the run names at least one entry and none past the table's end, or EXTENT; while the table is
not loaded it covers every entry, or INCOMPLETE; and of the candidate, the current contents with the run put in, the
first of RANGE, CONFLICT and CROSS whose test it fails, or the candidate itself. -/
def Judged {α : Type} (size : Nat) (current : Option (List α)) (first : Nat) (run : List α)
    (range conflict cross : List α → Prop) (r : Except LoadCause (List α)) : Prop :=
  let extent : Prop := 1 ≤ run.length ∧ first + run.length ≤ size
  let whole : Prop := current.isSome = true ∨ (first = 0 ∧ run.length = size)
  let c : List α := match current with
    | some old => old.take first ++ run ++ old.drop (first + run.length)
    | none => run
  (¬ extent → r = .error .extent)
  ∧ (extent → ¬ whole → r = .error .incomplete)
  ∧ (extent → whole → ¬ range c → r = .error .range)
  ∧ (extent → whole → range c → ¬ conflict c → r = .error .conflict)
  ∧ (extent → whole → range c → conflict c → ¬ cross c → r = .error .cross)
  ∧ (extent → whole → range c → conflict c → cross c → r = .ok c)

/-- Every value that stands against a range lies in it, both ends included. -/
def Within (ranges : List (Nat × Nat)) (values : List Nat) : Prop :=
  ∀ x ∈ ranges.zip values, x.1.1 ≤ x.2 ∧ x.2 ≤ x.1.2

/-- The checks of R16 between a Parameter Set and Media Table entries: for every valid entry of length L,
ceil((L + GAP_MIN) / PITCH) is 1 to 4 and SAMPLE_DELAY + 3 × SAMPLE_SPACING + LEN_TOL < L. -/
def Fits (s : ParameterSet) (entries : List MediaEntry) : Prop :=
  ∀ m ∈ entries, m.valid = true →
    1 ≤ m.length + s.gapMin ∧ m.length + s.gapMin ≤ 4 * s.pitch
    ∧ s.sampleDelay + 3 * s.sampleSpacing + s.lenTol < m.length

/-! ### Faults and resets -/

/-- The record of a fault raised now (Table 9-5). -/
def Part.faultOf (p : Part) (k : FaultKind) (station : Option Station) (tag group : Option Half) : FaultRecord :=
  { kind := k, station := station, tag := tag, group := group, tick := p.clock.tick, state := p.ctl.state,
    occupancy := p.track.sheets.length }

/-- Transport Control as a captured fault leaves it, in JAMMED or HALTED by the fault's class (R162, R165). -/
def Control.stoppedBy (c : Control) (r : FaultRecord) : Control :=
  { c with
    state := if r.kind.faultClass = .stop then .halted else .jammed
    drainReason := none, warmupEnd := none, runEnd := none, runEndReached := false
    firstFault := some r, locked := true }

/-- What both resets leave alike, with the levels of the lines (R1, R42, R59, R76, R77, R105, R107, R118, R142, R150,
R174, R179, R191; Tables 3-7, 4-3, 8-3, 9-7 and 10-6). -/
def Part.FreshFrom (p : Part) (l : Lines) : Prop :=
  p.sensors = { staging := l.staging, path := l.path }
  ∧ p.gates = { gd := .exit, gx := .purge, gdOccupants := [], gxOccupants := [] }
  ∧ p.planner = { openGroup := none, waiting := .none, reported := .none } ∧ p.groups.entries = []
  ∧ (∀ t, p.feeders.get t =
      { state := if (l.trays.get t).drawerOpen then .opened
          else if (l.trays.get t).paperOut then .empty else if (l.trays.get t).paperLow then .low else .ready
        drawerOpen := (l.trays.get t).drawerOpen, paperLow := (l.trays.get t).paperLow
        paperOut := (l.trays.get t).paperOut, holder := none, request := false, deadline := none
        abandoned := false })
  ∧ p.arbiter =
      { slotIndex := 0, block := 0, launchCounter := 0, pendingSecond := 0, lastExit := none, lastSetGroup := none,
        cadenceGroup := none, pitch := 0, expiryDue := false }
  ∧ p.track = { sheets := [], nextSeq := 0, gauge := none, anomalies := 0 } ∧ p.cue = { outstanding := [], late := 0 }
  ∧ p.loop = [] ∧ p.acc = { setGroup := none, sheets := [], eject := none }
  ∧ p.stacker.allowances = [] ∧ p.stacker.purgeDoorOpen = l.purgeDoorOpen
  ∧ p.ctl =
      { state := .halted, drainReason := none, warmupEnd := none, runEnd := none, runEndReached := false,
        sweepClass := none, firstFault := some (resetRecord p.clock.tick), locked := true, further := 0,
        coverOpen := l.coverOpen, powerWarn := l.powerWarn }
  ∧ p.link =
      { framer := .hunt, orders := [], taken := 0, pendingLoad := none,
        reports := [.credit 2, .fault (resetRecord p.clock.tick)], transmitting := l.returnReady,
        returnReady := l.returnReady, held := { fault := none, slots := .none, results := [] }, waiting := .none }
  ∧ p.clock.watchArmed = false ∧ p.clock.cadenceLost = false

/-! ### Orders and loads -/

/-- The record that an order taken into a pick gets (R50, R78, Table 5-1): the next seq, the order's tag, plex and
images, the media entry's length, slot count and nominal thickness; PICKING, bound for STACK, nothing else begun. -/
def Part.freshSheet (p : Part) (o : SheetOrder) (m : MediaEntry) (k : GroupKey) (t : TrayId) : Sheet :=
  { seq := p.track.nextSeq, tag := o.tag, group := k, media := o.media.toNat, length := m.length
    slots := m.slots.getD 0, nominal := m.nominal, plex := o.plex, imageA := o.imageA
    imageB := o.imageB && o.plex == .duplex, pass := .first, route := none, destination := .stack, spoil := none
    state := .picking, tray := t, attempts := 0, launchTick := none, launchOrder := none, itinerary := []
    window := none, covered := [], exitDecision := none, thickness := none, sampling := .idle, cueA := .none
    cueB := .none }

/-- What an order taken into a pick on tray `t` leaves beside its group (R50): the new record last in the Sheet Track,
the tray's staging position held for it, and a pick request with its deadline when the tray is usable. -/
def Part.PickedAs (p q : Part) (x : Sheet) (t : TrayId) : Prop :=
  q.track = { p.track with sheets := p.track.sheets ++ [x], nextSeq := p.track.nextSeq + 1 }
  ∧ (∀ u, u ≠ t → q.feeders.get u = p.feeders.get u)
  ∧ ((p.feeders.get t).state = .ready ∨ (p.feeders.get t).state = .low →
      q.feeders.get t = { p.feeders.get t with
        holder := some x.seq, request := true, deadline := some (p.clock.tick + BitVec.ofNat 32 p.params.pickLimit) }
      ∧ q.sent = p.sent ++ [.pickRequest t])
  ∧ ((p.feeders.get t).state ≠ .ready → (p.feeders.get t).state ≠ .low →
      q.feeders.get t = { p.feeders.get t with holder := some x.seq } ∧ q.sent = p.sent)

/-- What a validated load of a locked table leaves (R5, R6, R9, R17, R43, R45). -/
def Part.AppliedAs (p q : Part) : PendingLoad → Prop
  | .geometry c => q.tables = { p.tables with geometry := some ⟨c⟩ } ∧ q.clock = p.clock ∧ q.sent = p.sent
  | .media c =>
    q.tables = { p.tables with
      media := some ⟨c.map fun m => { m with
        slots := if m.valid then p.tables.parameters.map fun s => s.slotCount m.length else none }⟩ }
    ∧ q.clock = p.clock ∧ q.sent = p.sent
  | .parameters c =>
    q.tables = { p.tables with
      parameters := some ⟨c⟩
      media := p.tables.media.map fun t => ⟨t.entries.map fun m => { m with
        slots := if m.valid then some (ParameterSet.slotCount ⟨c⟩ m.length) else none }⟩ }
    ∧ q.clock.spdInt = ParameterSet.spdInt ⟨c⟩ ∧ q.clock.spdFrac = ParameterSet.spdFrac ⟨c⟩ ∧ q.clock.fraction = 0
    ∧ q.clock.tick = p.clock.tick ∧ q.clock.period = p.clock.period ∧ q.arbiter.pitch = 0
    ∧ q.sent = p.sent ++
        (if p.ctl.state.motors then [.divider (ParameterSet.spdInt ⟨c⟩) (ParameterSet.spdFrac ⟨c⟩)] else [])
    ∧ (p.ctl.state = .running →
        q.clock.watchArmed = (ParameterSet.locked ⟨c⟩ && !p.clock.cadenceLost)
        ∧ (q.clock.watchArmed = true → q.clock.watchReference = p.clock.tick))
    ∧ (p.ctl.state ≠ .running → q.clock.watchArmed = p.clock.watchArmed)

/-! ### Edges of the path sensors -/

/-- A covered edge at `q` taken now is the lead arrival of `r` (R85): of the records whose lead window is open there, `r`
has the lowest launch order, and its early limit has been reached. -/
def Part.Arrives (p : Part) (r : Sheet) (q : PathSensor) : Prop :=
  p.ctl.state.matching = true ∧ lowestLaunch (p.expectedAt q) = some r
  ∧ ∃ w, r.window = some w ∧ lower p.clock.tick w.early = false

/-- An uncovered edge at `q` taken now is the good trail of `r` (R89): of the records that cover `q`, `r` has the lowest
launch order, and its short limit has been reached. -/
def Part.Clears (p : Part) (r : Sheet) (q : Sensor) : Prop :=
  p.ctl.state.matching = true ∧ p.covering q = some r ∧ p.tooSoon r q = false

/-- A record after its lead arrived at `q`, before the next window (R86, R88). -/
def Part.arrivedAt (p : Part) (q : PathSensor) (x : Sheet) : Sheet :=
  { x with
    window := none, itinerary := x.itinerary.tail
    covered := x.covered ++ [p.coverFor (.path q) x.length p.clock.tick] }

/-- The Sheet Track with one record changed. -/
def Part.sheetsWith (p : Part) (seq : Half) (f : Sheet → Sheet) : List Sheet :=
  p.track.sheets.map fun x => if x.seq = seq then f x else x

/-- A record without its covered entry for a station (R89). -/
def Sheet.uncovered (x : Sheet) (q : Sensor) : Sheet := { x with covered := x.covered.filter fun e => e.station ≠ q }

/-- A break of a group, if it was not broken, with a reason; a group broken already keeps its own (R34). -/
def Part.BrokenBy (p q : Part) (k : GroupKey) (r : BreakReason) : Prop :=
  ∀ g, p.group? k = some g → ∃ h, q.group? k = some h ∧ h.state.broken = true
    ∧ h.reason = (if g.state.broken then g.reason else some r)

/-! ### What the later parts of an event leave alone

A command's own effect is followed in the same event by everything the rules put there (Machine/Cascade.lean). `Steady`
gathers what none of that touches. -/

/-- The levels of a tray's lines, its state and its abandoned-request mark. -/
structure TraySteady where
  state : TrayState
  drawerOpen : Bool
  paperLow : Bool
  paperOut : Bool
  abandoned : Bool
  deriving DecidableEq, Repr

def Feeder.steady (f : Feeder) : TraySteady := ⟨f.state, f.drawerOpen, f.paperLow, f.paperOut, f.abandoned⟩

/-- The levels of a bin's lines and its jog position. -/
structure BinSteady where
  doorOpen : Bool
  full : Bool
  jog : Jog
  deriving DecidableEq, Repr

def Bin.steady (b : Bin) : BinSteady := ⟨b.doorOpen, b.full, b.jog⟩

structure Steady where
  tick : Tick
  sensors : Sensors
  gates : Gates
  trays : PerTray TraySteady
  slotIndex : BitVec 32
  block : Nat
  launchCounter : Half
  pendingSecond : Nat
  lastExit : Option ExitLaunch
  lastSetGroup : Option GroupKey
  gauge : Option (Half × Nat)
  anomalies : Nat
  cue : CueUnit
  loop : List LoopEntry
  setGroup : Option GroupKey
  setSheets : List SetSheet
  bins : PerBin BinSteady
  purgeStacked : Nat
  purgeDoorOpen : Bool
  firstFault : Option FaultRecord
  locked : Bool
  further : Nat
  coverOpen : Bool
  powerWarn : Bool
  framer : Framer
  returnReady : Bool
  freeIndex : Nat
  deriving DecidableEq, Repr

def PerBin.map {α β : Type} (f : α → β) (v : PerBin α) : PerBin β :=
  ⟨f v.b1, f v.b2, f v.b3, f v.b4, f v.b5, f v.b6⟩

def Part.steady (p : Part) : Steady :=
  { tick := p.clock.tick
    sensors := p.sensors
    gates := p.gates
    trays := p.feeders.map Feeder.steady
    slotIndex := p.arbiter.slotIndex
    block := p.arbiter.block
    launchCounter := p.arbiter.launchCounter
    pendingSecond := p.arbiter.pendingSecond
    lastExit := p.arbiter.lastExit
    lastSetGroup := p.arbiter.lastSetGroup
    gauge := p.track.gauge
    anomalies := p.track.anomalies
    cue := p.cue
    loop := p.loop
    setGroup := p.acc.setGroup
    setSheets := p.acc.sheets
    bins := PerBin.map Bin.steady p.stacker.bins
    purgeStacked := p.stacker.purgeStacked
    purgeDoorOpen := p.stacker.purgeDoorOpen
    firstFault := p.ctl.firstFault
    locked := p.ctl.locked
    further := p.ctl.further
    coverOpen := p.ctl.coverOpen
    powerWarn := p.ctl.powerWarn
    framer := p.link.framer
    returnReady := p.link.returnReady
    freeIndex := p.freeIndex }

/-- What the later parts of an event leave alone in a sheet record: all but its tray, attempts, gauge sampling and
spoiling. -/
structure SheetSteady where
  seq : Half
  tag : Half
  group : GroupKey
  media : Nat
  length : Nat
  slots : Nat
  nominal : Nat
  pass : Pass
  route : Option Route
  state : SheetState
  launchTick : Option Tick
  launchOrder : Option Half
  itinerary : List PathSensor
  window : Option Window
  covered : List CoverEntry
  exitDecision : Option Destination
  thickness : Option Byte
  cueA : CueState
  cueB : CueState
  deriving DecidableEq, Repr

def Sheet.steady (s : Sheet) : SheetSteady :=
  { seq := s.seq, tag := s.tag, group := s.group, media := s.media, length := s.length, slots := s.slots,
    nominal := s.nominal, pass := s.pass, route := s.route, state := s.state, launchTick := s.launchTick,
    launchOrder := s.launchOrder, itinerary := s.itinerary, window := s.window, covered := s.covered,
    exitDecision := s.exitDecision, thickness := s.thickness, cueA := s.cueA, cueB := s.cueB }

/-- The states that nothing but a command leaves: a stopped transport, STANDBY, WARMUP and SAFE. -/
def TransportState.still : TransportState → Bool
  | .halted | .jammed | .standby | .warmup | .safe => true
  | _ => false

/-- `q` is what the later parts of an event may make of `p`: the steady state as it was, every sheet record in its
place with its steady fields, records only added behind them, records only taken from the head of the Order Queue, and
Transport Control as it was in a still state. -/
structure Follows (p q : Part) : Prop where
  steady : q.steady = p.steady
  sheets : p.track.sheets.map Sheet.steady <+: q.track.sheets.map Sheet.steady
  orders : q.link.orders <:+ p.link.orders
  control : p.ctl.state.still = true → q.ctl = p.ctl

end Sys2Proof.Machine
end

