-- ==== Sys2Proof/Certificates/Slice0/Obligations.lean ====
section
/-! DEFINITION. The statements for the provers. `s.after p` is the machine after an event whose own effect left the
part as `p`: what the rules put in the same event follows from there (Machine/Cascade.lean; `Follows` in Safety.lean
says what that can touch). A command that stands for a whole record leaves the framer in HUNT
(notes/assumptions/11.md), and the row of a deadline names its holder and changes nothing when that deadline is not
reached (notes/assumptions/5.md). `s.toPart.start` is the part of `s` with nothing sent yet in this step. -/

open Sys2Proof Sys2Proof.Machine

/-! ### The machine -/

/-- The model's own rule (notes/assumptions/1.md): a step runs the command at the front of the queue on the rest. -/
def Obligations.StepRunsFrontCommand : Prop :=
  ∀ (c : Instr) (rest : List Instr) (s : State), s.pending = c :: rest → step s = exec c { s with pending := rest }

/-- No command stops the machine or touches the commands that wait, and none but a power-on reset moves the tick
counter: a controller reset leaves it (R8). A step with no command waiting is one path tick (the model's own rule,
notes/assumptions/1.md): the counter rises by one and wraps; with no Parameter Set to come into force in it, the tick
that begins has the length and leaves the fraction accumulator of R6, and the pitch counter counts to PITCH, where it
starts again at 0 with an expiry (R9), which waits for its command (notes/assumptions/8.md). With no event of the
clock due, nothing else changes. -/
def Obligations.CommandsNeverStop : Prop :=
  ∀ s : State,
    (∀ c : Instr, ∃ t, exec c s = .next t ∧ t.pending = s.pending
      ∧ ((∀ l, c ≠ .powerOnReset l) → t.clock.tick = s.clock.tick))
    ∧ (s.pending = [] → ∃ t, step s = .next t ∧ t.pending = [] ∧ t.clock.tick = s.clock.tick + 1
      ∧ (let sum : Nat := s.clock.fraction + s.clock.spdFrac
         ((∀ c, s.link.pendingLoad ≠ some (.parameters c)) → (∀ i b, Queued.load .parameters i b ∉ s.link.orders) →
            t.clock.spdInt = s.clock.spdInt ∧ t.clock.spdFrac = s.clock.spdFrac
            ∧ (sum < 16 → t.clock.period = s.clock.spdInt ∧ t.clock.fraction = sum)
            ∧ (16 ≤ sum → t.clock.period = s.clock.spdInt + 1 ∧ t.clock.fraction = sum - 16)
            ∧ (s.tables.parameters = none → t.arbiter.pitch = s.arbiter.pitch)
            ∧ ∀ c, s.tables.parameters = some c →
                (s.arbiter.pitch + 1 < c.pitch → t.arbiter.pitch = s.arbiter.pitch + 1 ∧ t.arbiter.expiryDue = false)
                ∧ (c.pitch ≤ s.arbiter.pitch + 1 → t.arbiter.pitch = 0 ∧ t.arbiter.expiryDue = true))
         ∧ ((∀ e ∈ s.toPart.clockEvents, e s.toPart.start = none) →
            t.toPart = { s.toPart with sent := [], clock := t.clock, arbiter := t.arbiter }
            ∧ t.arbiter = { s.arbiter with pitch := t.arbiter.pitch, expiryDue := t.arbiter.expiryDue }
            ∧ t.clock = { s.clock with
                tick := s.clock.tick + 1, period := t.clock.period, fraction := t.clock.fraction })))

/-- After a command nothing is left that the rules put at the first moment at which its conditions hold: no head record
that could be taken, no group to resolve, no due set to eject, no stall to end, no pending load to apply and no drain,
runout or recovery to end (R19, R40, R54, R131, R158, R170, R173, R183). The waiting reasons are those of the state as it
then stands (R25, R58), and every ATTENTION occurrence has been dealt with (R188). -/
def Obligations.NothingIsLeftUndone : Prop :=
  ∀ (c : Instr) (s t : State), exec c s = .next t →
    t.toPart.internal = none ∧ t.planner.waiting = t.plannerWait ∧ t.planner.reported = t.reportedWait t.plannerWait
    ∧ t.attentionDue = false

/-- The Order Queue is first in, first out: a command other than a reset takes records from its head only, and adds at
most one, at its end (R178). -/
def Obligations.OrderQueueIsFifo : Prop :=
  ∀ (c : Instr) (s t : State), (∀ l, c ≠ .powerOnReset l) → (∀ l, c ≠ .controllerReset l) → exec c s = .next t →
    ∃ new : List Queued, new.length ≤ 1 ∧ t.link.orders <:+ s.link.orders ++ new

/-- Boundaries alone count slots and launch sheets: no command but a pitch expiry, a cadence pulse or a reset changes
the slot index, the block count, the launch counter, the last exit-bound launch or the last set group (R60, R62, R65,
R68, R69). -/
def Obligations.OnlyBoundariesLaunch : Prop :=
  ∀ (c : Instr) (s t : State), (∀ l, c ≠ .powerOnReset l) → (∀ l, c ≠ .controllerReset l) → c ≠ .pitchExpiry →
    c ≠ .cadencePulse → exec c s = .next t →
    t.arbiter.slotIndex = s.arbiter.slotIndex ∧ t.arbiter.block = s.arbiter.block
    ∧ t.arbiter.launchCounter = s.arbiter.launchCounter ∧ t.arbiter.lastExit = s.arbiter.lastExit
    ∧ t.arbiter.lastSetGroup = s.arbiter.lastSetGroup

/-- The ways between the transport states (Table 9-12): WARMUP is entered only from STANDBY by a START; RECOVERY only
from a stopped state by a CLEAR FAULT; a stopped state is left only by a CLEAR FAULT; RUNNING is entered only from
WARMUP at the warm-up end or from DRAINING; RUNOUT only from WARMUP, RUNNING or DRAINING by power warn; STANDBY is left
only by START, HALT or a reset. A control arrives whole, or as the byte with which the framer ends its frame. -/
def Obligations.WaysBetweenTransportStates : Prop :=
  ∀ (c : Instr) (s t : State), s.TransportAgrees → exec c s = .next t →
    let arrives (whole : Instr) (r : Inbound) : Prop :=
      c = whole ∨ ∃ b, c = .startDelimiter b ∧ s.link.framer.step b = .record r
    (t.ctl.state = .warmup → s.ctl.state ≠ .warmup → s.ctl.state = .standby ∧ arrives .start .start)
    ∧ (t.ctl.state = .recovery → s.ctl.state ≠ .recovery →
      s.ctl.state.stopped = true ∧ arrives .clearFault .clearFault)
    ∧ (s.ctl.state.stopped = true → t.ctl.state.stopped = false → arrives .clearFault .clearFault)
    ∧ (t.ctl.state = .running → s.ctl.state ≠ .running →
      s.ctl.state = .draining ∨ (s.ctl.state = .warmup ∧ c = .warmupEnd))
    ∧ (t.ctl.state = .runout → s.ctl.state ≠ .runout →
      (s.ctl.state = .warmup ∨ s.ctl.state = .running ∨ s.ctl.state = .draining) ∧ c = .powerWarnAsserted)
    ∧ (s.ctl.state = .standby → t.ctl.state ≠ .standby →
      arrives .start .start ∨ arrives .halt .halt ∨ (∃ l, c = .powerOnReset l) ∨ ∃ l, c = .controllerReset l)

/-! ### Invariants -/

/-- The promises hold of the machine right after reset. -/
def Obligations.ResetKeepsThePromises : Prop :=
  State.reset.Bounded ∧ State.reset.Ranged ∧ State.reset.TransportAgrees ∧ State.reset.TablesHold
  ∧ State.reset.PitchInRange ∧ State.reset.TablesLoaded ∧ State.reset.ReportsAgree ∧ State.reset.GroupsAgree
  ∧ State.reset.BillsAccounted ∧ State.reset.SeqsFree ∧ State.reset.SheetsPlaced ∧ State.reset.BillsWhole
  ∧ State.reset.BinsFormed ∧ State.reset.LoopOrdered ∧ State.reset.RoomKept ∧ State.reset.LoopCounted

/-- The two queues, the Group Table, the Sheet Track and the cue list never pass their sizes, nor the taken-record,
further-fault, anomaly and late-answer counts their ranges, from any state in which none has (R27, R79, R102, R107, R163,
R178, R179, R185). From a state that keeps every promise, so do the loop FIFO and the pending-second-pass count, the set
list, the allowance list and its counts, the stacked counts and the fraction accumulator (R6, R70, R118, R128, R142, R146,
R149). -/
def Obligations.StepKeepsBounds : Prop :=
  ∀ s t : State, step s = .next t → (s.Bounded → t.Bounded) ∧ (s.Sound → t.Ranged)

/-- Every step keeps the transport state and Fault Capture in step (R154, R162, R163), and the timed items present
exactly in the states that have them (Table 9-1, R12, R55, R99). -/
def Obligations.StepKeepsTransport : Prop :=
  ∀ s t : State, s.TransportAgrees → step s = .next t → t.TransportAgrees

/-- Every step keeps the loaded tables such as their validation let them be, the slot counts as the tables give them,
the pitch counter in range, and the tables loaded in the states that need them (R4, R9, R15, R16, R26, R43, R44, R140,
R152, R154, R183). -/
def Obligations.StepKeepsTables : Prop :=
  ∀ s t : State, s.TransportAgrees → s.TablesHold → s.PitchInRange → s.TablesLoaded → step s = .next t →
    t.TablesHold ∧ t.PitchInRange ∧ t.TablesLoaded

/-- Every step keeps at most one record of each coalesced kind queued or held, and reports held only behind a full
queue (R186, R187). -/
def Obligations.StepKeepsReports : Prop :=
  ∀ s t : State, s.Bounded → s.ReportsAgree → step s = .next t → t.ReportsAgree

/-- Every step keeps the group entries as their states say they are, with the open group the one entry that is ADMITTING
or BROKEN_OPEN (R19, R27, R28, R31, R32, R40). -/
def Obligations.StepKeepsGroups : Prop :=
  ∀ s t : State, s.Bounded → s.ReportsAgree → s.GroupsAgree → step s = .next t → t.GroupsAgree

/-- Every step keeps the account of the bills: no sheet is lost or counted twice (R29). The next sixteen seqs are free,
as R79 has it that no two records carry one seq. -/
def Obligations.StepKeepsTheAccount : Prop :=
  ∀ s t : State, s.Bounded → s.ReportsAgree → s.GroupsAgree → s.SeqsFree → s.BillsAccounted → step s = .next t →
    t.BillsAccounted

/-- Every step keeps every record where its state says: only MOVING sheets in a window or over a station, the loop's
entries LOOPED, every outstanding pick request for the PICKING sheet that holds its tray's staging position (R50, R56,
R79, R118; Table 5-2). The next sixteen seqs are free: R79 has it that no two records carry one seq, and a step gives
out sixteen at the most, so that seqs free for `n + 16` picks before it are free for `n` after it
(notes/assumptions/35.md). -/
def Obligations.StepKeepsPlaces : Prop :=
  ∀ s t : State, step s = .next t →
    ((s.track.sheets.map Sheet.seq).Nodup → s.SeqsFree → s.SheetsPlaced → t.SheetsPlaced)
    ∧ ∀ n, n + 16 ≤ 65536 → s.SeqsFreeFor (n + 16) → t.SeqsFreeFor n

/-- Every step keeps bill integrity: an unbroken bill keeps every sheet bound for its bin and is delivered whole or not
at all, and a broken one has none delivered and every sheet bound for purge (R35, R41, R71, R131, R142, R144). -/
def Obligations.StepKeepsBillsWhole : Prop :=
  ∀ s t : State, s.Bounded → s.ReportsAgree → s.GroupsAgree → s.SeqsFree → s.BillsAccounted → s.SheetsPlaced →
    s.BillsWhole → step s = .next t → t.BillsWhole

/-- Every step keeps each bin's state the one that its count, levels and marks give (R146); the PARKED entries of the loop
before the INBOUND ones and without a deadline (R118, R120); stacked and reserved within every bin's capacity (R142) and
purge free room for every sheet in the part (R149); and the pending-second-pass count the number of records that R70
counts, at most 4, with the loop FIFO no longer than that (R70, R118). -/
def Obligations.StepKeepsBinsAndLoop : Prop :=
  ∀ s t : State, step s = .next t →
    (s.BinsFormed → t.BinsFormed) ∧ (s.LoopOrdered → t.LoopOrdered)
    ∧ (s.Bounded → s.ReportsAgree → s.GroupsAgree → s.SeqsFree → s.BillsAccounted → s.SheetsPlaced → s.BillsWhole →
        s.RoomKept → t.RoomKept)
    ∧ ((s.track.sheets.map Sheet.seq).Nodup → s.SeqsFree → s.SheetsPlaced → s.LoopCounted → t.LoopCounted)

/-! ### The stream link -/

/-- The framer's judgement (R175, R192): from HUNT, a delimiter, a kind, a length of at most 1020, a body of that length
and two check bytes end in a bad check when they differ from the check of R176, and otherwise in the record that kind
and body give, or in malformed. A length above 1020 ends the record at its second length byte: it is dropped as malformed
whatever its kind, and the framer is back in HUNT for the next byte. -/
def Obligations.FramerJudgesByCheckThenForm : Prop :=
  ∀ kind : Byte,
    (∀ (body : List Byte) (c : Half), body.length ≤ 1020 →
      Framer.feed .hunt (0xA5#8 :: kind :: bytes16 body.length ++ body ++ bytes16 c.toNat)
        = if c = check (kind :: bytes16 body.length ++ body) then
            (match inboundOf? kind body with
             | some r => .record r
             | none => .malformed)
          else .bad)
    ∧ ∀ high low : Byte, 1020 < 256 * high.toNat + low.toNat →
      Framer.feed .hunt [0xA5#8, kind, high] = .more (.receive [kind, high])
      ∧ (∀ rest, Framer.feed .hunt (0xA5#8 :: kind :: high :: low :: rest) = .malformed)
      ∧ ∀ s : State, s.link.framer = .receive [kind, high] →
        ∃ q, exec (.startDelimiter low) s = .next (s.after q) ∧ q.link.framer = .hunt
          ∧ s.toPart.DroppedAs q { StreamFault.zero with malformed := 1 }

/-- Every inbound record that the link can carry is read back from its frame as it was sent, field for field (R175,
R176, R192; Tables 11-1 to 11-4). -/
def Obligations.InboundFramesReadBack : Prop :=
  ∀ r : Inbound, r.wellFormed = true → Framer.feed .hunt r.frame = .record r

/-- The lengths of the report bodies (Table 11-1). -/
def Obligations.ReportBodiesHaveTheirLengths : Prop :=
  ∀ r : Report, r.body.length = match r with
    | .groupResult _ => 15
    | .fault _ => 13
    | .attention _ => 39
    | .streamFault _ => 11
    | .credit _ => 2
    | .loadResult _ _ => 3
    | .status _ => 24

/-- A byte on the receive side (START_DELIMITER, which the model lets stand for any byte: notes/assumptions/11.md; R175):
in HUNT, A5h moves the framer to RECEIVE and any other byte is
discarded; in RECEIVE the byte joins the record as data, until the record is judged, when the framer is in HUNT again. A
record judged good is dealt with as the command that stands for the whole record, one dropped as DROPPED_RECORD. -/
def Obligations.BytesMoveTheFramer : Prop :=
  (∀ s : State, s.link.framer = .hunt →
    exec (.startDelimiter 0xA5#8) s
      = .next (s.after { s.toPart.start with link := { s.link with framer := .receive [] } })
    ∧ ∀ b, b ≠ 0xA5#8 → exec (.startDelimiter b) s = .next (s.after s.toPart.start))
  ∧ ∀ (s : State) (b : Byte),
    let ends (r : Inbound) (c : Instr) : Prop :=
      s.link.framer.step b = .record r → exec (.startDelimiter b) s = exec c s
    (∀ f, s.link.framer.step b = .more f →
      exec (.startDelimiter b) s = .next (s.after { s.toPart.start with link := { s.link with framer := f } }))
    ∧ ends .start .start ∧ ends .halt .halt ∧ ends .clearFault .clearFault ∧ ends .query .query
    ∧ (∀ n, ends (.binEmptied n) (.binEmptied n))
    ∧ (∀ o, ends (.queued (.order o)) (.sheetOrder o)) ∧ ends (.queued .stop) .stop ∧ ends (.queued .purge) .purge
    ∧ (∀ (l : LoadRecord) (t : TableId), tableOf? l.table.toNat = some t →
        l.body.length = l.count.toNat * TableId.entrySize t → 3 + l.body.length ≤ 1020 →
        ends (.queued (.load t l.first.toNat l.body)) (.load l))
    ∧ (s.link.framer.step b = .bad → exec (.startDelimiter b) s = exec (.droppedRecord .badCheck) s)
    ∧ (s.link.framer.step b = .malformed → exec (.startDelimiter b) s = exec (.droppedRecord .malformed) s)

/-- SHEET_ORDER, STOP, PURGE and LOAD (R178): with fewer than 64 records queued, a record received whole joins the Order
Queue at its end, and nothing else changes before the head is examined. -/
def Obligations.QueuedRecordsJoinTheQueue : Prop :=
  ∀ s : State, s.link.orders.length < 64 →
    let joined (q : Queued) : Part :=
      { s.toPart.start with link := { s.link with framer := .hunt, orders := s.link.orders ++ [q] } }
    (∀ o, exec (.sheetOrder o) s = .next (s.after (joined (.order o))))
    ∧ exec .stop s = .next (s.after (joined .stop))
    ∧ exec .purge s = .next (s.after (joined .purge))
    ∧ ∀ (l : LoadRecord) (t : TableId), tableOf? l.table.toNat = some t →
        l.body.length = l.count.toNat * TableId.entrySize t → 3 + l.body.length ≤ 1020 →
        exec (.load l) s = .next (s.after (joined (.load t l.first.toNat l.body)))

/-- DROPPED_RECORD, a LOAD that names no table or does not fit its table, and a queued record that finds the Order Queue
full (R175, R177, R187, R189, R192): each is dropped under its own count, in a new STREAM FAULT record or added into the
one there is. -/
def Obligations.DropsCountAndBreakTheOpenGroup : Prop :=
  ∀ s : State,
    let d0 := StreamFault.zero
    let drops (c : Instr) (d : StreamFault) : Prop := ∃ q, exec c s = .next (s.after q) ∧ s.toPart.DroppedAs q d
    drops (.droppedRecord .badCheck) { d0 with badCheck := 1 }
    ∧ drops (.droppedRecord .malformed) { d0 with malformed := 1 }
    ∧ (∀ l : LoadRecord, tableOf? l.table.toNat = none → drops (.load l) { d0 with malformed := 1 })
    ∧ (∀ (l : LoadRecord) (t : TableId), tableOf? l.table.toNat = some t →
        (l.body.length ≠ l.count.toNat * TableId.entrySize t ∨ 1020 < 3 + l.body.length) →
        drops (.load l) { d0 with malformed := 1 })
    ∧ (64 ≤ s.link.orders.length →
        (∀ c : Instr, c = .stop ∨ c = .purge ∨ (∃ o, c = .sheetOrder o) → drops c { d0 with overflow := 1 })
        ∧ ∀ (l : LoadRecord) (t : TableId), tableOf? l.table.toNat = some t →
            l.body.length = l.count.toNat * TableId.entrySize t → 3 + l.body.length ≤ 1020 →
            drops (.load l) { d0 with overflow := 1 })

/-- QUERY (R187, R190): a STATUS occurrence, and nothing else. The record carries the state as it stands; a new one counts
itself in the Report Queue occupancy. With no STATUS record anywhere it is appended, or held when no place is free; one
queued, held or pending is refreshed in its place; behind one being transmitted a pending one is kept. -/
def Obligations.QueryMakesAStatus : Prop :=
  ∀ s : State, ∃ q, exec .query s = .next (s.after q)
    ∧ q = { s.toPart with sent := [], link := s.link.reporting q.link }
    ∧ (let n : Nat := s.link.reports.length
       let now (occupancy : Nat) : Report :=
         .status { state := s.ctl.state, fault := if s.ctl.locked then s.ctl.firstFault else none
                   further := s.ctl.further, orders := s.link.orders.length, reports := occupancy
                   sheets := s.track.sheets.length, groups := s.groups.entries.length, late := s.cue.late
                   anomalies := s.track.anomalies }
       let held (x : Report) : Held := { s.link.held with slots := { s.link.held.slots with status := some x } }
       (s.queuedOf .status = 0 → s.link.held.slots.status = none → n < 64 →
          q.link.reports = s.link.reports ++ [now (n + 1)] ∧ q.link.held = s.link.held
          ∧ q.link.waiting = s.link.waiting)
       ∧ (s.queuedOf .status = 0 → s.link.held.slots.status = none → 64 ≤ n →
          q.link.reports = s.link.reports ∧ q.link.held = held (now (n + 1)) ∧ q.link.waiting = s.link.waiting)
       ∧ (s.queuedOf .status = 0 → s.link.held.slots.status.isSome = true →
          q.link.reports = s.link.reports ∧ q.link.held = held (now n) ∧ q.link.waiting = s.link.waiting)
       ∧ (s.sendingKind ≠ some .status → 0 < s.queuedOf .status →
          q.link.held = s.link.held ∧ q.link.waiting = s.link.waiting
          ∧ q.link.reports = s.link.reports.map fun r => if r.kind = some .status then now n else r)
       ∧ (s.sendingKind = some .status →
          q.link.reports = s.link.reports ∧ q.link.held = s.link.held
          ∧ q.link.waiting = { s.link.waiting with
              status := some (now (if s.link.waiting.status.isSome then n else n + 1)) }))

/-- The taken-record count and CREDIT (R179, R187): each record taken counts one, and the thirty-second is an occurrence
of one half of credit with the count back at 0. An occurrence of a coalesced kind, shown for CREDIT, is appended when none
is queued, held or being sent and a place is free; held when none is free; added in place when one is queued; kept
pending behind one being transmitted. An ATTENTION is made or refreshed in the same way, and its contents are those of
R188: the trays' states, each bin's state, stacked count and reserved count, the purge bin's, the reported waiting reason,
cadence lost and power warn. -/
def Obligations.CreditFollowsTheTakenCount : Prop :=
  (∀ (p : Part) (n : Nat),
      (p.sendingKind ≠ some .credit → p.queuedOf .credit = 0 → p.link.held.slots.credit = none →
        (p.link.reports.length < 64 → (p.credit n).link.reports = p.link.reports ++ [.credit n])
        ∧ (64 ≤ p.link.reports.length →
            (p.credit n).link.reports = p.link.reports ∧ (p.credit n).link.held.slots.credit = some (.credit n)))
      ∧ (∀ pre post m, p.link.reports = pre ++ .credit m :: post → p.sendingKind ≠ some .credit →
          (∀ r ∈ pre ++ post, r.kind ≠ some .credit) →
          (p.credit n).link.reports = pre ++ .credit (min 65535 (m + n)) :: post)
      ∧ (p.sendingKind = some .credit →
          (p.credit n).link.reports = p.link.reports
          ∧ (p.link.waiting.credit = none → (p.credit n).link.waiting.credit = some (.credit n))))
  ∧ (∀ p : Part, p.link.taken < 32 →
      (p.link.taken < 31 → p.takeHead.link.taken = p.link.taken + 1 ∧ p.takeHead.link.reports = p.link.reports)
      ∧ (p.link.taken = 31 → p.takeHead.link.taken = 0 ∧ p.takeHead = (p.dropHead.setTaken 0).credit 1)
      ∧ p.takeHead.link.orders = p.link.orders.tail)
  ∧ ∀ p : Part, ∃ a : Attention,
      (∀ t, a.trays.get t = (p.feeders.get t).state)
      ∧ (∀ b, a.bins.get b =
          { state := (p.stacker.bins.get b).state, stacked := (p.stacker.bins.get b).stacked
            reserved := ((p.stacker.allowances.filter fun x => x.bin = b).map Allowance.count).sum })
      ∧ a.purgeOffline = p.stacker.purgeDoorOpen ∧ a.purgeStacked = p.stacker.purgeStacked
      ∧ a.waiting = p.planner.reported ∧ a.cadenceLost = p.clock.cadenceLost ∧ a.powerWarn = p.ctl.powerWarn
      ∧ (p.queuedOf .attention = 0 → p.link.held.slots.attention = none →
          (p.link.reports.length < 64 → p.attention.link.reports = p.link.reports ++ [.attention a])
          ∧ (64 ≤ p.link.reports.length → p.attention.link.reports = p.link.reports
              ∧ p.attention.link.held.slots.attention = some (.attention a)))
      ∧ (p.queuedOf .attention = 0 → p.link.held.slots.attention.isSome = true →
          p.attention.link.reports = p.link.reports ∧ p.attention.link.held.slots.attention = some (.attention a))
      ∧ (p.sendingKind ≠ some .attention → 0 < p.queuedOf .attention →
          p.attention.link.reports = p.link.reports.map fun r => if r.kind = some .attention then .attention a else r)
      ∧ (p.sendingKind = some .attention →
          p.attention.link.reports = p.link.reports ∧ p.attention.link.waiting.attention = some (.attention a))

/-- RETURN_READY_ASSERTED and RETURN_READY_CLEARED (R191): the line's level, and nothing else before a transmission may
begin. A transmission begins when the line is asserted, a record is queued and none is in progress, and the head record
goes out in its frame. That it begins last in its event, with the head record as the event leaves it and the frame the
last message sent, is the model's (DESIGN CHOICE, notes/assumptions/34.md), as is the frame as one message (log 26). -/
def Obligations.TransmissionsFollowTheLine : Prop :=
  (∀ s : State,
      exec .returnReadyAsserted s
        = .next (s.after { s.toPart.start with link := { s.link with returnReady := true } })
      ∧ exec .returnReadyCleared s
        = .next (s.after { s.toPart.start with link := { s.link with returnReady := false } })
      ∧ ∃ t, exec .returnReadyCleared s = .next t ∧ t.link.returnReady = false
          ∧ (s.link.transmitting = false → t.link.transmitting = false))
  ∧ ∀ (c : Instr) (s t : State), exec c s = .next t →
      (t.link.returnReady = true → t.link.reports ≠ [] → t.link.transmitting = true)
      ∧ (s.link.transmitting = false → t.link.transmitting = true →
          ∃ r rest, t.link.reports = r :: rest ∧ t.sent.getLast? = some (.frame r.frame))

/-- TRANSMISSION_COMPLETE (R186 to R188, R190, R191): the record sent leaves the queue, and the freed place goes to the
held report first in the order FAULT, CREDIT, STREAM FAULT, ATTENTION, STATUS, GROUP RESULT, a pending record of R187
counting as the held one of its kind; a held ATTENTION or STATUS is built as it is appended. What is not handed out stays
held. With no report held or pending the queue is only shorter by one. -/
def Obligations.FreedPlaceGoesToTheFirstHeld : Prop :=
  ∀ (s : State) (sent : Report) (rest : List Report), s.link.transmitting = true → s.link.reports = sent :: rest →
    ∃ q, exec .transmissionComplete s = .next (s.after q) ∧ q.link.transmitting = false
      ∧ q.link.waiting = Slots.none
      ∧ (let first (k : CoalescedKind) : Option Report :=
           if (s.link.waiting.get k).isSome then s.link.waiting.get k else s.link.held.slots.get k
         let goes (k : CoalescedKind) (r : Report) : Prop :=
           q.link.reports = rest ++ [r] ∧ q.link.held.fault = none ∧ q.link.held.results = s.link.held.results
           ∧ q.groups = s.groups ∧ ∀ j, q.link.held.slots.get j = if j = k then none else first j
         (∀ r, s.link.held.fault = some r →
            q.link.reports = rest ++ [.fault r] ∧ q.link.held.fault = none ∧ q.groups = s.groups
            ∧ q.link.held.results = s.link.held.results ∧ ∀ j, q.link.held.slots.get j = first j)
         ∧ (s.link.held.fault = none →
            (∀ r, first .credit = some r → goes .credit r)
            ∧ (∀ r, first .credit = none → first .streamFault = some r → goes .streamFault r)
            ∧ (first .credit = none → first .streamFault = none → (first .attention).isSome = true →
                goes .attention (.attention s.attentionNow))
            ∧ (first .credit = none → first .streamFault = none → first .attention = none →
                (first .status).isSome = true → goes .status (.status (s.statusNow (rest.length + 1))))
            ∧ ((∀ k, first k = none) →
                (s.link.held.results = [] → q.link.reports = rest ∧ q.groups = s.groups)
                ∧ ∀ k ks g, s.link.held.results = k :: ks → s.group? k = some g →
                    q.link.reports = rest ++ [.groupResult g.result] ∧ q.link.held.results = ks
                    ∧ ∀ x ∈ q.groups.entries, x.key ≠ k)))

/-! ### Resets and Transport Control -/

/-- POWER_ON_RESET and CONTROLLER_RESET (R6, R8, R26, R59, R76, R105, R139, R145, R149, R150, R174): both leave the
part fresh with the levels of its lines (R1, R9, R12, R14, R42, R77, R107, R118, R142, R175, R179, R185, R191). A power-on
reset starts the tick count at 0 at the factory divider with no table loaded; a controller reset keeps the tick, the
divider, the tables, and the bins' counts, marks and jog positions. Three points are the model's: that the fields of a
Routing Table entry that is not valid are 0 (DESIGN CHOICE, notes/assumptions/31.md), that a pitch expiry not yet taken is
dropped (DEDUCED, notes/assumptions/24.md; the flag `expiryDue` is log 8), and the place of the first transmission in the
event (DESIGN CHOICE, notes/assumptions/34.md). -/
def Obligations.ResetsLeaveTheirValues : Prop :=
  ∀ (l : Lines) (s : State),
    (∃ t, exec (.powerOnReset l) s = .next t ∧ t.pending = s.pending ∧ t.FreshFrom l
      ∧ t.clock.tick = 0 ∧ t.clock.spdInt = 2000 ∧ t.clock.spdFrac = 0 ∧ t.clock.fraction = 0
      ∧ t.tables =
          { geometry := none, parameters := none, media := none,
            routing := List.replicate 32 { valid := false, value := 0, mask := 0, bin := 0, jog := 0 }, binMap := none }
      ∧ t.stacker.purgeStacked = 0
      ∧ ∀ b, t.stacker.bins.get b =
          { stacked := 0, doorOpen := (l.bins.get b).doorOpen, full := (l.bins.get b).full, hold := false,
            remembered := false, jog := .left, state := if (l.bins.get b).doorOpen then .offline else .full })
    ∧ ∃ t, exec (.controllerReset l) s = .next t ∧ t.pending = s.pending ∧ t.FreshFrom l
      ∧ t.clock.tick = s.clock.tick ∧ t.clock.period = s.clock.period ∧ t.clock.spdInt = s.clock.spdInt
      ∧ t.clock.spdFrac = s.clock.spdFrac ∧ t.clock.fraction = s.clock.fraction ∧ t.tables = s.tables
      ∧ t.stacker.purgeStacked = s.stacker.purgeStacked
      ∧ ∀ b, ∃ x, x = { s.stacker.bins.get b with doorOpen := (l.bins.get b).doorOpen, full := (l.bins.get b).full }
          ∧ t.stacker.bins.get b = { x with state := x.formed (s.capacity b) }

/-- The capture of a fault (R162 to R165): unlocked, the first-fault record is filled, Fault Capture locks, a FAULT is
appended or held, the transport is JAMMED or HALTED by the fault's class, a motor stop is sent, pick deadlines are
dropped with their requests outstanding and the watch is disarmed. Locked, only the further-fault count rises. -/
def Obligations.FaultsAreCaptured : Prop :=
  ∀ (p : Part) (k : FaultKind) (station : Option Station) (tag group : Option Half),
    (p.ctl.locked = false →
      (p.raise k station tag group).ctl = p.ctl.stoppedBy (p.faultOf k station tag group)
      ∧ (p.link.reports.length < 64 →
          (p.raise k station tag group).link.reports = p.link.reports ++ [.fault (p.faultOf k station tag group)])
      ∧ (64 ≤ p.link.reports.length →
          (p.raise k station tag group).link.held.fault = some (p.faultOf k station tag group))
      ∧ (p.raise k station tag group).sent = p.sent ++ [.motorStop]
      ∧ (∀ t, (p.raise k station tag group).feeders.get t = { p.feeders.get t with deadline := none })
      ∧ (p.raise k station tag group).clock = { p.clock with watchArmed := false }
      ∧ (∀ s ∈ (p.raise k station tag group).track.sheets, s.isSampling = false))
    ∧ (p.ctl.locked = true →
      p.raise k station tag group = { p with ctl := { p.ctl with further := min 255 (p.ctl.further + 1) } })

/-- START (R152, R156, R161, R55): in STANDBY with the four tables loaded, the cover closed and power warn clear the
transport is WARMUP, with a motor start at the divider in force, a warm-up end WARMUP ticks on and new pick deadlines;
with the purge door open PURGE_OPEN is raised in the same event. In WARMUP and RUNNING it has no effect. -/
def Obligations.StartEntersWarmup : Prop :=
  ∀ s : State,
    (s.ctl.state = .standby → s.tables.geometry.isSome = true → s.tables.parameters.isSome = true →
      s.tables.media.isSome = true → s.tables.binMap.isSome = true → s.ctl.coverOpen = false →
      s.ctl.powerWarn = false →
      let q : Part :=
        { s.toPart.start with
          ctl := { s.ctl with state := .warmup, warmupEnd := some (s.clock.tick + BitVec.ofNat 32 s.params.warmup) }
          feeders := s.feeders.map fun f =>
            if f.request then { f with deadline := some (s.clock.tick + BitVec.ofNat 32 s.params.pickLimit) } else f
          link := { s.link with framer := .hunt }
          sent := [.motorStart s.clock.spdInt s.clock.spdFrac] }
      (s.stacker.purgeDoorOpen = false → exec .start s = .next (s.after q) ∧ (s.after q).ctl = q.ctl)
      ∧ (s.stacker.purgeDoorOpen = true → exec .start s = .next (s.after (q.raise .purgeOpen none none none))))
    ∧ (s.ctl.state = .warmup ∨ s.ctl.state = .running →
      exec .start s = .next (s.after { s.toPart.start with link := { s.link with framer := .hunt } }))

/-- HALT (R153, R165, R180): in the six states that allow it the transport is HALTED with OPERATOR_HALT as the first
fault, no station, tag or group, and no sheet is removed, launched or moved; in HALTED, JAMMED and SAFE it is refused,
and then only counted. -/
def Obligations.HaltStopsTheTransport : Prop :=
  ∀ s : State,
    (s.ctl.locked = false → s.ctl.state ≠ .halted → s.ctl.state ≠ .jammed → s.ctl.state ≠ .safe →
      ∃ t, exec .halt s = .next t ∧ t.ctl = s.ctl.stoppedBy (s.toPart.faultOf .operatorHalt none none none)
        ∧ s.track.sheets.map Sheet.steady <+: t.track.sheets.map Sheet.steady
        ∧ t.loop = s.loop ∧ t.acc.sheets = s.acc.sheets ∧ t.gates = s.gates ∧ t.cue = s.cue
        ∧ t.arbiter.slotIndex = s.arbiter.slotIndex ∧ t.arbiter.pendingSecond = s.arbiter.pendingSecond)
    ∧ (s.ctl.state = .halted ∨ s.ctl.state = .jammed ∨ s.ctl.state = .safe →
      ∃ q, exec .halt s = .next (s.after q) ∧ s.toPart.RefusedAs q .halt)

/-- CLEAR_FAULT accepted (R154, R166 to R169): the class of the first fault becomes the sweep class and Fault Capture is
empty and unlocked; every record is removed and counted, the gates stand at EXIT and PURGE, a STACKER sweep removes the
set, and every unbroken group with a sheet or set removed, or open, breaks with JAM. With no path sensor covered and the
purge door closed the transport stays in RECOVERY with a run end; a covered path sensor is RESIDUE, an open purge door
PURGE_OPEN, and when both are found the second counts as a further fault. With each record go its loop entry, its
outstanding cues, its place in the gates' lists, a gauge conversion of it, its part of the pending-second-pass count and
its staging position, a request for it being abandoned (R56, R97, R104). The motors start, the gates are commanded, and an
ACTIVE eject gets a new deadline (R137). Two points are the model's: with a Parameter Set pending, the run end, the eject
deadline and the motor start are those of the set in force before the sweep (DEDUCED, notes/assumptions/33.md), and the
occupants of records that left before the sweep stay in the gates' lists (DEDUCED, notes/assumptions/15.md). -/
def Obligations.ClearFaultSweepsThePath : Prop :=
  ∀ s : State, s.ctl.state.stopped = true → s.ctl.coverOpen = false → s.tables.geometry.isSome = true →
    s.tables.parameters.isSome = true → s.GroupsAgree → s.BillsAccounted →
    ∃ q, exec .clearFault s = .next (s.after q)
      ∧ q.track.sheets = [] ∧ q.gates = { gd := .exit, gx := .purge, gdOccupants := q.gates.gdOccupants,
                                          gxOccupants := q.gates.gxOccupants }
      ∧ (let entered : Control :=
          { s.ctl with
            state := .recovery
            sweepClass := s.ctl.firstFault.map fun r => r.kind.faultClass
            firstFault := none, locked := false, further := 0
            runEnd := some (s.clock.tick + BitVec.ofNat 32 s.params.clearRun), runEndReached := false }
         let record (k : FaultKind) (station : Option Station) : FaultRecord :=
          { kind := k, station := station, tag := none, group := none, tick := s.clock.tick, state := .recovery,
            occupancy := 0 }
         let entry : List Message := [.motorStart s.clock.spdInt s.clock.spdFrac]
           ++ (if s.gates.gd = .exit then [] else [.gateGd .exit])
           ++ (if s.gates.gx = .purge then [] else [.gateGx .purge])
         (s.firstCovered = none → s.stacker.purgeDoorOpen = false → q.ctl = entered ∧ q.sent = entry)
         ∧ (s.firstCovered = none → s.stacker.purgeDoorOpen = true →
            q.ctl = entered.stoppedBy (record .purgeOpen none) ∧ q.sent = entry ++ [.motorStop])
         ∧ ∀ x, s.firstCovered = some x → q.sent = entry ++ [.motorStop] ∧
            q.ctl = { entered.stoppedBy (record .residue (some (.path x))) with
              further := if s.stacker.purgeDoorOpen then 1 else 0 })
      ∧ (let swept (n : Half) : Bool := s.track.sheets.any fun x => x.seq = n
         q.loop = s.loop.filter (fun e => !swept e.seq)
         ∧ q.cue = { s.cue with outstanding := s.cue.outstanding.filter fun c => !swept c.seq }
         ∧ q.gates.gdOccupants = s.gates.gdOccupants.filter (fun o => !swept o.seq)
         ∧ q.gates.gxOccupants = s.gates.gxOccupants.filter (fun o => !swept o.seq)
         ∧ q.track.gauge = s.track.gauge.filter (fun g => !swept g.1)
         ∧ q.arbiter.pendingSecond = s.arbiter.pendingSecond
             - (s.track.sheets.filter fun x => x.route = some .freshLoop).length
         ∧ ∀ t, (match (s.feeders.get t).holder with
             | some n => swept n
             | none => false) = true →
             q.feeders.get t = { s.feeders.get t with
               holder := none, request := false, deadline := none
               abandoned := (s.feeders.get t).abandoned || (s.feeders.get t).request })
      ∧ (let stackerClass : Prop := s.ctl.firstFault.map (fun r => r.kind.faultClass) = some FaultClass.stacker
         (stackerClass → q.acc = { setGroup := none, sheets := [], eject := none })
         ∧ (¬ stackerClass → q.acc = { s.acc with eject := s.acc.eject.map fun e =>
              if e.status = .active then { e with deadline := some (s.clock.tick + BitVec.ofNat 32 s.params.ejectLimit) }
              else e })
         ∧ ∀ g ∈ s.groups.entries, ∃ h ∈ q.groups.entries, h.key = g.key ∧ h.accepted = g.accepted
            ∧ h.inPath = 0
            ∧ (stackerClass → h.inSet = 0 ∧ h.removed = g.removed + g.inPath + g.inSet)
            ∧ (¬ stackerClass → h.inSet = g.inSet ∧ h.removed = g.removed + g.inPath)
            ∧ (g.state.broken = true → h.reason = g.reason)
            ∧ (g.state.broken = false →
                (g.inPath ≠ 0 ∨ (stackerClass ∧ g.inSet ≠ 0) ∨ s.planner.openGroup = some g.key →
                  h.state.broken = true ∧ h.reason = some .jam)
                ∧ (g.inPath = 0 → (¬ stackerClass ∨ g.inSet = 0) → s.planner.openGroup ≠ some g.key → h = g)))

/-- Refused controls (R148, R152, R154, R180, R193): a START, CLEAR_FAULT or BIN_EMPTIED that its rule turns away, one
with a bin number outside 1 to 6 among them, is counted with its kind, in a new STREAM FAULT record or in the one
there is, and has no other effect. -/
def Obligations.RefusedControlsOnlyCount : Prop :=
  ∀ s : State,
    ((s.ctl.state ≠ .standby ∧ s.ctl.state ≠ .warmup ∧ s.ctl.state ≠ .running)
        ∨ (s.ctl.state = .standby ∧ (s.tables.geometry = none ∨ s.tables.parameters = none ∨ s.tables.media = none
            ∨ s.tables.binMap = none ∨ s.ctl.coverOpen = true ∨ s.ctl.powerWarn = true)) →
      ∃ q, exec .start s = .next (s.after q) ∧ s.toPart.RefusedAs q .start)
    ∧ (s.ctl.state.stopped = false ∨ s.ctl.coverOpen = true ∨ s.tables.geometry = none ∨ s.tables.parameters = none →
      ∃ q, exec .clearFault s = .next (s.after q) ∧ s.toPart.RefusedAs q .clearFault)
    ∧ ∀ n : Byte, n = 0 ∨ 6 < n.toNat ∨ s.tables.binMap = none →
      ∃ q, exec (.binEmptied n) s = .next (s.after q) ∧ s.toPart.RefusedAs q .binEmptied

/-- The ends of the timed states: WARMUP_END makes the transport RUNNING with the watch armed when the boundary source
is the cadence line (R12, R156); RUN_END with the accumulator empty and no eject in flight ends the recovery in STANDBY
with a motor stop and cadence no longer lost, and with an eject in flight the transport waits in RECOVERY (R14, R170);
DRAIN_END goes to RUNNING after a drain for a load and to STANDBY after any other (R158); RUNOUT_END goes to SAFE while
power warn stands, and through it to STANDBY when the level has cleared (R173). -/
def Obligations.TimedStatesEnd : Prop :=
  ∀ s : State,
    (s.ctl.state = .warmup → s.toPart.reachedBy s.ctl.warmupEnd = true →
      ∃ q, exec .warmupEnd s = .next (s.after q) ∧ q.ctl.state = .running ∧ q.ctl.warmupEnd = none
        ∧ q.clock.watchArmed = (s.params.locked && !s.clock.cadenceLost) ∧ q.track = s.track ∧ q.feeders = s.feeders)
    ∧ (s.ctl.state = .recovery → s.toPart.reachedBy s.ctl.runEnd = true → s.acc.sheets = [] → s.acc.eject = none →
      ∃ q, exec .runEnd s = .next (s.after q) ∧ q.ctl.state = .standby ∧ q.ctl.runEnd = none ∧ q.ctl.sweepClass = none
        ∧ q.clock.cadenceLost = false ∧ q.sent = [.motorStop] ∧ (s.after q).ctl = q.ctl)
    ∧ (s.ctl.state = .recovery → s.toPart.reachedBy s.ctl.runEnd = true → s.acc.eject.isSome = true →
      ∃ q, exec .runEnd s = .next (s.after q) ∧ q.ctl = { s.ctl with runEndReached := true } ∧ q.gates = s.gates
        ∧ q.acc = s.acc ∧ q.sent = [])
    ∧ (s.ctl.state = .draining → s.toPart.pathEmpty = true →
      ∃ q, exec .drainEnd s = .next (s.after q) ∧ q.ctl.drainReason = none
        ∧ (s.ctl.drainReason = some .load → q.ctl.state = .running ∧ q.sent = [])
        ∧ (s.ctl.drainReason ≠ some .load →
            q.ctl.state = .standby ∧ q.clock.cadenceLost = false ∧ q.sent = [.motorStop] ∧ (s.after q).ctl = q.ctl))
    ∧ (s.ctl.state = .runout → s.toPart.pathEmpty = true →
      ∃ q, exec .runoutEnd s = .next (s.after q) ∧ (s.after q).ctl = q.ctl
        ∧ (s.ctl.powerWarn = true → q.ctl.state = .safe ∧ q.sent = [.motorStop])
        ∧ (s.ctl.powerWarn = false → q.ctl.state = .standby ∧ q.clock.cadenceLost = false))

/-- POWER_WARN_ASSERTED and POWER_WARN_CLEARED (R56, R104, R171, R172): the level follows the line in every state.
Asserted in WARMUP, RUNNING or DRAINING it starts a runout, which removes every sheet not yet launched, counts it,
releases its staging position with a request for it abandoned, and breaks their groups and the open group with POWER.
Cleared in SAFE it leads to STANDBY. -/
def Obligations.PowerWarnRunsThePathOut : Prop :=
  ∀ s : State,
    (∃ q, exec .powerWarnAsserted s = .next (s.after q) ∧ q.ctl.powerWarn = true
      ∧ (s.ctl.state = .warmup ∨ s.ctl.state = .running ∨ s.ctl.state = .draining →
          q.ctl.state = .runout ∧ q.ctl.warmupEnd = none ∧ q.ctl.drainReason = none ∧ q.clock.watchArmed = false
          ∧ ((s.track.sheets.map Sheet.seq).Nodup →
              q.track.sheets.map Sheet.steady
                = (s.track.sheets.filter fun x => x.state ≠ .picking && x.state ≠ .staged).map Sheet.steady)
          ∧ (∀ k, s.planner.openGroup = some k → s.toPart.BrokenBy q k .power)
          ∧ (let gone (x : Sheet) : Bool := x.state = .picking || x.state = .staged
             (∀ x ∈ s.track.sheets, gone x = true → s.toPart.BrokenBy q x.group .power)
             ∧ (∀ k g, s.group? k = some g → ∃ h, q.group? k = some h
                 ∧ h.inPath = g.inPath - (s.track.sheets.filter fun x => gone x && x.group = k).length
                 ∧ h.removed = g.removed + (s.track.sheets.filter fun x => gone x && x.group = k).length
                 ∧ h.accepted = g.accepted ∧ h.inSet = g.inSet)
             ∧ ∀ t, let f := s.feeders.get t
                 let freed : Bool := match f.holder with
                   | some n => s.track.sheets.any fun x => gone x && x.seq = n
                   | none => false
                 (freed = true → q.feeders.get t = { f with
                    holder := none, request := false, deadline := none, abandoned := f.abandoned || f.request })
                 ∧ (freed = false → q.feeders.get t = { f with deadline := none })))
      ∧ (s.ctl.state ≠ .warmup → s.ctl.state ≠ .running → s.ctl.state ≠ .draining →
          q = { s.toPart.start with ctl := { s.ctl with powerWarn := true }, attentionDue := true }))
    ∧ ∃ q, exec .powerWarnCleared s = .next (s.after q) ∧ q.ctl.powerWarn = false ∧ q.track.sheets.length = s.track.sheets.length
      ∧ (s.ctl.state = .safe → q.ctl.state = .standby ∧ q.clock.cadenceLost = false ∧ (s.after q).ctl = q.ctl)
      ∧ (s.ctl.state ≠ .safe →
          q = { s.toPart.start with ctl := { s.ctl with powerWarn := false }, attentionDue := true })

/-- COVER_OPENING, COVER_CLOSING, PURGE_DOOR_OPENING and PURGE_DOOR_CLOSING (R149, R160, R161): each edge sets its level;
an opening in WARMUP or a moving state is COVER_OPEN or PURGE_OPEN, with no station, tag or group; a purge door closing
sets the purge stacked count to 0. -/
def Obligations.InterlocksStopTheTransport : Prop :=
  ∀ s : State,
    (∃ t, exec .coverClosing s = .next t ∧ t.ctl.coverOpen = false)
    ∧ exec .coverClosing s = .next (s.after { s.toPart.start with ctl := { s.ctl with coverOpen := false } })
    ∧ (∃ q, exec .purgeDoorClosing s = .next (s.after q)
        ∧ q.stacker = { s.stacker with purgeDoorOpen := false, purgeStacked := 0 } ∧ q.ctl = s.ctl
        ∧ q.attentionDue = (s.attentionDue || s.stacker.purgeDoorOpen || decide (s.stacker.purgeStacked ≠ 0))
        ∧ (s.after q).stacker.purgeStacked = 0)
    ∧ (s.ctl.state.moving = true ∨ s.ctl.state = .warmup → s.ctl.locked = false →
      (∃ t, exec .coverOpening s = .next t
        ∧ t.ctl = { s.ctl with coverOpen := true }.stoppedBy (s.toPart.faultOf .coverOpen none none none))
      ∧ ∃ t, exec .purgeDoorOpening s = .next t ∧ t.stacker.purgeDoorOpen = true
        ∧ t.ctl = s.ctl.stoppedBy (s.toPart.faultOf .purgeOpen none none none))
    ∧ (s.ctl.state.moving = false → s.ctl.state ≠ .warmup →
      exec .coverOpening s = .next (s.after { s.toPart.start with ctl := { s.ctl with coverOpen := true } })
      ∧ exec .purgeDoorOpening s = .next (s.after
          { s.toPart.start with
            stacker := { s.stacker with purgeDoorOpen := true }
            attentionDue := s.attentionDue || !s.stacker.purgeDoorOpen }))

/-! ### Bill groups, orders and loads -/

/-- A break request (R34, R35, R71): an unbroken group is BROKEN with the reason, every sheet of it in the track is
bound for purge with its first spoil reason kept, its reservation is released and it ceases to be the cadence group. A
broken group, or no group, is left as it was. -/
def Obligations.BreaksSpoilAndRelease : Prop :=
  ∀ (p : Part) (k : GroupKey) (r : BreakReason),
    (p.group? k = none → p.breakGroup k r = p)
    ∧ (∀ g, p.group? k = some g → g.state.broken = true → p.breakGroup k r = p)
    ∧ ∀ g, p.group? k = some g → g.state.broken = false →
      (g.accepted < 64 ∨ g.state = .closed →
        (p.breakGroup k r).group? k = some { g with
          state := if g.state = .closed then .brokenClosed else .brokenOpen, reason := some r }
        ∧ (p.breakGroup k r).planner = p.planner)
      ∧ (64 ≤ g.accepted → g.state = .admitting →
        (p.breakGroup k r).group? k = some { g with state := .brokenClosed, reason := some r }
        ∧ (p.breakGroup k r).planner.openGroup = none)
      ∧ (p.breakGroup k r).track.sheets = p.track.sheets.map (fun s =>
          if s.group = k then { s with destination := .purge, spoil := some (s.spoil.getD .groupBroken) } else s)
      ∧ (p.breakGroup k r).stacker.allowances = p.stacker.allowances.filter (fun a => a.group ≠ k)
      ∧ ((p.breakGroup k r).arbiter.cadenceGroup = if p.arbiter.cadenceGroup = some k then none
          else p.arbiter.cadenceGroup)
      ∧ (p.breakGroup k r).link = p.link ∧ (p.breakGroup k r).ctl = p.ctl ∧ (p.breakGroup k r).acc = p.acc

/-- The conditions of admission (R22, R23, R48, R49, R143): a FIRST order with a known media code passes exactly when
every one of them holds, and the grant is the bin, alternate, policy and tray that the tables then give. The account class
takes the first Routing Table entry that is valid and that it matches under the entry's mask, or else DEFAULT_LBIN with
FIXED; the pick tray is the media's primary tray when that is usable, else its alternate when usable, else the primary.
The Planner's waiting reason is the first condition that fails (R25, R181); TRAY is reported for a stall, or for a pick
left open in DRAINING, when the Planner has none (R58). -/
def Obligations.AdmissionNeedsItsConditions : Prop :=
  (∀ (p : Part) (o : SheetOrder) (f : FirstFields) (g : Grant),
    p.admissionCheck o f = .ok g ↔
      (p.ctl.state = .warmup ∨ p.ctl.state = .running) ∧ p.groups.entries.length < 16
      ∧ p.link.reports.length + (p.groups.entries.length + 1) + 6 ≤ 64
      ∧ p.media? o.media.toNat = some g.media ∧ g.policy = (p.route f.account).2
      ∧ g.alternate = (p.logicalBin (p.route f.account).1).2
      ∧ (let can (b : BinId) : Prop := f.declared.toNat ≤ p.freeRoom b ∧ (p.stacker.bins.get b).full = false
         let primary := (p.logicalBin (p.route f.account).1).1
         can g.bin ∧ (primary = some g.bin ∨ ((∀ b, primary = some b → ¬ can b) ∧ g.alternate = some g.bin)))
      ∧ p.track.sheets.length < 16 ∧ g.tray = p.pickTray g.media
      ∧ (p.feeders.get g.tray).holder = none ∧ p.sensors.staging.get g.tray = false
      ∧ (p.feeders.get g.tray).abandoned = false
      ∧ p.track.sheets.length + p.acc.sheets.length + 1 ≤ p.purgeCapacity - p.stacker.purgeStacked)
  ∧ (∀ (p : Part) (a : Half),
      let hit (e : RoutingEntry) : Prop := e.valid = true ∧ a &&& e.mask = e.value &&& e.mask
      (∀ before e after, p.tables.routing = before ++ e :: after → (∀ x ∈ before, ¬ hit x) → hit e →
        p.route a = (e.bin, if e.jog = 1 then .alternate else .fixed))
      ∧ ((∀ e ∈ p.tables.routing, ¬ hit e) → p.route a = (p.params.defaultLbin, .fixed)))
  ∧ (∀ (p : Part) (m : MediaEntry) (t : TrayId), trayOf? m.primary = some t →
      let usable (u : TrayId) : Prop := (p.feeders.get u).state = .ready ∨ (p.feeders.get u).state = .low
      (usable t → p.pickTray m = t)
      ∧ (¬ usable t → ∀ u, trayOf? m.alternate = some u → usable u → p.pickTray m = u)
      ∧ (¬ usable t → (∀ u, trayOf? m.alternate = some u → ¬ usable u) → p.pickTray m = t))
  ∧ ∀ p : Part,
    let examines : Bool := decide (p.ctl.state = .warmup ∨ p.ctl.state = .running)
    let picks (m : MediaEntry) : WaitReason :=
      if 16 ≤ p.track.sheets.length then .track
      else if (p.feeders.get (p.pickTray m)).holder.isSome || p.sensors.staging.get (p.pickTray m)
          || (p.feeders.get (p.pickTray m)).abandoned then .tray
      else if p.purgeCapacity - p.stacker.purgeStacked < p.track.sheets.length + p.acc.sheets.length + 1 then .purgeRoom
      else .none
    let tables : Bool := decide (p.groups.entries.length < 16
      ∧ p.link.reports.length + (p.groups.entries.length + 1) + 6 ≤ 64)
    (∀ o f rest, p.link.orders = .order o :: rest → o.first = some f →
      (examines = false → p.plannerWait = .none)
      ∧ (examines = true → tables = false → p.plannerWait = .report)
      ∧ (examines = true → tables = true →
          (f.declared.toNat < 1 ∨ 64 < f.declared.toNat ∨ p.media? o.media.toNat = none → p.plannerWait = .none)
          ∧ ∀ m, 1 ≤ f.declared.toNat → f.declared.toNat ≤ 64 → p.media? o.media.toNat = some m →
              let l := p.logicalBin (p.route f.account).1
              let can (b : BinId) : Prop := f.declared.toNat ≤ p.freeRoom b ∧ (p.stacker.bins.get b).full = false
              ((∀ b, l.1 = some b ∨ l.2 = some b → ¬ can b) → p.plannerWait = .bin)
              ∧ ∀ b, (l.1 = some b ∨ l.2 = some b) → can b → p.plannerWait = picks m))
    ∧ (∀ o rest, p.link.orders = .order o :: rest → o.first = none →
      (∀ g m, examines = true → p.openGroup? = some g → g.state = .admitting → g.id = o.group →
        p.media? o.media.toNat = some m → p.plannerWait = picks m)
      ∧ (examines = false ∨ (∀ g, p.openGroup? = some g → g.state ≠ .admitting ∨ g.id ≠ o.group) →
          p.plannerWait = .none))
    ∧ (∀ t i b rest, p.link.orders = .load t i b :: rest →
        p.plannerWait = if p.link.reports.length < 64 ∧ p.anyHeld = false then .none else .report)
    ∧ (p.link.orders = [] ∨ p.link.orders.head? = some .stop ∨ p.link.orders.head? = some .purge →
        p.plannerWait = .none)
    ∧ ∀ w, p.reportedWait w = if w ≠ .none then w
        else if p.track.sheets.any fun x =>
            decide (x.state = .picking ∧ ((p.feeders.get x.tray).request = false ∨ p.ctl.state = .draining)) then .tray
        else .none

/-- GROUP_ADMISSION (R24, R31, R50, R143): the FIRST order leaves the queue, its group is the last entry and the open
group, room for the declared count is held in the granting bin, and the sheet is picked. Marked LAST, it closes the
group in the same event with the room cut to one sheet. -/
def Obligations.AdmissionOpensTheGroup : Prop :=
  ∀ (s : State) (o : SheetOrder) (f : FirstFields) (g : Grant) (rest : List Queued),
    s.link.orders = .order o :: rest → o.first = some f → s.planner.openGroup = none →
    1 ≤ f.declared.toNat → f.declared.toNat ≤ 64 → s.admissionCheck o f = .ok g →
    s.GroupsAgree → (∀ a ∈ s.stacker.allowances, a.group ≠ s.groups.nextKey) →
    ∃ q, exec .groupAdmission s = .next (s.after q) ∧ q.link.orders = rest ∧ q.ctl = s.ctl
      ∧ s.toPart.start.PickedAs q (s.freshSheet o g.media s.groups.nextKey g.tray) g.tray
      ∧ (let entry : Group :=
          { key := s.groups.nextKey, id := o.group, firstTag := o.tag, lastTag := none, declared := f.declared.toNat
            bin := some g.bin, policy := g.policy, state := .admitting, reason := none, accepted := 1, inPath := 1
            inSet := 0, delivered := 0, purged := 0, removed := 0, unfed := 0, jog := none }
         let room (n : Nat) : Allowance := { group := s.groups.nextKey, bin := g.bin, count := n, alternate := g.alternate }
         (o.last = false → q.groups.entries = s.groups.entries ++ [entry]
            ∧ q.planner.openGroup = some s.groups.nextKey
            ∧ q.stacker.allowances = s.stacker.allowances ++ [room f.declared.toNat])
         ∧ (o.last = true →
            q.groups.entries = s.groups.entries ++ [{ entry with state := .closed, lastTag := some o.tag }]
            ∧ q.planner.openGroup = none ∧ q.stacker.allowances = s.stacker.allowances ++ [room 1]))

/-- BROKEN_FROM_START (R21): a FIRST order with a declared count outside 1 to 64, or an unknown media code, opens a group
that is broken from the start with that one order unfed; no sheet is made, nothing is reserved. -/
def Obligations.BrokenFromTheStart : Prop :=
  ∀ (s : State) (o : SheetOrder) (f : FirstFields) (r : BreakReason) (rest : List Queued),
    s.link.orders = .order o :: rest → o.first = some f → s.planner.openGroup = none →
    (s.ctl.state = .warmup ∨ s.ctl.state = .running) → s.groups.entries.length < 16 →
    s.link.reports.length + (s.groups.entries.length + 1) + 6 ≤ 64 →
    ((f.declared.toNat < 1 ∨ 64 < f.declared.toNat) ∧ r = .count
      ∨ (1 ≤ f.declared.toNat ∧ f.declared.toNat ≤ 64 ∧ s.media? o.media.toNat = none) ∧ r = .media) →
    ∃ q, exec .brokenFromStart s = .next (s.after q) ∧ q.link.orders = rest
      ∧ q.groups.entries = s.groups.entries ++
          [{ key := s.groups.nextKey, id := o.group, firstTag := o.tag
             lastTag := if o.last then some o.tag else none, declared := f.declared.toNat, bin := none
             policy := .fixed, state := if o.last then .brokenClosed else .brokenOpen, reason := some r, accepted := 1
             inPath := 0, inSet := 0, delivered := 0, purged := 0, removed := 0, unfed := 1, jog := none }]
      ∧ q.planner.openGroup = (if o.last then none else some s.groups.nextKey)
      ∧ q.track = s.track ∧ q.stacker = s.stacker ∧ q.feeders = s.feeders ∧ q.sent = [] ∧ q.ctl = s.ctl

/-- FURTHER_ORDER_PICK (R30 to R32, R50): an order of the ADMITTING open group within its declared count is picked for
it, and closes it intact when marked LAST; one beyond the declared count, or of unknown media, breaks the group and is
its first unfed order; a 65th order finds no open group left and is an orphan, counted in STREAM FAULT (R32, R33,
R189). Where its taking is the thirty-second (R179), that the CREDIT goes before the STREAM FAULT is the model's
(DESIGN CHOICE, notes/assumptions/18.md). -/
def Obligations.FurtherOrdersArePicked : Prop :=
  ∀ (s : State) (o : SheetOrder) (g : Group) (rest : List Queued),
    s.link.orders = .order o :: rest → o.first = none → s.openGroup? = some g → g.id = o.group →
    g.state = .admitting →
    (∀ m t, g.accepted ≠ g.declared → s.media? o.media.toNat = some m →
      (s.ctl.state = .warmup ∨ s.ctl.state = .running) → s.pickCheck m = .ok t →
      ∃ q, exec .furtherOrderPick s = .next (s.after q) ∧ q.link.orders = rest
        ∧ s.toPart.start.PickedAs q (s.freshSheet o m g.key t) t
        ∧ (o.last = false →
            q.group? g.key = some { g with accepted := g.accepted + 1, inPath := g.inPath + 1 }
            ∧ q.planner = s.planner ∧ q.stacker = s.stacker)
        ∧ (o.last = true →
            q.group? g.key = some { g with
              accepted := g.accepted + 1, inPath := g.inPath + 1, state := .closed, lastTag := some o.tag }
            ∧ q.planner.openGroup = none
            ∧ q.stacker.allowances = s.stacker.allowances.map fun a =>
                if a.group = g.key then { a with count := g.accepted + 1 } else a))
    ∧ (∀ r, s.ctl.state.examines = true → g.accepted < 64 →
      (g.accepted = g.declared ∧ r = .overlength
        ∨ (g.accepted ≠ g.declared ∧ s.media? o.media.toNat = none) ∧ r = .media) →
      ∃ q, exec .furtherOrderPick s = .next (s.after q) ∧ q.link.orders = rest
        ∧ q.track.sheets.length = s.track.sheets.length
        ∧ (∀ x ∈ q.track.sheets, x.group = g.key → x.destination = .purge)
        ∧ q.group? g.key = some { g with
            accepted := g.accepted + 1, unfed := g.unfed + 1, reason := some r
            state := if o.last = true ∨ g.accepted = 63 then .brokenClosed else .brokenOpen
            lastTag := if o.last then some o.tag else g.lastTag })
    ∧ (s.ctl.state.examines = true → g.accepted = 64 → g.declared = 64 →
      ∃ q, exec .furtherOrderPick s = .next (s.after q) ∧ q.link.orders = rest ∧ q.planner.openGroup = none
        ∧ s.toPart.takeHead.Counted q { StreamFault.zero with orphan := 1 }
        ∧ q.track.sheets.length = s.track.sheets.length
        ∧ q.group? g.key = some { g with state := .brokenClosed, reason := some .overlength })

/-- DISCARDED_AS_UNFED and ORPHAN (R32, R33): an order of the BROKEN_OPEN open group is counted accepted and unfed,
and closes it when marked LAST or when it is the 64th; an order of no open group is counted as an orphan in no group,
and breaks an ADMITTING open group of another id with SEQUENCE. No sheet is made for either. Where the taking of an
orphan is the thirty-second (R179), that the CREDIT goes before the STREAM FAULT is the model's (DESIGN CHOICE,
notes/assumptions/18.md). -/
def Obligations.DiscardedOrders : Prop :=
  ∀ (s : State) (o : SheetOrder) (rest : List Queued),
    s.link.orders = .order o :: rest → o.first = none → s.ctl.state.examines = true →
    (∀ g, s.openGroup? = some g → g.id = o.group → g.state = .brokenOpen →
      ∃ q, exec .discardedAsUnfed s = .next (s.after q) ∧ q.link.orders = rest ∧ q.track = s.track
        ∧ q.feeders = s.feeders ∧ q.stacker = s.stacker
        ∧ q.group? g.key = some { g with
            accepted := g.accepted + 1, unfed := g.unfed + 1
            state := if o.last = true ∨ 63 ≤ g.accepted then .brokenClosed else .brokenOpen
            lastTag := if o.last then some o.tag else g.lastTag }
        ∧ q.planner.openGroup = (if o.last = true ∨ 63 ≤ g.accepted then none else s.planner.openGroup))
    ∧ ((∀ g, s.openGroup? = some g → g.id ≠ o.group) →
      ∃ q, exec .orphan s = .next (s.after q) ∧ q.link.orders = rest
        ∧ q.track.sheets.length = s.track.sheets.length ∧ q.feeders = s.feeders
        ∧ (s.link.taken < 31 → s.queuedOf .streamFault = 0 → s.link.held.slots.streamFault = none →
            s.link.reports.length < 64 →
            q.link.reports = s.link.reports ++ [.streamFault { StreamFault.zero with orphan := 1 }])
        ∧ s.toPart.takeHead.Counted q { StreamFault.zero with orphan := 1 }
        ∧ (∀ g, s.openGroup? = some g → g.state = .admitting → g.accepted < 64 →
            q.group? g.key = some { g with state := .brokenOpen, reason := some .sequence })
        ∧ ((∀ g, s.openGroup? = some g → g.state.broken = true) → q.groups = s.groups ∧ q.track = s.track))

/-- STOP_TAKEN and PURGE_TAKEN (R37, R38, R155, R157): a STOP closes the open group at once, an ADMITTING one with
TRUNCATED, starts a drain from RUNNING, turns the reason LOAD into STOP in DRAINING, and leaves the state alone in
STANDBY, RUNOUT and SAFE; a PURGE breaks an ADMITTING open group with PURGED and changes nothing of the transport. A
FIRST order truncates the open group in the event of its first examination (R20, R37): it is the open group no longer,
its entry, if it still stands, is BROKEN_CLOSED, with TRUNCATED if it was ADMITTING, its sheets are bound for purge
and its room is released. -/
def Obligations.StopAndPurgeAreTaken : Prop :=
  (∀ (s : State) (rest : List Queued),
    (s.link.orders = .stop :: rest →
      (s.ctl.state = .running ∨ s.ctl.state = .draining ∨ s.ctl.state = .standby ∨ s.ctl.state = .runout
        ∨ s.ctl.state = .safe) →
      ∃ q, exec .stopTaken s = .next (s.after q) ∧ q.link.orders = rest ∧ q.planner.openGroup = none
        ∧ (∀ g, s.openGroup? = some g → g.state = .admitting →
            q.group? g.key = some { g with state := .brokenClosed, reason := some .truncated })
        ∧ (∀ g, s.openGroup? = some g → g.state = .brokenOpen →
            q.group? g.key = some { g with state := .brokenClosed } ∧ q.track.sheets = s.track.sheets)
        ∧ (s.ctl.state = .running →
            q.ctl = { s.ctl with state := .draining, drainReason := some .stop }
            ∧ ∀ t, q.feeders.get t = { s.feeders.get t with deadline := none })
        ∧ (s.ctl.state = .draining →
            q.ctl = { s.ctl with
              drainReason := if s.ctl.drainReason = some .load then some .stop else s.ctl.drainReason })
        ∧ (s.ctl.state = .standby ∨ s.ctl.state = .runout ∨ s.ctl.state = .safe → q.ctl = s.ctl))
    ∧ (s.link.orders = .purge :: rest → s.ctl.state.examines = true →
      ∃ q, exec .purgeTaken s = .next (s.after q) ∧ q.link.orders = rest ∧ q.ctl = s.ctl
        ∧ (∀ g, s.openGroup? = some g → g.state = .admitting → g.accepted < 64 →
            q.group? g.key = some { g with state := .brokenOpen, reason := some .purged }
            ∧ q.planner = s.planner
            ∧ ∀ x ∈ q.track.sheets, x.group = g.key → x.destination = .purge)
        ∧ ((∀ g, s.openGroup? = some g → g.state.broken = true) → q.groups = s.groups ∧ q.track = s.track)))
  ∧ ∀ (s : State) (o : SheetOrder) (f : FirstFields) (k : GroupKey) (g : Group),
      s.link.orders = [] → o.first = some f → s.ctl.state.examines = true → s.planner.openGroup = some k →
      s.group? k = some g → s.GroupsAgree →
      ∃ t, exec (.sheetOrder o) s = .next t ∧ t.planner.openGroup ≠ some k
        ∧ (∀ h ∈ t.groups.entries, h.key = k → h.state = .brokenClosed ∧ h.accepted = g.accepted
            ∧ h.reason = if g.state = .admitting then some .truncated else g.reason)
        ∧ (g.state = .admitting → (∀ x ∈ t.track.sheets, x.group = k → x.destination = .purge)
            ∧ ∀ a ∈ t.stacker.allowances, a.group ≠ k)

/-- LIVE_LOAD_TAKEN (R26, R140, R141, R181, R184): with a report place free and none held, a LOAD of the Routing Table
or the Bin Map at the head is taken in every transport state. Passing, it is in force at once and leaves the other
tables as they were, and a Bin Map forms every bin's state again, ending a hold or a remembered notice where the mode
changes from ON_NOTICE to ON_DOOR; refused, it changes no table. Either way a LOAD RESULT says so. A Bin Map's candidate
is tested for its ranges, for a logical bin with one bin twice, and for room already promised. That a first Bin Map
changes no mode, and so ends no hold, is the model's (DEDUCED, notes/assumptions/20.md). -/
def Obligations.LiveLoadsTakeEffectAtOnce : Prop :=
  ∀ (s : State) (first : Nat) (body : List Byte) (rest : List Queued), s.link.reports.length < 64 → s.anyHeld = false →
    (s.link.orders = .load .routing first body :: rest →
      ∃ q, exec .liveLoadTaken s = .next (s.after q) ∧ q.link.orders = rest ∧ q.ctl = s.ctl ∧ q.stacker = s.stacker
        ∧ (let run := routingEntries body
           (run.length = 0 ∨ 32 < first + run.length → q.tables = s.tables
              ∧ (s.link.taken < 31 → q.link.reports = s.link.reports ++ [.loadResult .routing (some .extent)]))
           ∧ (0 < run.length → first + run.length ≤ 32 → (∃ e ∈ run, 7 < e.bin ∨ 1 < e.jog) → q.tables = s.tables
              ∧ (s.link.taken < 31 → q.link.reports = s.link.reports ++ [.loadResult .routing (some .range)]))
           ∧ (0 < run.length → first + run.length ≤ 32 → (∀ e ∈ run, e.bin ≤ 7 ∧ e.jog ≤ 1) →
              q.tables = { s.tables with
                routing := s.tables.routing.take first ++ run ++ s.tables.routing.drop (first + run.length) }
              ∧ (s.link.taken < 31 → q.link.reports = s.link.reports ++ [.loadResult .routing none]))))
    ∧ (s.link.orders = .load .binMap first body :: rest →
      ∃ q, exec .liveLoadTaken s = .next (s.after q) ∧ q.link.orders = rest ∧ q.ctl = s.ctl
        ∧ (∀ e, s.checkBinMap first (binMapEntries first body) = .error e → q.tables = s.tables ∧ q.stacker = s.stacker
            ∧ (s.link.taken < 31 → q.link.reports = s.link.reports ++ [.loadResult .binMap (some e)]))
        ∧ ∀ c, s.checkBinMap first (binMapEntries first body) = .ok c →
            q.tables = { s.tables with binMap := some ⟨c⟩ } ∧ q.stacker.allowances = s.stacker.allowances
            ∧ (∀ b, ∃ x : Bin,
                (let old := s.stacker.bins.get b
                 let ends : Prop := (∃ m, s.tables.binMap = some m ∧ m.mode b = .onNotice) ∧ BinMap.mode ⟨c⟩ b = .onDoor
                 (ends → old.doorOpen = true → x = { old with remembered := false })
                 ∧ (ends → old.doorOpen = false → old.hold = true → x = { old with hold := false, stacked := 0 })
                 ∧ (¬ ends ∨ (old.doorOpen = false ∧ old.hold = false) → x = old))
                ∧ q.stacker.bins.get b = { x with state := x.formed (q.capacity b) })
            ∧ (s.link.taken < 31 → q.link.reports = s.link.reports ++ [.loadResult .binMap none]))
    ∧ Judged 15 (s.tables.binMap.map BinMap.entries) first (binMapEntries first body)
        (fun c => ∀ e ∈ c, e.inRange = true)
        (fun c => ∀ e ∈ c, e.noConflict = true)
        (fun c =>
          (∀ b, (s.stacker.bins.get b).stacked + s.reservedIn b
            ≤ Part.capacity { s.toPart with tables := { s.tables with binMap := some ⟨c⟩ } } b)
          ∧ s.stacker.purgeStacked + s.track.sheets.length + s.acc.sheets.length
            ≤ Part.purgeCapacity { s.toPart with tables := { s.tables with binMap := some ⟨c⟩ } })
        (s.checkBinMap first (binMapEntries first body))
    ∧ (∀ a b, (BinMapEntry.inRange (.logical a b) = true ↔ 1 ≤ a ∧ a ≤ 6 ∧ b ≤ 6)
        ∧ (BinMapEntry.inRange (.physical a b) = true ↔ 1 ≤ a ∧ a ≤ 4000 ∧ b ≤ 1)
        ∧ (BinMapEntry.inRange (.purge a) = true ↔ 1 ≤ a ∧ a ≤ 1000)
        ∧ (BinMapEntry.noConflict (.logical a b) = true ↔ a ≠ b)
        ∧ BinMapEntry.noConflict (.physical a b) = true ∧ BinMapEntry.noConflict (.purge a) = true)

/-- LOCKED_LOAD_TAKEN and PENDING_LOAD_APPLIED (R17, R45, R182 to R184): a load that passes is applied at once on an empty
path; on a path not empty it becomes the pending load with the open group truncated (R37), and from RUNNING a drain with
the reason LOAD begins; the pending load is applied when the path is empty. A load that is refused changes no table, no
transport state and no group. Each table's candidate is judged as R4, R15, R16 and R44 give: the ranges of Tables 1-2, 1-6
and 3-1, GATE_CLEAR at most GAP_MIN, an alternate tray other than the primary, and the checks between the two tables. -/
def Obligations.LockedLoadsWaitForAnEmptyPath : Prop :=
  ∀ (s : State) (t : TableId) (first : Nat) (body : List Byte) (rest : List Queued),
    (s.link.orders = .load t first body :: rest → t ≠ .routing → t ≠ .binMap → s.link.reports.length < 64 →
      s.anyHeld = false → s.link.pendingLoad = none → s.link.taken < 31 →
      (∀ e, s.checkLocked t first body = .error e →
        (s.toPart.pathEmpty = true ∨ s.ctl.state = .running ∨ s.ctl.state = .draining) →
        exec .lockedLoadTaken s = .next (s.after { s.toPart.start with link := { s.link with
          orders := rest, taken := s.link.taken + 1, reports := s.link.reports ++ [.loadResult t (some e)] } }))
      ∧ (∀ c, s.checkLocked t first body = .ok c → s.toPart.pathEmpty = true →
        ∃ q, exec .lockedLoadTaken s = .next (s.after q) ∧ s.toPart.start.AppliedAs q c ∧ q.link.orders = rest
          ∧ q.link.reports = s.link.reports ++ [.loadResult t none] ∧ q.link.pendingLoad = none ∧ q.ctl = s.ctl)
      ∧ (∀ c, s.checkLocked t first body = .ok c → s.toPart.pathEmpty = false →
        (s.ctl.state = .running ∨ s.ctl.state = .draining) →
        ∃ q, exec .lockedLoadTaken s = .next (s.after q) ∧ q.link.orders = rest ∧ q.link.pendingLoad = some c
          ∧ q.link.reports = s.link.reports ++ [.loadResult t none] ∧ q.tables = s.tables ∧ q.planner.openGroup = none
          ∧ (∀ g, s.openGroup? = some g →
              (g.state = .admitting →
                q.group? g.key = some { g with state := .brokenClosed, reason := some .truncated })
              ∧ (g.state = .brokenOpen → q.group? g.key = some { g with state := .brokenClosed }))
          ∧ (s.ctl.state = .running → q.ctl = { s.ctl with state := .draining, drainReason := some .load })
          ∧ (s.ctl.state = .draining → q.ctl = s.ctl)))
    ∧ (∀ c, s.link.pendingLoad = some c → s.toPart.pathEmpty = true →
      ∃ q, exec .pendingLoadApplied s = .next (s.after q) ∧ s.toPart.start.AppliedAs q c ∧ q.link.pendingLoad = none
        ∧ q.link.reports = s.link.reports ∧ q.link.orders = s.link.orders ∧ q.ctl = s.ctl)
    ∧ (∃ r, s.checkLocked .geometry first body = r.map .geometry
        ∧ Judged 8 (s.tables.geometry.map Geometry.entries) first (wordEntries body)
          (Within ((100, 4095) :: List.replicate 7 (50, 16383))) (fun _ => True) (fun _ => True) r)
    ∧ (∃ r, s.checkLocked .parameters first body = r.map .parameters
        ∧ Judged 22 (s.tables.parameters.map ParameterSet.entries) first (wordEntries body)
          (Within ([(200, 65535), (0, 15), (400, 16383), (0, 1), (0, 255), (0, 255), (0, 63), (0, 255)]
            ++ [(100, 4095), (0, 1023), (0, 7), (1, 4), (200, 16383), (0, 3), (100, 16383), (0, 1023)]
            ++ [(20, 1023), (0, 63), (100, 65535), (0, 65535), (1000, 65535), (0, 7)]))
          (fun c => (ParameterSet.mk c).gateClear ≤ (ParameterSet.mk c).gapMin)
          (fun c => Fits ⟨c⟩ ((s.tables.media.map MediaTable.entries).getD [])) r)
    ∧ ∃ r, s.checkLocked .media first body = r.map .media
        ∧ Judged 16 (s.tables.media.map MediaTable.entries) first (mediaEntries body)
          (fun c => ∀ m ∈ c, m.valid = true → 1000 ≤ m.length ∧ m.length ≤ 6000 ∧ 1 ≤ m.primary ∧ m.primary ≤ 4
            ∧ m.alternate ≤ 4 ∧ 4 ≤ m.nominal ∧ m.nominal ≤ 200)
          (fun c => ∀ m ∈ c, m.valid = true → m.alternate ≠ m.primary)
          (fun c => ∀ x, s.tables.parameters = some x → Fits x c) r

/-! ### Trays and the paper path -/

/-- STAGING_COVERED_EDGE and STAGING_UNCOVERED_EDGE (R1, R51, R56, R57, R91, R168, R169): the level follows every
edge. A covered edge stages the sheet of an outstanding request, in every state; without a request it clears an
abandoned mark as an anomaly, or is UNEXPECTED on a running path, RESIDUE in RECOVERY and an anomaly elsewhere. A good
trail releases the staging position; a trail that leaves the stop before its short limit is SHORT with the record's
tag and group (R89), and a STAGED sheet that leaves unreleased is SHORT; any other uncovered edge is an anomaly, one
in RECOVERY included. Four points are the model's: that R57's count of an edge stands beside R168's level alone in
RECOVERY (DEDUCED, notes/assumptions/13.md); that SHORT before launch carries the tag and group of the STAGED sheet
(DEDUCED, notes/assumptions/17.md); that an arrival after a retried misfeed at the same tick finds the new request
(DEDUCED, notes/assumptions/37.md); and that an edge at a stop held by a launched sheet with no entry there is an
anomaly, the position still held (DESIGN CHOICE, notes/assumptions/38.md). -/
def Obligations.StagingEdges : Prop :=
  ∀ (s : State) (t : TrayId),
    let level (x : Bool) : Sensors := { s.sensors with staging := s.sensors.staging.set t x }
    let more : Track := { s.track with anomalies := min 65535 (s.track.anomalies + 1) }
    (∀ seq, (s.feeders.get t).request = true → (s.feeders.get t).holder = some seq →
      exec (.stagingCoveredEdge t) s = .next (s.after { s.toPart.start with
        sensors := level true
        feeders := s.feeders.set t { s.feeders.get t with request := false, deadline := none }
        track := { s.track with sheets := s.sheetsWith seq fun x => { x with state := .staged } } }))
    ∧ ((s.feeders.get t).request = false → (s.feeders.get t).abandoned = true →
      exec (.stagingCoveredEdge t) s = .next (s.after { s.toPart.start with
        sensors := level true, feeders := s.feeders.set t { s.feeders.get t with abandoned := false }, track := more }))
    ∧ ((s.feeders.get t).request = false → (s.feeders.get t).abandoned = false →
      (s.ctl.state.matching = true → s.ctl.locked = false →
        ∃ u, exec (.stagingCoveredEdge t) s = .next u ∧ u.sensors = level true
          ∧ u.ctl = s.ctl.stoppedBy (s.toPart.faultOf .unexpected (some (.st t)) none none))
      ∧ (s.ctl.state = .recovery → s.ctl.locked = false →
        ∃ u, exec (.stagingCoveredEdge t) s = .next u ∧ u.sensors = level true
          ∧ u.ctl = s.ctl.stoppedBy (s.toPart.faultOf .residue (some (.st t)) none none))
      ∧ (s.ctl.state.moving = false →
        exec (.stagingCoveredEdge t) s = .next (s.after { s.toPart.start with sensors := level true, track := more })))
    ∧ (∀ r, s.toPart.Clears r (.st t) → exec (.stagingUncoveredEdge t) s = .next (s.after { s.toPart.start with
        sensors := level false
        track := { s.track with sheets := s.sheetsWith r.seq fun x => x.uncovered (.st t) }
        feeders := s.feeders.set r.tray { s.feeders.get r.tray with
          holder := if (s.feeders.get r.tray).holder = some r.seq then none else (s.feeders.get r.tray).holder } }))
    ∧ (∀ r, s.toPart.covering (.st t) = some r → s.toPart.tooSoon r (.st t) = true → s.ctl.state.matching = true →
      s.ctl.locked = false →
      ∃ q, exec (.stagingUncoveredEdge t) s = .next (s.after q) ∧ q.sensors = level false
        ∧ (∀ u, (q.feeders.get u).holder = (s.feeders.get u).holder)
        ∧ q.track.sheets.map Sheet.covered = s.track.sheets.map Sheet.covered
        ∧ (s.after q).ctl = s.ctl.stoppedBy (s.toPart.faultOf .short (some (.st t)) (some r.tag)
            (s.toPart.groupId? r.group)))
    ∧ (∀ r, s.toPart.covering (.st t) = none → (s.feeders.get t).holder.bind s.toPart.sheet? = some r → r.state = .staged →
      (s.ctl.state.matching = true ∨ s.ctl.state = .warmup) → s.ctl.locked = false →
      ∃ u, exec (.stagingUncoveredEdge t) s = .next u ∧ u.sensors = level false
        ∧ u.ctl = s.ctl.stoppedBy (s.toPart.faultOf .short (some (.st t)) (some r.tag) (s.toPart.groupId? r.group)))
    ∧ (s.ctl.state = .recovery →
      exec (.stagingUncoveredEdge t) s = .next (s.after { s.toPart.start with sensors := level false, track := more }))
    ∧ ((s.toPart.covering (.st t) = none ∨ s.ctl.state.matching = false) →
      (s.toPart.covering (.st t) = none → ∀ r, (s.feeders.get t).holder.bind s.toPart.sheet? = some r →
        r.state = .staged → s.ctl.state.matching = false ∧ s.ctl.state ≠ .warmup) →
      exec (.stagingUncoveredEdge t) s = .next (s.after { s.toPart.start with sensors := level false, track := more }))

/-- A lead arrival at MG, DL, PG, or at AC with the set free to take the sheet (R82, R83, R86, R88, R129): the record's
window closes, the station joins its covered list with the trail limits of R88, and the window of the next station on
its itinerary opens with the limits of R83; nothing else changes. With the tables in range every window has
A ≤ E ≤ Z, Z - E ≤ 4095 and A later than the arrival before. -/
def Obligations.LeadArrivals : Prop :=
  (∀ (s : State) (r : Sheet) (q : PathSensor), s.toPart.Arrives r q →
    (q = .mg ∨ q = .dl ∨ q = .pg ∨ (q = .ac ∧ s.toPart.collides r.group = false)) →
    exec (.pathCoveredEdge q) s = .next (s.after { s.toPart.start with
      sensors := { s.sensors with path := s.sensors.path.set q true }
      track := { s.track with sheets := s.sheetsWith r.seq fun x =>
        { s.arrivedAt q x with window := x.itinerary.tail.head?.map fun n => s.windowFor n s.clock.tick } } }))
  ∧ (∀ (p : Part) (q : PathSensor) (a : Tick) (g : Geometry) (c : ParameterSet),
      p.tables.geometry = some g → p.tables.parameters = some c → geometryOk g.entries = true →
      parametersOk c.entries = true →
      ∃ d, d = p.legTo q ∧ 50 ≤ d ∧ d ≤ 16383
        ∧ p.windowFor q a =
            { station := q, expected := a + BitVec.ofNat 32 d
              early := a + BitVec.ofNat 32 (d - min c.earlyMargin (d - 1))
              late := a + BitVec.ofNat 32 (d + min 4095 (c.fixMargin + d * c.slip / 1024)) }
        ∧ lower a (p.windowFor q a).early = true ∧ lower (p.windowFor q a).expected (p.windowFor q a).early = false
        ∧ lower (p.windowFor q a).late (p.windowFor q a).expected = false
        ∧ lower ((p.windowFor q a).expected + 4095) (p.windowFor q a).late = false)
  ∧ ∀ (p : Part) (q : Sensor) (n : Nat) (a : Tick) (c : ParameterSet), p.tables.parameters = some c →
      parametersOk c.entries = true → 1000 ≤ n → n ≤ 6000 →
      p.coverFor q n a =
        { station := q, arrival := a, short := a + BitVec.ofNat 32 (n - c.lenTol)
          long := a + BitVec.ofNat 32 (n + min 4095 (c.lenTol + n * c.slip / 1024)) }

/-- Lead arrivals at RG and TR (R96, R108, R109, R113): at RG the image of the side facing up is cued when the sheet is
bound for STACK and the side's cue state is NONE, or missed when four cues are outstanding, and gauge sampling of a
record without a thickness is scheduled; at TR a side still CUED is missed. A miss spoils the sheet with IMAGE_MISS and
breaks its group with IMAGE. -/
def Obligations.CuesAndSettlement : Prop :=
  ∀ (s : State) (r : Sheet),
    (s.toPart.Arrives r .rg → (s.track.sheets.map Sheet.seq).Nodup →
      ∃ q, exec (.pathCoveredEdge .rg) s = .next (s.after q) ∧ q.ctl = s.ctl
        ∧ (let side : Side := if r.pass = .first then .a else .b
           let due : Prop := r.image side = true ∧ r.destination = .stack ∧ r.cueState side = .none
           let starts : Sampling := .sampling []
             [s.clock.tick + BitVec.ofNat 32 s.params.sampleDelay,
              s.clock.tick + BitVec.ofNat 32 (s.params.sampleDelay + s.params.sampleSpacing),
              s.clock.tick + BitVec.ofNat 32 (s.params.sampleDelay + 2 * s.params.sampleSpacing)]
           (∀ x ∈ q.track.sheets, x.seq = r.seq →
              x.sampling = (if r.thickness.isSome then r.sampling else starts)
              ∧ x.itinerary = r.itinerary.tail ∧ x.covered = (s.arrivedAt .rg r).covered
              ∧ x.window = r.itinerary.tail.head?.map fun n => s.windowFor n s.clock.tick)
           ∧ (due → s.cue.outstanding.length < 4 →
              q.sent = [.cue r.tag r.seq side r.length]
              ∧ q.cue.outstanding = s.cue.outstanding ++ [{ seq := r.seq, side := side }]
              ∧ (∀ x ∈ q.track.sheets, x.seq = r.seq → x.cueState side = .cued ∧ x.destination = r.destination)
              ∧ q.groups = s.groups)
           ∧ (due → 4 ≤ s.cue.outstanding.length →
              q.sent = [] ∧ q.cue = s.cue ∧ s.toPart.BrokenBy q r.group .image
              ∧ ∀ x ∈ q.track.sheets, x.seq = r.seq → x.cueState side = .missed ∧ x.destination = .purge
                  ∧ x.spoil = some (r.spoil.getD .imageMiss))
           ∧ (¬ due → q.sent = [] ∧ q.cue = s.cue ∧ q.groups = s.groups
              ∧ ∀ x ∈ q.track.sheets, x.seq = r.seq → x.cueA = r.cueA ∧ x.cueB = r.cueB)))
    ∧ (s.toPart.Arrives r .tr → (s.track.sheets.map Sheet.seq).Nodup →
      ∃ q, exec (.pathCoveredEdge .tr) s = .next (s.after q) ∧ q.ctl = s.ctl ∧ q.sent = []
        ∧ (let side : Side := if r.pass = .first then .a else .b
           (r.cueState side = .cued →
              q.cue.outstanding = s.cue.outstanding.filter (fun c => ¬ (c.seq = r.seq ∧ c.side = side))
              ∧ s.toPart.BrokenBy q r.group .image
              ∧ ∀ x ∈ q.track.sheets, x.seq = r.seq → x.cueState side = .missed ∧ x.destination = .purge
                  ∧ x.spoil = some (r.spoil.getD .imageMiss)
                  ∧ x.window = r.itinerary.tail.head?.map fun n => s.windowFor n s.clock.tick)
           ∧ (r.cueState side ≠ .cued → q.cue = s.cue ∧ q.groups = s.groups
              ∧ q.track.sheets = s.sheetsWith r.seq fun x =>
                  { s.arrivedAt .tr x with window := x.itinerary.tail.head?.map fun n => s.windowFor n s.clock.tick })))

/-- The gate decisions at FX and XS and GATE_RELEASE (R2, R93 to R95): LOOP for an unspoiled first-pass duplex sheet and
EXIT for any other, STACK or PURGE by the sheet's destination. A free gate, or one held in the needed position, takes the
record as an occupant, with a command when the position changes; an occupied gate held otherwise is GATE_CONFLICT and
keeps its position and occupants. A loop-bound sheet that exits is rerouted and no longer owed a second pass; that one
stopped by GATE_CONFLICT is still owed it is the model's reading (DEDUCED, notes/assumptions/16.md). An occupant
whose release tick is reached in a moving state leaves its list. -/
def Obligations.GateDecisions : Prop :=
  (∀ (s : State) (r : Sheet), s.toPart.Arrives r .fx →
    ∀ need : GdPosition,
      need = (if r.destination = .stack ∧ r.pass = .first ∧ r.plex = .duplex then .loop else .exit) →
      (s.gates.gdOccupants = [] ∨ s.gates.gd = need →
        ∃ q, exec (.pathCoveredEdge .fx) s = .next (s.after q) ∧ q.ctl = s.ctl
          ∧ q.gates = { s.gates with gd := need, gdOccupants := s.gates.gdOccupants ++ [{ seq := r.seq, release := none }] }
          ∧ q.sent = (if s.gates.gd = need then [] else [.gateGd need])
          ∧ (let next : PathSensor := if need = .loop then .dl else .xs
             let rerouted : Prop := r.route = some .freshLoop ∧ need = .exit
             (rerouted → q.arbiter = { s.arbiter with pendingSecond := s.arbiter.pendingSecond - 1 })
             ∧ (¬ rerouted → q.arbiter = s.arbiter)
             ∧ ∀ x ∈ q.track.sheets, x.seq = r.seq →
                x.itinerary = [next] ∧ x.window = some (s.windowFor next s.clock.tick)
                ∧ (rerouted → x.route = some .freshExit)))
      ∧ (s.gates.gdOccupants ≠ [] → s.gates.gd ≠ need → s.ctl.locked = false →
        ∃ u, exec (.pathCoveredEdge .fx) s = .next u ∧ u.gates = s.gates
          ∧ u.arbiter.pendingSecond = s.arbiter.pendingSecond
          ∧ u.ctl = s.ctl.stoppedBy
              (s.toPart.faultOf .gateConflict (some .gd) (some r.tag) (s.toPart.groupId? r.group))))
  ∧ (∀ (s : State) (r : Sheet), s.toPart.Arrives r .xs →
      (s.gates.gxOccupants = [] ∨ s.gates.gx = r.destination →
        ∃ q, exec (.pathCoveredEdge .xs) s = .next (s.after q) ∧ q.ctl = s.ctl ∧ q.arbiter = s.arbiter
          ∧ q.gates = { s.gates with
              gx := r.destination, gxOccupants := s.gates.gxOccupants ++ [{ seq := r.seq, release := none }] }
          ∧ q.sent = (if s.gates.gx = r.destination then [] else [.gateGx r.destination])
          ∧ ∀ x ∈ q.track.sheets, x.seq = r.seq →
              x.exitDecision = some r.destination
              ∧ (r.destination = .stack → x.itinerary = [.ac] ∧ x.window = some (s.windowFor .ac s.clock.tick))
              ∧ (r.destination = .purge → x.itinerary = [.pg] ∧ x.window = some (s.windowFor .pg s.clock.tick)))
      ∧ (s.gates.gxOccupants ≠ [] → s.gates.gx ≠ r.destination → s.ctl.locked = false →
        ∃ u, exec (.pathCoveredEdge .xs) s = .next u ∧ u.gates = s.gates
          ∧ u.ctl = s.ctl.stoppedBy
              (s.toPart.faultOf .gateConflict (some .gx) (some r.tag) (s.toPart.groupId? r.group))))
  ∧ ∀ (s : State) (seq : Half) (o : Occupant), s.ctl.state.moving = true → o.seq = seq →
      s.toPart.reachedBy o.release = true →
      (let stays (x : Occupant) : Bool := ¬ (x.seq = seq ∧ s.toPart.reachedBy x.release = true)
       (o ∈ s.gates.gdOccupants → exec (.gateRelease .gd seq) s = .next (s.after { s.toPart.start with
          gates := { s.gates with gdOccupants := s.gates.gdOccupants.filter stays } }))
       ∧ (o ∈ s.gates.gxOccupants → exec (.gateRelease .gx seq) s = .next (s.after { s.toPart.start with
          gates := { s.gates with gxOccupants := s.gates.gxOccupants.filter stays } })))

/-- PATH_UNCOVERED_EDGE (R89 to R92, R95, R101, R119, R130, R168): a good trail takes the station from the covered
list; at FX and XS it sets the gate's release tick, GATE_CLEAR later; at DL the sheet is LOOPED and joins the loop
INBOUND with a park deadline; at AC it joins the set unless it may not enter; at PG it lands in the purge bin. That a
sheet leaving at AC or PG gives up a staging position it still holds is the model's (DEDUCED,
notes/assumptions/30.md). Without a covering record on a running path the edge is an anomaly; in RECOVERY it changes
the level alone. Outside the moving states an edge of either kind is an anomaly (R101). -/
def Obligations.GoodTrails : Prop :=
  ∀ (s : State),
    let level (q : PathSensor) : Sensors := { s.sensors with path := s.sensors.path.set q false }
    (∀ r q, s.toPart.Clears r (.path q) → (q = .mg ∨ q = .rg ∨ q = .tr) →
      exec (.pathUncoveredEdge q) s = .next (s.after { s.toPart.start with
        sensors := level q, track := { s.track with sheets := s.sheetsWith r.seq fun x => x.uncovered (.path q) } }))
    ∧ (let cleared (seq : Half) (l : List Occupant) : List Occupant :=
         if s.params.gateClear = 0 then l.filter fun o => o.seq ≠ seq
         else l.map fun o =>
           if o.seq = seq then { o with release := some (s.clock.tick + BitVec.ofNat 32 s.params.gateClear) } else o
       (∀ r, s.toPart.Clears r (.path .fx) → exec (.pathUncoveredEdge .fx) s = .next (s.after { s.toPart.start with
          sensors := level .fx
          track := { s.track with sheets := s.sheetsWith r.seq fun x => x.uncovered (.path .fx) }
          gates := { s.gates with gdOccupants := cleared r.seq s.gates.gdOccupants } }))
       ∧ (∀ r, s.toPart.Clears r (.path .xs) → exec (.pathUncoveredEdge .xs) s = .next (s.after { s.toPart.start with
          sensors := level .xs
          track := { s.track with sheets := s.sheetsWith r.seq fun x => x.uncovered (.path .xs) }
          gates := { s.gates with gxOccupants := cleared r.seq s.gates.gxOccupants } })))
    ∧ (∀ r, s.toPart.Clears r (.path .dl) →
      exec (.pathUncoveredEdge .dl) s = .next (s.after { s.toPart.start with
        sensors := level .dl
        track := { s.track with sheets := s.sheetsWith r.seq fun x =>
          { x with state := .looped, window := none, covered := [] } }
        loop := s.loop ++ [{ seq := r.seq, state := .inbound, handOver := s.clock.tick
                             deadline := some (s.clock.tick + BitVec.ofNat 32 s.params.parkLimit) }] }))
    ∧ (∀ r g, s.toPart.Clears r (.path .ac) → s.toPart.collides r.group = false → s.group? r.group = some g →
      ∃ q, exec (.pathUncoveredEdge .ac) s = .next (s.after q)
        ∧ q.acc = { s.acc with
            setGroup := if s.acc.sheets = [] then some r.group else s.acc.setGroup
            sheets := s.acc.sheets ++ [{ seq := r.seq, tag := r.tag }] }
        ∧ (∀ x ∈ q.track.sheets, x.seq ≠ r.seq) ∧ q.stacker = s.stacker
        ∧ (∀ t, (s.feeders.get t).holder = some r.seq → (q.feeders.get t).holder = none)
        ∧ q.group? r.group = some { g with inPath := g.inPath - 1, inSet := g.inSet + 1 })
    ∧ (∀ r g, s.toPart.Clears r (.path .pg) → s.group? r.group = some g →
      ∃ q, exec (.pathUncoveredEdge .pg) s = .next (s.after q) ∧ q.acc = s.acc
        ∧ q.stacker = { s.stacker with purgeStacked := s.stacker.purgeStacked + 1 }
        ∧ (∀ x ∈ q.track.sheets, x.seq ≠ r.seq)
        ∧ (∀ t, (s.feeders.get t).holder = some r.seq → (q.feeders.get t).holder = none)
        ∧ q.group? r.group = some { g with inPath := g.inPath - 1, purged := g.purged + 1 })
    ∧ (∀ q, (s.ctl.state.matching = true ∧ s.toPart.covering (.path q) = none) ∨ s.ctl.state.moving = false →
      exec (.pathUncoveredEdge q) s = .next (s.after { s.toPart.start with
        sensors := level q, track := { s.track with anomalies := min 65535 (s.track.anomalies + 1) } }))
    ∧ (∀ q, s.ctl.state = .recovery →
      exec (.pathUncoveredEdge q) s = .next (s.after { s.toPart.start with sensors := level q }))
    ∧ (s.ctl.state.moving = false → ∀ q,
      exec (.pathCoveredEdge q) s = .next (s.after { s.toPart.start with
        sensors := { s.sensors with path := s.sensors.path.set q true }
        track := { s.track with anomalies := min 65535 (s.track.anomalies + 1) } }))

/-- The faults that stop the path (R85, R87, R89, R90, R101, R121, R129, R130, R137, R169): UNEXPECTED with no
candidate or before the early limit, RESIDUE in RECOVERY, SHORT before the short limit, SET_COLLISION at AC, LATE at a
late limit, STALL at a long limit, LATE at DP at a park deadline and EJECT_TIMEOUT at an eject deadline, each with its
station and with the tag and group of its record, stop the transport in the same event. The park deadline is that of the
oldest INBOUND sheet, at the loop's head or behind PARKED ones; its entry stays INBOUND with the deadline dropped. -/
def Obligations.PathFaultsStopTheTransport : Prop :=
  ∀ s : State, s.ctl.locked = false →
    let stops (c : Instr) (k : FaultKind) (station : Option Station) (tag group : Option Half) : Prop :=
      ∃ q, exec c s = .next (s.after q) ∧ q.ctl = s.ctl.stoppedBy (s.toPart.faultOf k station tag group)
        ∧ (s.after q).ctl = q.ctl ∧ q.track.sheets.length = s.track.sheets.length
    let of (r : Sheet) : Option Half := s.toPart.groupId? r.group
    (s.ctl.state.matching = true →
      (∀ q, s.toPart.expectedAt q = [] → stops (.pathCoveredEdge q) .unexpected (some (.path q)) none none)
      ∧ (∀ q r w, lowestLaunch (s.toPart.expectedAt q) = some r → r.window = some w → lower s.clock.tick w.early = true →
          stops (.pathCoveredEdge q) .unexpected (some (.path q)) (some r.tag) (of r))
      ∧ (∀ q r, s.toPart.covering (.path q) = some r → s.toPart.tooSoon r (.path q) = true →
          stops (.pathUncoveredEdge q) .short (some (.path q)) (some r.tag) (of r)))
    ∧ (s.ctl.state = .recovery → ∀ q, stops (.pathCoveredEdge q) .residue (some (.path q)) none none)
    ∧ (∀ r, s.toPart.Arrives r .ac → s.toPart.collides r.group = true →
        stops (.pathCoveredEdge .ac) .setCollision (some (.path .ac)) (some r.tag) (of r))
    ∧ (∀ r, s.toPart.Clears r (.path .ac) → s.toPart.collides r.group = true →
        stops (.pathUncoveredEdge .ac) .setCollision (some (.path .ac)) (some r.tag) (of r))
    ∧ (s.ctl.state.moving = true →
      (∀ seq r w, s.toPart.sheet? seq = some r → r.window = some w → lower s.clock.tick w.late = false →
          stops (.lateLimitReached seq) .late (some (.path w.station)) (some r.tag) (of r))
      ∧ (∀ seq r e, s.toPart.sheet? seq = some r → e ∈ r.covered → lower s.clock.tick e.long = false →
          stops (.stall seq e.station) .stall (some (Sensor.station e.station)) (some r.tag) (of r))
      ∧ (∀ before e d rest r, s.loop = before ++ e :: rest → (∀ x ∈ before, x.state = .parked) → e.state = .inbound →
          e.deadline = some d → lower s.clock.tick d = false → s.toPart.sheet? e.seq = some r →
          stops .parkDeadline .late (some .dp) (some r.tag) (of r)
          ∧ ((s.loop.map LoopEntry.seq).Nodup →
              ∃ q, exec .parkDeadline s = .next (s.after q) ∧ q.loop = before ++ { e with deadline := none } :: rest))
      ∧ (∀ e d, s.acc.eject = some e → e.status = .active → e.deadline = some d → lower s.clock.tick d = false →
          stops .ejectTimeout .ejectTimeout none none (s.acc.setGroup.bind s.toPart.groupId?)
          ∧ ∃ q, exec .ejectTimeout s = .next (s.after q)
            ∧ q.acc = { s.acc with eject := some { e with status := .expired, deadline := none } }))

/-- The deadlines of the moving states are frozen in the others, and pick deadlines run in WARMUP and RUNNING alone
(R55, R100, R122, R137): a deadline's command then changes nothing of the part before what else the event may bring.
Where it runs, a deadline that is reached is taken in the path tick that finds it reached (R8, R87, R90, R95, R97,
R121, R137): the late and long limits, the park deadline of an INBOUND sheet and the eject deadline stop the
transport, a release tick takes its occupant, a conversion start its conversion, and no pick deadline, warm-up end,
run end or cadence deadline stands reached after it (R13, R52, R156, R170). -/
def Obligations.DeadlinesWaitOutsideTheirStates : Prop :=
  (∀ s : State,
    (s.ctl.state.moving = false → ∀ c : Instr,
      ((∃ seq, c = .lateLimitReached seq) ∨ (∃ seq q, c = .stall seq q) ∨ (∃ g seq, c = .gateRelease g seq)
        ∨ (∃ seq, c = .conversionStart seq) ∨ c = .parkDeadline ∨ c = .ejectTimeout) →
      exec c s = .next (s.after s.toPart.start))
    ∧ (s.ctl.state ≠ .warmup → s.ctl.state ≠ .running → ∀ t, exec (.pickDeadline t) s = .next (s.after s.toPart.start)))
  ∧ ∀ s t : State, s.pending = [] → step s = .next t → (s.track.sheets.map Sheet.seq).Nodup → s.SheetsPlaced →
      s.TransportAgrees → s.TablesHold → s.TablesLoaded →
      let due (d : Tick) : Prop := lower s.clock.tick d = false
      (s.ctl.state.moving = true →
        (∀ x ∈ s.track.sheets, (∃ w, x.window = some w ∧ due w.late) ∨ (∃ e ∈ x.covered, due e.long) →
          t.ctl.state.moving = false)
        ∧ (∀ e ∈ s.loop, e.state = .inbound → ∀ d, e.deadline = some d → due d → t.ctl.state.moving = false)
        ∧ (∀ e d, s.acc.eject = some e → e.status = .active → e.deadline = some d → due d → t.ctl.state.moving = false)
        ∧ (t.ctl.state.moving = true →
            (∀ o ∈ t.gates.gdOccupants ++ t.gates.gxOccupants, ∀ d, o.release = some d → ¬ due d)
            ∧ ∀ x ∈ s.track.sheets, ∀ v d rest, x.sampling = .sampling v (d :: rest) → due d →
                ∀ y ∈ t.track.sheets, y.seq = x.seq → y.sampling ≠ x.sampling))
      ∧ (s.ctl.state = .warmup ∨ s.ctl.state = .running → ∀ k d, (s.feeders.get k).request = true →
          (s.feeders.get k).deadline = some d → due d → (t.feeders.get k).deadline ≠ some d)
      ∧ (s.ctl.state = .warmup → ∀ d, s.ctl.warmupEnd = some d → due d → t.ctl.state ≠ .warmup)
      ∧ (s.ctl.state = .recovery → ∀ d, s.ctl.runEnd = some d → due d →
          t.ctl.state ≠ .recovery ∨ t.ctl.runEndReached = true)
      ∧ (s.clock.watchArmed = true → due (s.clock.watchReference + BitVec.ofNat 32 (2 * s.params.pitch)) →
          t.clock.watchArmed = true → t.clock.watchReference = s.clock.tick)

/-- DRAWER_OPENING, DRAWER_CLOSING and PAPER_SENSOR_EDGE (R46, R47, R53; Table 3-4): the levels follow, and the tray's
state changes as the table gives; an opening clears the abandoned mark and ends an outstanding request, and the sheet it
was for moves to its media's other tray when that is usable with its position free, in WARMUP and RUNNING, or is
stalled. -/
def Obligations.TrayLinesGiveTheTrayState : Prop :=
  ∀ (s : State) (t : TrayId),
    let f := s.feeders.get t
    (∃ u, exec (.drawerOpening t) s = .next u
      ∧ (u.feeders.get t).steady =
          { state := .opened, drawerOpen := true, paperLow := f.paperLow, paperOut := f.paperOut, abandoned := false }
      ∧ ∀ x, x ≠ t → (u.feeders.get x).steady = (s.feeders.get x).steady)
    ∧ (let opened : Feeder :=
         { f with state := .opened, drawerOpen := true, abandoned := false, request := false, deadline := none }
       let stays : Part := { s.toPart.start with
         feeders := s.feeders.set t opened, attentionDue := s.attentionDue || decide (f.state ≠ .opened) }
       let free (u : TrayId) : Prop :=
         ((s.feeders.get u).state = .ready ∨ (s.feeders.get u).state = .low) ∧ s.toPart.stagingFree u = true
       (f.request = false → exec (.drawerOpening t) s = .next (s.after stays))
       ∧ ∀ seq x, f.request = true → f.holder = some seq → s.toPart.sheet? seq = some x → x.tray = t →
          ((s.ctl.state = .warmup ∨ s.ctl.state = .running) → ∀ m u, s.media? x.media = some m →
            m.otherTray t = some u → u ≠ t → free u →
            exec (.drawerOpening t) s = .next (s.after { stays with
              feeders := (s.feeders.set t { opened with holder := none }).set u
                { s.feeders.get u with
                  holder := some x.seq, request := true
                  deadline := some (s.clock.tick + BitVec.ofNat 32 s.params.pickLimit) }
              track := { s.track with sheets := s.sheetsWith x.seq fun r => { r with tray := u, attempts := 0 } }
              sent := [.pickRequest u] }))
          ∧ ((s.ctl.state ≠ .warmup ∧ s.ctl.state ≠ .running)
              ∨ (∀ m u, s.media? x.media = some m → m.otherTray t = some u → ¬ free u) →
            exec (.drawerOpening t) s = .next (s.after stays)))
    ∧ (∃ u, exec (.drawerClosing t) s = .next u
      ∧ (u.feeders.get t).steady =
          { f.steady with
            drawerOpen := false
            state := if f.state = .opened then
                (if f.paperOut then .empty else if f.paperLow then .low else .ready) else f.state }
      ∧ ∀ x, x ≠ t → (u.feeders.get x).steady = (s.feeders.get x).steady)
    ∧ ∀ (which : PaperSensor) (active : Bool), ∃ u, exec (.paperSensorEdge t which active) s = .next u
      ∧ (u.feeders.get t).steady =
          { f.steady with
            paperLow := if which = .low then active else f.paperLow
            paperOut := if which = .out then active else f.paperOut
            state :=
              if which = .out ∧ active = true ∧ (f.state = .ready ∨ f.state = .low) then .empty
              else if which = .low ∧ active = true ∧ f.state = .ready then .low
              else if which = .low ∧ active = false ∧ f.state = .low then .ready
              else f.state }
      ∧ ∀ x, x ≠ t → (u.feeders.get x).steady = (s.feeders.get x).steady

/-- PICK_DEADLINE and STALL_END (R52 to R55): a misfeed in a usable tray is retried while attempts are left, and then
the tray is FAULT; in a tray that is not usable, as one gone EMPTY, there is no retry. A sheet given up moves to the
other tray of its media when that is usable with its position free, and is stalled otherwise. A stall ends with a
request on the sheet's own tray, or on the other. -/
def Obligations.MisfeedsAndStalls : Prop :=
  ∀ (s : State) (t : TrayId),
    let d := s.clock.tick + BitVec.ofNat 32 s.params.pickLimit
    let f := s.feeders.get t
    let usable (u : TrayId) : Prop := (s.feeders.get u).state = .ready ∨ (s.feeders.get u).state = .low
    (∀ seq x due, (s.ctl.state = .warmup ∨ s.ctl.state = .running) → f.request = true → f.deadline = some due →
      lower s.clock.tick due = false → f.holder = some seq → s.toPart.sheet? seq = some x → x.tray = t →
      let left (state : TrayState) : Part := { s.toPart.start with
        feeders := s.feeders.set t { f with state := state, request := false, deadline := none }
        attentionDue := s.attentionDue || decide (f.state ≠ state) }
      let moved (state : TrayState) (u : TrayId) : Part := { left state with
        feeders := (s.feeders.set t { f with state := state, holder := none, request := false, deadline := none }).set u
          { s.feeders.get u with holder := some x.seq, request := true, deadline := some d }
        track := { s.track with sheets := s.sheetsWith x.seq fun r => { r with tray := u, attempts := 0 } }
        sent := [.pickRequest u] }
      let stuck : Prop := ∀ m u, s.media? x.media = some m → m.otherTray t = some u →
        ¬ (usable u ∧ s.toPart.stagingFree u = true)
      (usable t → x.attempts < s.params.pickRetries →
        exec (.pickDeadline t) s = .next (s.after { s.toPart.start with
          feeders := s.feeders.set t { f with request := true, deadline := some d }
          track := { s.track with sheets := s.sheetsWith x.seq fun r => { r with attempts := r.attempts + 1 } }
          sent := [.pickRequest t] }))
      ∧ (usable t → s.params.pickRetries ≤ x.attempts → stuck →
        exec (.pickDeadline t) s = .next (s.after (left .fault)))
      ∧ (¬ usable t → stuck → exec (.pickDeadline t) s = .next (s.after (left f.state)))
      ∧ ∀ m u, s.media? x.media = some m → m.otherTray t = some u → u ≠ t → usable u → s.toPart.stagingFree u = true →
          (usable t → s.params.pickRetries ≤ x.attempts →
            exec (.pickDeadline t) s = .next (s.after (moved .fault u)))
          ∧ (¬ usable t → exec (.pickDeadline t) s = .next (s.after (moved f.state u))))
    ∧ ∀ x, (s.ctl.state = .warmup ∨ s.ctl.state = .running) → x.tray = t →
      lowestSeq (s.track.sheets.filter fun y => s.toPart.stalled y && (s.toPart.stallTray y).isSome) = some x →
      (usable t → s.sensors.staging.get t = false →
        exec .stallEnd s = .next (s.after { s.toPart.start with
          feeders := s.feeders.set t { f with request := true, deadline := some d }
          track := { s.track with sheets := s.sheetsWith x.seq fun r => { r with attempts := 0 } }
          sent := [.pickRequest t] }))
      ∧ (¬ usable t → ∀ u, s.toPart.moveTarget x = some u → u ≠ t →
        exec .stallEnd s = .next (s.after { s.toPart.start with
          feeders := (s.feeders.set t { f with holder := none, request := false, deadline := none }).set u
            { s.feeders.get u with holder := some x.seq, request := true, deadline := some d }
          track := { s.track with sheets := s.sheetsWith x.seq fun r => { r with tray := u, attempts := 0 } }
          sent := [.pickRequest u] }))

/-! ### Boundaries and launches -/

/-- CADENCE_PULSE, PITCH_EXPIRY and CADENCE_LOSS (R9 to R13, R60, R72, R73): each source delivers boundaries only while it
is the boundary source, and a pulse moves the watch reference. A boundary raises the slot index; with the block count
above 0 it lowers the count and launches nothing; open and with no sheet to launch it leaves an empty slot, which from the
cadence line is a starvation when the cadence group's next fresh sheet is not STAGED. At the watch's deadline cadence is
lost: the flag is set, the watch is disarmed, the open group breaks with CADENCE and RUNNING becomes DRAINING. The flag
`expiryDue`, in which an expiry waits for its command, is the model's own (notes/assumptions/8.md). -/
def Obligations.BoundariesAndCadence : Prop :=
  (∀ s : State,
    let line : Bool := s.params.locked && !s.clock.cadenceLost
    (line = false → exec .cadencePulse s = .next (s.after s.toPart.start))
    ∧ (line = true → ∃ q, exec .cadencePulse s = .next (s.after q) ∧ q.track = (s.toPart.start.boundary true).track
        ∧ q.arbiter = (s.toPart.start.boundary true).arbiter ∧ q.sent = (s.toPart.start.boundary true).sent
        ∧ q.groups = (s.toPart.start.boundary true).groups
        ∧ (s.clock.watchArmed = true → q.clock.watchReference = s.clock.tick)
        ∧ (s.clock.watchArmed = false → q.clock = s.clock))
    ∧ (s.arbiter.expiryDue = true → line = true →
        exec .pitchExpiry s = .next (s.after { s.toPart.start with arbiter := { s.arbiter with expiryDue := false } }))
    ∧ (s.arbiter.expiryDue = true → line = false →
        exec .pitchExpiry s = .next (s.after
          (Part.boundary { s.toPart.start with arbiter := { s.arbiter with expiryDue := false } } false)))
    ∧ (s.arbiter.expiryDue = false → exec .pitchExpiry s = .next (s.after s.toPart.start))
    ∧ (s.clock.watchArmed = true →
        lower s.clock.tick (s.clock.watchReference + BitVec.ofNat 32 (2 * s.params.pitch)) = false →
        ∃ q, exec .cadenceLoss s = .next (s.after q) ∧ q.clock.cadenceLost = true ∧ q.clock.watchArmed = false
          ∧ q.attentionDue = true
          ∧ (s.ctl.state = .running → q.ctl = { s.ctl with state := .draining, drainReason := some .cadence })
          ∧ (s.ctl.state = .draining → q.ctl = { s.ctl with
              drainReason := if s.ctl.drainReason = some .load then some .cadence else s.ctl.drainReason })
          ∧ (∀ g, s.openGroup? = some g → g.state = .admitting → g.accepted < 64 →
              q.group? g.key = some { g with state := .brokenOpen, reason := some .cadence })
          ∧ q.arbiter.slotIndex = s.arbiter.slotIndex ∧ q.arbiter.block = s.arbiter.block
          ∧ q.arbiter.pendingSecond = s.arbiter.pendingSecond ∧ q.arbiter.lastExit = s.arbiter.lastExit))
  ∧ ∀ (p : Part) (line : Bool),
    (0 < p.arbiter.block → p.boundary line = { p with arbiter := { p.arbiter with
      slotIndex := p.arbiter.slotIndex + 1, block := p.arbiter.block - 1 } })
    ∧ (p.arbiter.block = 0 → (∀ f, p.ffCandidate = some f → p.ffEligible (p.arbiter.slotIndex + 1) f = false) →
        (∀ d, p.drCandidate = some d → p.drEligible (p.arbiter.slotIndex + 1) d = false) →
        let empty : Part := { p with arbiter := { p.arbiter with slotIndex := p.arbiter.slotIndex + 1 } }
        (line = false → p.boundary line = empty)
        ∧ (p.arbiter.cadenceGroup = none → p.boundary line = empty)
        ∧ (p.ctl.state ≠ .running → p.ctl.state ≠ .draining → p.boundary line = empty)
        ∧ (line = true → (p.ctl.state = .running ∨ p.ctl.state = .draining) →
            ∀ k, p.arbiter.cadenceGroup = some k →
              (let next := lowestSeq (p.track.sheets.filter fun x => x.group == k && x.fresh)
               (next.any (fun x => x.state == .staged) = true → p.boundary line = empty)
               ∧ (next.any (fun x => x.state == .staged) = false → p.boundary line = empty.breakGroup k .starved))))

/-- Launches at an open boundary (R61 to R69, R71, R82, R123): the STAGED fresh sheet of lowest seq goes when it is
spoiled, a simplex sheet with none owed a second pass and set spacing met, or a duplex sheet with fewer than four owed;
the PARKED loop head goes when set spacing is met or it is spoiled; of two the loop head goes once LOOP_DRAIN are owed.
The launched sheet is MOVING with its route, launch order and MG window, and the arbiter counts it. A fresh launch of an
unspoiled sheet makes its group the cadence group, or makes that absent when the group is CLOSED and has no fresh sheet
left (R71); any other launch leaves the cadence group. -/
def Obligations.LaunchesAtOpenBoundaries : Prop :=
  ∀ (p : Part) (line : Bool), p.arbiter.block = 0 →
    let k := p.arbiter.slotIndex + 1
    let spaced (x : Sheet) : Prop :=
      x.destination = .purge ∨ p.arbiter.lastSetGroup = some x.group
      ∨ ∀ e, p.arbiter.lastExit = some e → (e.slots : Int) + p.params.setGap ≤ (k - e.slot).toInt
    let mayFeed (x : Sheet) : Prop :=
      (p.ctl.state = .running ∨ p.ctl.state = .draining) ∧ x.state = .staged
      ∧ (x.destination = .purge ∨ (x.plex = .simplex ∧ p.arbiter.pendingSecond = 0 ∧ spaced x)
          ∨ (x.plex = .duplex ∧ p.arbiter.pendingSecond < 4))
    let mayReturn (x : Sheet) : Prop :=
      (p.ctl.state = .running ∨ p.ctl.state = .draining ∨ p.ctl.state = .runout) ∧ spaced x
    (∀ f, p.ffCandidate = some f → mayFeed f →
      (∀ d, p.drCandidate = some d → mayReturn d → p.arbiter.pendingSecond < p.params.loopDrain) →
      let launchedAll : Prop := (∃ g, p.group? f.group = some g ∧ g.state = .closed)
        ∧ ∀ x ∈ p.track.sheets, x.group = f.group → x.state = .picking ∨ x.state = .staged → x.seq = f.seq
      ∃ q, p.boundary line = q ∧ q.sent = p.sent ++ [.releaseRequest f.tray] ∧ q.loop = p.loop ∧ q.feeders = p.feeders
        ∧ (let twice : Prop := f.destination = .stack ∧ f.plex = .duplex
           (twice → ∃ c, q.arbiter = { p.arbiter with
              slotIndex := k, block := f.slots - 1, launchCounter := p.arbiter.launchCounter + 1
              pendingSecond := p.arbiter.pendingSecond + 1, cadenceGroup := c })
           ∧ (¬ twice → ∃ c, q.arbiter = { p.arbiter with
              slotIndex := k, block := f.slots - 1, launchCounter := p.arbiter.launchCounter + 1
              lastExit := some { slot := k, slots := f.slots }
              lastSetGroup := if f.destination = .stack then some f.group else p.arbiter.lastSetGroup
              cadenceGroup := c })
           ∧ (f.destination = .purge → q.arbiter.cadenceGroup = p.arbiter.cadenceGroup)
           ∧ (f.destination = .stack → launchedAll → q.arbiter.cadenceGroup = none)
           ∧ (f.destination = .stack → ¬ launchedAll → q.arbiter.cadenceGroup = some f.group)
           ∧ q.track = { p.track with sheets := p.sheetsWith f.seq fun x =>
              { x with
                state := .moving, pass := .first
                route := some (if f.destination = .stack ∧ f.plex = .duplex then .freshLoop else .freshExit)
                launchTick := some p.clock.tick, launchOrder := some p.arbiter.launchCounter
                itinerary :=
                  [.mg, .rg, .tr, .fx, if f.destination = .stack ∧ f.plex = .duplex then .dl else .xs]
                window := some (p.windowFor .mg p.clock.tick)
                covered := [p.coverFor (.st x.tray) x.length p.clock.tick], exitDecision := none
                sampling := if x.thickness.isSome then x.sampling else .idle } }))
    ∧ (∀ d, p.drCandidate = some d → mayReturn d →
      (∀ f, p.ffCandidate = some f → mayFeed f → p.params.loopDrain ≤ p.arbiter.pendingSecond) →
      ∃ q, p.boundary line = q ∧ q.sent = p.sent ++ [.loopRelease] ∧ q.loop = p.loop.tail ∧ q.feeders = p.feeders
        ∧ q.arbiter = { p.arbiter with
            slotIndex := k, block := d.slots - 1, launchCounter := p.arbiter.launchCounter + 1
            pendingSecond := p.arbiter.pendingSecond - 1, lastExit := some { slot := k, slots := d.slots }
            lastSetGroup := if d.destination = .stack then some d.group else p.arbiter.lastSetGroup }
        ∧ q.track = { p.track with sheets := p.sheetsWith d.seq fun x =>
            { x with
              state := .moving, pass := .second, route := some .second, launchTick := some p.clock.tick
              launchOrder := some p.arbiter.launchCounter, itinerary := [.mg, .rg, .tr, .fx, .xs]
              window := some (p.windowFor .mg p.clock.tick), covered := [], exitDecision := none
              sampling := if x.thickness.isSome then x.sampling else .idle } })

/-! ### Gauge, answers, sets and bins -/

/-- CONVERSION_START and CONVERSION_COMPLETION (R96 to R98, R102): a start that is reached takes an idle gauge with a
conversion request and abandons the sampling at a busy one; a completion gives its value to the record sampled and frees
the gauge, and is an anomaly at an idle one. At the third value the middle one is the thickness: at or above the double
threshold it is DOUBLE_FEED at RG, below the thin one the sheet is spoiled with THIN and its group breaks with MEDIA. -/
def Obligations.GaugeMeasuresEachSheet : Prop :=
  ∀ s : State,
    let more : Nat := min 65535 (s.track.anomalies + 1)
    (∀ seq r values t rest, s.ctl.state.moving = true → s.toPart.sheet? seq = some r →
      r.sampling = .sampling values (t :: rest) → lower s.clock.tick t = false →
      (s.track.gauge = none →
        exec (.conversionStart seq) s = .next (s.after { s.toPart.start with
          track := { s.track with
            gauge := some (seq, 3 - rest.length)
            sheets := s.sheetsWith seq fun x => { x with sampling := .sampling values rest } }
          sent := [.conversionRequest] }))
      ∧ (s.track.gauge.isSome = true →
        exec (.conversionStart seq) s = .next (s.after { s.toPart.start with
          track := { s.track with
            anomalies := more, sheets := s.sheetsWith seq fun x => { x with sampling := .abandoned } } })))
    ∧ (s.track.gauge = none → ∀ v,
      exec (.conversionCompletion v) s = .next (s.after { s.toPart.start with
        track := { s.track with anomalies := more } }))
    ∧ ∀ (seq : Half) (n : Nat) (v : Byte), s.track.gauge = some (seq, n) →
      ((∀ r, s.toPart.sheet? seq = some r → r.isSampling = false) →
        exec (.conversionCompletion v) s = .next (s.after { s.toPart.start with track := { s.track with gauge := none } }))
      ∧ (∀ r values rest, s.toPart.sheet? seq = some r → r.sampling = .sampling values rest → values.length < 2 →
        exec (.conversionCompletion v) s = .next (s.after { s.toPart.start with
          track := { s.track with
            gauge := none, sheets := s.sheetsWith seq fun x => { x with sampling := .sampling (values ++ [v]) rest } } }))
      ∧ ∀ r a b rest m, s.toPart.sheet? seq = some r → r.sampling = .sampling [a, b] rest →
        m ∈ [a, b, v] → 2 ≤ ([a, b, v].filter fun x => x.toNat ≤ m.toNat).length →
        2 ≤ ([a, b, v].filter fun x => m.toNat ≤ x.toNat).length →
        (let evaluated : List Sheet := s.sheetsWith seq fun x => { x with thickness := some m, sampling := .idle }
         let double : Nat := min 255 (max (r.nominal + 1) (2 * r.nominal - s.params.dfTol))
         (double ≤ m.toNat → s.ctl.locked = false →
            ∃ q, exec (.conversionCompletion v) s = .next (s.after q) ∧ (s.after q).ctl = q.ctl ∧ q.track.gauge = none
              ∧ q.ctl = s.ctl.stoppedBy
                  (s.toPart.faultOf .doubleFeed (some (.path .rg)) (some r.tag) (s.toPart.groupId? r.group))
              ∧ q.groups = s.groups
              ∧ ∀ x ∈ q.track.sheets, x.seq = seq → x.thickness = some m ∧ x.isSampling = false)
         ∧ (m.toNat < double → m.toNat < r.nominal / 2 →
            ∃ q, exec (.conversionCompletion v) s = .next (s.after q) ∧ q.ctl = s.ctl ∧ q.track.gauge = none
              ∧ s.toPart.BrokenBy q r.group .media
              ∧ (∀ x ∈ q.track.sheets, x.seq = seq →
                  x.thickness = some m ∧ x.sampling = .idle ∧ x.destination = .purge)
              ∧ ∃ x, q.sheet? seq = some x ∧ x.spoil = some (r.spoil.getD .thin))
         ∧ (m.toNat < double → r.nominal / 2 ≤ m.toNat →
            exec (.conversionCompletion v) s = .next (s.after { s.toPart.start with
              track := { s.track with gauge := none, sheets := evaluated } })))

/-- READY_ANSWER, DECLINE_ANSWER and PARKED (R110 to R112, R116, R120): an answer that matches an outstanding cue takes it
from the list, in every transport state; READY makes its side READY and nothing else, DECLINE makes it DECLINED, spoils
the sheet with IMAGE_DECLINED and breaks its group with IMAGE; an answer that matches none is late. A PARKED report makes
the oldest INBOUND entry PARKED without a deadline, and is an anomaly when there is none. -/
def Obligations.AnswersAndParkReports : Prop :=
  ∀ s : State,
    (∀ (seq : Half) (side : Side), { seq := seq, side := side : Cue } ∉ s.cue.outstanding →
      let late : Part := { s.toPart.start with cue := { s.cue with late := min 65535 (s.cue.late + 1) } }
      exec (.readyAnswer seq side) s = .next (s.after late) ∧ exec (.declineAnswer seq side) s = .next (s.after late))
    ∧ (∀ (seq : Half) (side : Side), { seq := seq, side := side : Cue } ∈ s.cue.outstanding →
      let left : List Cue := s.cue.outstanding.filter fun c => c ≠ { seq := seq, side := side }
      exec (.readyAnswer seq side) s = .next (s.after { s.toPart.start with
        cue := { s.cue with outstanding := left }
        track := { s.track with sheets := s.sheetsWith seq fun x => x.setCue side .ready } })
      ∧ ∃ q, exec (.declineAnswer seq side) s = .next (s.after q) ∧ q.cue = { s.cue with outstanding := left }
        ∧ q.ctl = s.ctl
        ∧ (∀ x ∈ q.track.sheets, x.seq = seq → x.cueState side = .declined ∧ x.destination = .purge)
        ∧ ∀ r, s.toPart.sheet? seq = some r → s.toPart.BrokenBy q r.group .image
            ∧ ∃ x, q.sheet? seq = some x ∧ x.spoil = some (r.spoil.getD .imageDeclined))
    ∧ (∀ before e after, s.loop = before ++ e :: after → (∀ x ∈ before, x.state = .parked) → e.state = .inbound →
      exec .parked s = .next (s.after { s.toPart.start with
        loop := before ++ { e with state := .parked, deadline := none } :: after }))
    ∧ ((∀ x ∈ s.loop, x.state = .parked) →
      exec .parked s = .next (s.after { s.toPart.start with
        track := { s.track with anomalies := min 65535 (s.track.anomalies + 1) } }))

/-- SET_EJECT_START and EJECT_DONE (R131 to R136, R145): an intact complete set in a moving state goes to its group's
bin when that is READY, to the noted alternate when that is READY with room, and otherwise breaks with BIN and goes to
purge; a broken set with no sheet of its group stacker-bound goes to purge. EJECT_DONE delivers an ACTIVE eject's set
into its bin, with the allowance turned into stacked sheets and the jog position changed under ALTERNATE, or lands it
in the purge bin; with no ACTIVE eject, as with an empty accumulator, it is an anomaly and nothing else. -/
def Obligations.SetsAreEjected : Prop :=
  (∀ s : State, (∀ e, s.acc.eject = some e → e.status = .expired) →
    exec .ejectDone s = .next (s.after { s.toPart.start with
      track := { s.track with anomalies := min 65535 (s.track.anomalies + 1) } }))
  ∧ ∀ (s : State) (g : Group), s.acc.setGroup = some g.key → s.group? g.key = some g → s.acc.sheets ≠ [] →
    let n := s.acc.sheets.length
    let eject (x : EjectTarget) (j : Jog) : Option Eject :=
      some { target := x, jog := j, count := n, status := .active
             deadline := some (s.clock.tick + BitVec.ofNat 32 s.params.ejectLimit) }
    (s.ctl.state.moving = true → s.acc.eject = none →
      (∀ b, g.state = .closed → g.inSet = g.accepted → g.bin = some b → (s.stacker.bins.get b).state = .ready →
        exec .setEjectStart s = .next (s.after { s.toPart.start with
          acc := { s.acc with eject := eject (.bin b) (s.stacker.bins.get b).jog }
          sent := [.ejectRequest (.bin b) (s.stacker.bins.get b).jog] }))
      ∧ (∀ a b, g.state = .closed → g.inSet = g.accepted → (∀ x, g.bin = some x → (s.stacker.bins.get x).state ≠ .ready) →
        s.toPart.allowance? g.key = some a → a.alternate = some b → g.bin ≠ some b →
        (s.stacker.bins.get b).state = .ready → n ≤ s.freeRoom b →
        ∃ q, exec .setEjectStart s = .next (s.after q) ∧ q.acc.eject = eject (.bin b) (s.stacker.bins.get b).jog
          ∧ q.group? g.key = some { g with bin := some b }
          ∧ q.allowance? g.key = some { a with bin := b, count := n })
      ∧ (g.state = .closed → g.inSet = g.accepted → (∀ x, g.bin = some x → (s.stacker.bins.get x).state ≠ .ready) →
        (∀ a b, s.toPart.allowance? g.key = some a → a.alternate = some b →
          g.bin = some b ∨ (s.stacker.bins.get b).state ≠ .ready ∨ s.freeRoom b < n) →
        ∃ q, exec .setEjectStart s = .next (s.after q) ∧ q.acc.eject = eject .purge .left
          ∧ q.group? g.key = some { g with state := .brokenClosed, reason := some .bin }
          ∧ q.sent = [.ejectRequest .purge .left])
      ∧ (g.state.broken = true →
        (∀ x ∈ s.track.sheets, x.group = g.key → x.stackerBound = false) →
        exec .setEjectStart s = .next (s.after { s.toPart.start with
          acc := { s.acc with eject := eject .purge .left }, sent := [.ejectRequest .purge .left] })))
    ∧ (∀ e b, s.acc.eject = some e → e.status = .active → e.target = .bin b →
      ∃ q, exec .ejectDone s = .next (s.after q) ∧ q.acc = { setGroup := none, sheets := [], eject := none }
        ∧ (let x : Bin := { s.stacker.bins.get b with
             stacked := (s.stacker.bins.get b).stacked + e.count
             jog := if g.policy = .alternate then
                 (if (s.stacker.bins.get b).jog = .left then .right else .left) else (s.stacker.bins.get b).jog }
           q.stacker.bins.get b = { x with state := x.formed (s.capacity b) })
        ∧ q.stacker.allowances = s.stacker.allowances.filter (fun a => a.group ≠ g.key)
        ∧ q.group? g.key = some { g with
            inSet := g.inSet - e.count, delivered := g.delivered + e.count, bin := some b, jog := some e.jog })
    ∧ (∀ e, s.acc.eject = some e → e.status = .active → e.target = .purge →
      ∃ q, exec .ejectDone s = .next (s.after q) ∧ q.acc = { setGroup := none, sheets := [], eject := none }
        ∧ q.stacker = { s.stacker with purgeStacked := s.stacker.purgeStacked + e.count }
        ∧ q.group? g.key = some { g with inSet := g.inSet - e.count, purged := g.purged + e.count })

/-- BIN_DOOR_OPENING, BIN_DOOR_CLOSING, FULL_SENSOR_EDGE and BIN_EMPTIED (R146 to R148): each acts on the one bin and
forms its state again, and a change of state is an ATTENTION occurrence; a door close acts by the bin's release mode, and
a BIN EMPTIED by the table of R148. That a remembered notice ends a hold set before, and the door close while the Bin Map
is not loaded, are the model's (notes/assumptions/28.md, 12.md). -/
def Obligations.BinsFollowDoorsAndNotices : Prop :=
  ∀ (s : State) (b : BinId),
    let x := s.stacker.bins.get b
    let with' (y : Bin) : Part :=
      { s.toPart.start with
        stacker := { s.stacker with bins := s.stacker.bins.set b { y with state := y.formed (s.capacity b) } }
        attentionDue := s.attentionDue || decide (x.state ≠ y.formed (s.capacity b)) }
    exec (.binDoorOpening b) s = .next (s.after (with' { x with doorOpen := true }))
    ∧ (∀ active, exec (.fullSensorEdge b active) s = .next (s.after (with' { x with full := active })))
    ∧ (∀ m, s.tables.binMap = some m →
      (m.mode b = .onDoor → exec (.binDoorClosing b) s = .next (s.after
        (with' { x with doorOpen := false, stacked := 0, hold := false, remembered := false })))
      ∧ (m.mode b = .onNotice → x.remembered = true → exec (.binDoorClosing b) s = .next (s.after
        (with' { x with doorOpen := false, stacked := 0, hold := false, remembered := false })))
      ∧ (m.mode b = .onNotice → x.remembered = false → exec (.binDoorClosing b) s = .next (s.after
        (with' { x with doorOpen := false, hold := true }))))
    ∧ (s.tables.binMap = none → exec (.binDoorClosing b) s = .next (s.after
        { with' (x.closeDoor (Config.unloadedReleaseMode s.freeIndex)) with freeIndex := s.freeIndex + 1 }))
    ∧ ∀ n : Byte, binOf? n.toNat = some b → ∀ m, s.tables.binMap = some m →
      (let accepted (y : Bin) : Part :=
         { with' y with attentionDue := true, link := { s.link with framer := .hunt } }
       let refused : Prop := ∃ q, exec (.binEmptied n) s = .next (s.after q) ∧ s.toPart.RefusedAs q .binEmptied
       let into : Prop := ∃ e, s.acc.eject = some e ∧ e.target = .bin b
       (into → refused)
       ∧ (¬ into → m.mode b = .onDoor → refused)
       ∧ (¬ into → m.mode b = .onNotice → x.doorOpen = true →
          exec (.binEmptied n) s = .next (s.after (accepted { x with remembered := true })))
       ∧ (¬ into → m.mode b = .onNotice → x.doorOpen = false → x.hold = true →
          exec (.binEmptied n) s = .next (s.after (accepted { x with stacked := 0, hold := false })))
       ∧ (¬ into → m.mode b = .onNotice → x.doorOpen = false → x.hold = false → refused))

/-- GROUP_RESOLUTION (R27, R40, R41, R186): the first closed group with no sheet in path or in set is resolved; with a
free place its GROUP RESULT is appended and its entry leaves the table, and otherwise its result is held with the
entry in place. The result's counts are the entry's own; they add up to accepted, delivered is 0 or all of it, and it
is all exactly when the outcome is DELIVERED. -/
def Obligations.GroupResolutionReportsTheBill : Prop :=
  ∀ (s : State) (g : Group), s.groups.entries.find? s.toPart.resolvable = some g →
    (s.link.reports.length < 64 → ∃ q, exec .groupResolution s = .next (s.after q)
      ∧ q.groups.entries = s.groups.entries.filter (fun x => x.key ≠ g.key) ∧ q.track = s.track ∧ q.ctl = s.ctl
      ∧ ∃ r, q.link.reports = s.link.reports ++ [.groupResult r]
        ∧ r.group = g.id ∧ r.firstTag = g.firstTag ∧ r.lastTag = g.lastTag ∧ r.accepted = g.accepted
        ∧ r.delivered = g.delivered ∧ r.purged = g.purged ∧ r.removed = g.removed ∧ r.unfed = g.unfed
        ∧ (g.state = .closed → r.outcome = .delivered g.bin g.jog)
        ∧ (g.state = .brokenClosed → r.outcome = .broken g.reason)
        ∧ (s.GroupsAgree → s.BillsAccounted → s.BillsWhole →
            r.accepted = r.delivered + r.purged + r.removed + r.unfed
            ∧ (r.delivered = 0 ∨ r.delivered = r.accepted)
            ∧ (r.delivered = r.accepted ↔ ∃ b j, r.outcome = .delivered b j)))
    ∧ (64 ≤ s.link.reports.length → exec .groupResolution s = .next (s.after { s.toPart.start with
        link := { s.link with held := { s.link.held with results := s.link.held.results ++ [g.key] } } }))
end

