-- ==== Sys2Proof/Laws/Exec.lean ====
section
/-! SUPPORT. What each command is: the machine after the event whose own effect is the one operation named here. Proofs
about a command rewrite with its equation and never unfold `exec` or `State.after`. -/

namespace Sys2Proof.Machine

variable (s : State)

theorem run_eq (s : State) (f : Part → Part) : s.run f = .next (s.after (f s.toPart.start)) := rfl

/-- An event whose conditions hold takes place. -/
theorem attempt_some {p q : Part} {e : Part → Option Part} (h : e p = some q) : p.attempt e = q := by
  rw [Part.attempt, h]; rfl

/-- An event whose conditions do not hold leaves the part as it was. -/
theorem attempt_none {p : Part} {e : Part → Option Part} (h : e p = none) : p.attempt e = p := by
  rw [Part.attempt, h]; rfl

theorem exec_powerOnReset (l : Lines) : exec (.powerOnReset l) s = .next (s.after (s.toPart.start.powerOn l)) := rfl

theorem exec_controllerReset (l : Lines) :
    exec (.controllerReset l) s = .next (s.after (s.toPart.start.controllerReset l)) := rfl

theorem exec_sheetOrder (o : SheetOrder) :
    exec (.sheetOrder o) s = .next (s.after (s.toPart.start.toHunt.enqueue (.order o))) := rfl

theorem exec_stop : exec .stop s = .next (s.after (s.toPart.start.toHunt.enqueue .stop)) := rfl

theorem exec_purge : exec .purge s = .next (s.after (s.toPart.start.toHunt.enqueue .purge)) := rfl

theorem exec_load (l : LoadRecord) : exec (.load l) s = .next (s.after (s.toPart.start.takeLoad l)) := rfl

theorem exec_start : exec .start s = .next (s.after (s.toPart.start.toHunt.startControl)) := rfl

theorem exec_halt : exec .halt s = .next (s.after (s.toPart.start.toHunt.haltControl)) := rfl

theorem exec_clearFault : exec .clearFault s = .next (s.after (s.toPart.start.toHunt.clearFaultControl)) := rfl

theorem exec_binEmptied (n : Byte) :
    exec (.binEmptied n) s = .next (s.after (s.toPart.start.toHunt.binEmptied n)) := rfl

theorem exec_query : exec .query s = .next (s.after (s.toPart.start.toHunt.status)) := rfl

theorem exec_droppedRecord (c : DropCause) :
    exec (.droppedRecord c) s = .next (s.after (s.toPart.start.toHunt.drop c)) := rfl

theorem exec_groupAdmission :
    exec .groupAdmission s = .next (s.after (s.toPart.start.attempt Part.groupAdmission)) := rfl

theorem exec_brokenFromStart :
    exec .brokenFromStart s = .next (s.after (s.toPart.start.attempt Part.brokenFromStart)) := rfl

theorem exec_furtherOrderPick :
    exec .furtherOrderPick s = .next (s.after (s.toPart.start.attempt Part.furtherOrderPick)) := rfl

theorem exec_discardedAsUnfed :
    exec .discardedAsUnfed s = .next (s.after (s.toPart.start.attempt Part.discardedAsUnfed)) := rfl

theorem exec_orphan : exec .orphan s = .next (s.after (s.toPart.start.attempt Part.orphanTaken)) := rfl

theorem exec_stopTaken : exec .stopTaken s = .next (s.after (s.toPart.start.attempt Part.stopTaken)) := rfl

theorem exec_purgeTaken : exec .purgeTaken s = .next (s.after (s.toPart.start.attempt Part.purgeTaken)) := rfl

theorem exec_liveLoadTaken :
    exec .liveLoadTaken s = .next (s.after (s.toPart.start.attempt Part.liveLoadTaken)) := rfl

theorem exec_lockedLoadTaken :
    exec .lockedLoadTaken s = .next (s.after (s.toPart.start.attempt Part.lockedLoadTaken)) := rfl

theorem exec_pendingLoadApplied :
    exec .pendingLoadApplied s = .next (s.after (s.toPart.start.attempt Part.pendingLoadApplied)) := rfl

theorem exec_stagingCoveredEdge (t : TrayId) :
    exec (.stagingCoveredEdge t) s = .next (s.after (s.toPart.start.stagingCovered t)) := rfl

theorem exec_stagingUncoveredEdge (t : TrayId) :
    exec (.stagingUncoveredEdge t) s = .next (s.after (s.toPart.start.stagingUncovered t)) := rfl

theorem exec_pathCoveredEdge (q : PathSensor) :
    exec (.pathCoveredEdge q) s = .next (s.after (s.toPart.start.pathCovered q)) := rfl

theorem exec_pathUncoveredEdge (q : PathSensor) :
    exec (.pathUncoveredEdge q) s = .next (s.after (s.toPart.start.pathUncovered q)) := rfl

theorem exec_drawerOpening (t : TrayId) :
    exec (.drawerOpening t) s = .next (s.after (s.toPart.start.openDrawer t)) := rfl

theorem exec_drawerClosing (t : TrayId) :
    exec (.drawerClosing t) s = .next (s.after (s.toPart.start.closeDrawer t)) := rfl

theorem exec_paperSensorEdge (t : TrayId) (which : PaperSensor) (active : Bool) :
    exec (.paperSensorEdge t which active) s = .next (s.after (s.toPart.start.paperEdge t which active)) := rfl

theorem exec_pickDeadline (t : TrayId) :
    exec (.pickDeadline t) s = .next (s.after (s.toPart.start.attempt (Part.pickDeadline t))) := rfl

theorem exec_stallEnd : exec .stallEnd s = .next (s.after (s.toPart.start.attempt Part.stallEnd)) := rfl

theorem exec_pitchExpiry : exec .pitchExpiry s = .next (s.after (s.toPart.start.attempt Part.pitchExpiry)) := rfl

theorem exec_cadencePulse : exec .cadencePulse s = .next (s.after (s.toPart.start.cadencePulse)) := rfl

theorem exec_cadenceLoss : exec .cadenceLoss s = .next (s.after (s.toPart.start.attempt Part.cadenceLoss)) := rfl

theorem exec_lateLimitReached (seq : Half) :
    exec (.lateLimitReached seq) s = .next (s.after (s.toPart.start.attempt (Part.lateLimit seq))) := rfl

theorem exec_stall (seq : Half) (q : Sensor) :
    exec (.stall seq q) s = .next (s.after (s.toPart.start.attempt (Part.stallAt seq q))) := rfl

theorem exec_gateRelease (g : Gate) (seq : Half) :
    exec (.gateRelease g seq) s = .next (s.after (s.toPart.start.attempt (Part.gateRelease g seq))) := rfl

theorem exec_conversionStart (seq : Half) :
    exec (.conversionStart seq) s = .next (s.after (s.toPart.start.attempt (Part.conversionStart seq))) := rfl

theorem exec_conversionCompletion (v : Byte) :
    exec (.conversionCompletion v) s = .next (s.after (s.toPart.start.conversionDone v)) := rfl

theorem exec_readyAnswer (seq : Half) (side : Side) :
    exec (.readyAnswer seq side) s = .next (s.after (s.toPart.start.readyAnswer seq side)) := rfl

theorem exec_declineAnswer (seq : Half) (side : Side) :
    exec (.declineAnswer seq side) s = .next (s.after (s.toPart.start.declineAnswer seq side)) := rfl

theorem exec_parked : exec .parked s = .next (s.after (s.toPart.start.parked)) := rfl

theorem exec_parkDeadline : exec .parkDeadline s = .next (s.after (s.toPart.start.attempt Part.parkDeadline)) := rfl

theorem exec_setEjectStart :
    exec .setEjectStart s = .next (s.after (s.toPart.start.attempt Part.setEjectStart)) := rfl

theorem exec_ejectDone : exec .ejectDone s = .next (s.after (s.toPart.start.ejectDone)) := rfl

theorem exec_ejectTimeout : exec .ejectTimeout s = .next (s.after (s.toPart.start.attempt Part.ejectTimeout)) := rfl

theorem exec_binDoorOpening (b : BinId) :
    exec (.binDoorOpening b) s = .next (s.after (s.toPart.start.openBin b)) := rfl

theorem exec_binDoorClosing (b : BinId) :
    exec (.binDoorClosing b) s = .next (s.after (s.toPart.start.closeBin b)) := rfl

theorem exec_fullSensorEdge (b : BinId) (active : Bool) :
    exec (.fullSensorEdge b active) s = .next (s.after (s.toPart.start.fullEdge b active)) := rfl

theorem exec_purgeDoorOpening : exec .purgeDoorOpening s = .next (s.after (s.toPart.start.openPurge)) := rfl

theorem exec_purgeDoorClosing : exec .purgeDoorClosing s = .next (s.after (s.toPart.start.closePurge)) := rfl

theorem exec_coverOpening : exec .coverOpening s = .next (s.after (s.toPart.start.openCover)) := rfl

theorem exec_coverClosing : exec .coverClosing s = .next (s.after (s.toPart.start.closeCover)) := rfl

theorem exec_powerWarnAsserted : exec .powerWarnAsserted s = .next (s.after (s.toPart.start.assertPowerWarn)) := rfl

theorem exec_powerWarnCleared : exec .powerWarnCleared s = .next (s.after (s.toPart.start.clearPowerWarn)) := rfl

theorem exec_warmupEnd : exec .warmupEnd s = .next (s.after (s.toPart.start.attempt Part.warmupEnd)) := rfl

theorem exec_drainEnd : exec .drainEnd s = .next (s.after (s.toPart.start.attempt Part.drainEnd)) := rfl

theorem exec_runoutEnd : exec .runoutEnd s = .next (s.after (s.toPart.start.attempt Part.runoutEnd)) := rfl

theorem exec_runEnd : exec .runEnd s = .next (s.after (s.toPart.start.attempt Part.runEndReached)) := rfl

theorem exec_groupResolution :
    exec .groupResolution s = .next (s.after (s.toPart.start.attempt Part.groupResolution)) := rfl

theorem exec_returnReadyAsserted :
    exec .returnReadyAsserted s = .next (s.after (s.toPart.start.setReturnReady true)) := rfl

theorem exec_returnReadyCleared :
    exec .returnReadyCleared s = .next (s.after (s.toPart.start.setReturnReady false)) := rfl

theorem exec_transmissionComplete :
    exec .transmissionComplete s = .next (s.after (s.toPart.start.attempt Part.transmissionDone)) := rfl

theorem exec_startDelimiter (b : Byte) :
    exec (.startDelimiter b) s = .next (s.after (s.toPart.start.takeByte b)) := rfl

end Sys2Proof.Machine
end

