-- ==== Sys2Proof/Laws/State.lean ====
section
/-! SUPPORT. The small lemmas of the record updates: for each update of the part, what every field reads after it. -/

namespace Sys2Proof.Machine

variable (p : Part)

@[simp] theorem send_clock (m : Message) : (p.send m).clock = p.clock := rfl
@[simp] theorem send_sensors (m : Message) : (p.send m).sensors = p.sensors := rfl
@[simp] theorem send_gates (m : Message) : (p.send m).gates = p.gates := rfl
@[simp] theorem send_tables (m : Message) : (p.send m).tables = p.tables := rfl
@[simp] theorem send_planner (m : Message) : (p.send m).planner = p.planner := rfl
@[simp] theorem send_groups (m : Message) : (p.send m).groups = p.groups := rfl
@[simp] theorem send_feeders (m : Message) : (p.send m).feeders = p.feeders := rfl
@[simp] theorem send_arbiter (m : Message) : (p.send m).arbiter = p.arbiter := rfl
@[simp] theorem send_track (m : Message) : (p.send m).track = p.track := rfl
@[simp] theorem send_cue (m : Message) : (p.send m).cue = p.cue := rfl
@[simp] theorem send_loop (m : Message) : (p.send m).loop = p.loop := rfl
@[simp] theorem send_acc (m : Message) : (p.send m).acc = p.acc := rfl
@[simp] theorem send_stacker (m : Message) : (p.send m).stacker = p.stacker := rfl
@[simp] theorem send_ctl (m : Message) : (p.send m).ctl = p.ctl := rfl
@[simp] theorem send_link (m : Message) : (p.send m).link = p.link := rfl
@[simp] theorem send_attentionDue (m : Message) : (p.send m).attentionDue = p.attentionDue := rfl
@[simp] theorem send_freeIndex (m : Message) : (p.send m).freeIndex = p.freeIndex := rfl
@[simp] theorem send_sent (m : Message) : (p.send m).sent = p.sent ++ [m] := rfl

@[simp] theorem notice_clock : (p.notice).clock = p.clock := rfl
@[simp] theorem notice_sensors : (p.notice).sensors = p.sensors := rfl
@[simp] theorem notice_gates : (p.notice).gates = p.gates := rfl
@[simp] theorem notice_tables : (p.notice).tables = p.tables := rfl
@[simp] theorem notice_planner : (p.notice).planner = p.planner := rfl
@[simp] theorem notice_groups : (p.notice).groups = p.groups := rfl
@[simp] theorem notice_feeders : (p.notice).feeders = p.feeders := rfl
@[simp] theorem notice_arbiter : (p.notice).arbiter = p.arbiter := rfl
@[simp] theorem notice_track : (p.notice).track = p.track := rfl
@[simp] theorem notice_cue : (p.notice).cue = p.cue := rfl
@[simp] theorem notice_loop : (p.notice).loop = p.loop := rfl
@[simp] theorem notice_acc : (p.notice).acc = p.acc := rfl
@[simp] theorem notice_stacker : (p.notice).stacker = p.stacker := rfl
@[simp] theorem notice_ctl : (p.notice).ctl = p.ctl := rfl
@[simp] theorem notice_link : (p.notice).link = p.link := rfl
@[simp] theorem notice_sent : (p.notice).sent = p.sent := rfl
@[simp] theorem notice_freeIndex : (p.notice).freeIndex = p.freeIndex := rfl
@[simp] theorem notice_attentionDue : (p.notice).attentionDue = true := rfl

@[simp] theorem mapSheet_clock (n : Half) (f : Sheet → Sheet) : (p.mapSheet n f).clock = p.clock := rfl
@[simp] theorem mapSheet_sensors (n : Half) (f : Sheet → Sheet) : (p.mapSheet n f).sensors = p.sensors := rfl
@[simp] theorem mapSheet_gates (n : Half) (f : Sheet → Sheet) : (p.mapSheet n f).gates = p.gates := rfl
@[simp] theorem mapSheet_tables (n : Half) (f : Sheet → Sheet) : (p.mapSheet n f).tables = p.tables := rfl
@[simp] theorem mapSheet_planner (n : Half) (f : Sheet → Sheet) : (p.mapSheet n f).planner = p.planner := rfl
@[simp] theorem mapSheet_groups (n : Half) (f : Sheet → Sheet) : (p.mapSheet n f).groups = p.groups := rfl
@[simp] theorem mapSheet_feeders (n : Half) (f : Sheet → Sheet) : (p.mapSheet n f).feeders = p.feeders := rfl
@[simp] theorem mapSheet_arbiter (n : Half) (f : Sheet → Sheet) : (p.mapSheet n f).arbiter = p.arbiter := rfl
@[simp] theorem mapSheet_cue (n : Half) (f : Sheet → Sheet) : (p.mapSheet n f).cue = p.cue := rfl
@[simp] theorem mapSheet_loop (n : Half) (f : Sheet → Sheet) : (p.mapSheet n f).loop = p.loop := rfl
@[simp] theorem mapSheet_acc (n : Half) (f : Sheet → Sheet) : (p.mapSheet n f).acc = p.acc := rfl
@[simp] theorem mapSheet_stacker (n : Half) (f : Sheet → Sheet) : (p.mapSheet n f).stacker = p.stacker := rfl
@[simp] theorem mapSheet_ctl (n : Half) (f : Sheet → Sheet) : (p.mapSheet n f).ctl = p.ctl := rfl
@[simp] theorem mapSheet_link (n : Half) (f : Sheet → Sheet) : (p.mapSheet n f).link = p.link := rfl
@[simp] theorem mapSheet_sent (n : Half) (f : Sheet → Sheet) : (p.mapSheet n f).sent = p.sent := rfl
@[simp] theorem mapSheet_attentionDue (n : Half) (f : Sheet → Sheet) : (p.mapSheet n f).attentionDue = p.attentionDue := rfl
@[simp] theorem mapSheet_freeIndex (n : Half) (f : Sheet → Sheet) : (p.mapSheet n f).freeIndex = p.freeIndex := rfl
@[simp] theorem mapSheet_track_sheets (n : Half) (f : Sheet → Sheet) : (p.mapSheet n f).track.sheets = p.track.sheets.map fun s => if s.seq == n then f s else s := rfl
@[simp] theorem mapSheet_track_nextSeq (n : Half) (f : Sheet → Sheet) : (p.mapSheet n f).track.nextSeq = p.track.nextSeq := rfl
@[simp] theorem mapSheet_track_gauge (n : Half) (f : Sheet → Sheet) : (p.mapSheet n f).track.gauge = p.track.gauge := rfl
@[simp] theorem mapSheet_track_anomalies (n : Half) (f : Sheet → Sheet) : (p.mapSheet n f).track.anomalies = p.track.anomalies := rfl

@[simp] theorem mapGroup_clock (k : GroupKey) (f : Group → Group) : (p.mapGroup k f).clock = p.clock := rfl
@[simp] theorem mapGroup_sensors (k : GroupKey) (f : Group → Group) : (p.mapGroup k f).sensors = p.sensors := rfl
@[simp] theorem mapGroup_gates (k : GroupKey) (f : Group → Group) : (p.mapGroup k f).gates = p.gates := rfl
@[simp] theorem mapGroup_tables (k : GroupKey) (f : Group → Group) : (p.mapGroup k f).tables = p.tables := rfl
@[simp] theorem mapGroup_planner (k : GroupKey) (f : Group → Group) : (p.mapGroup k f).planner = p.planner := rfl
@[simp] theorem mapGroup_feeders (k : GroupKey) (f : Group → Group) : (p.mapGroup k f).feeders = p.feeders := rfl
@[simp] theorem mapGroup_arbiter (k : GroupKey) (f : Group → Group) : (p.mapGroup k f).arbiter = p.arbiter := rfl
@[simp] theorem mapGroup_track (k : GroupKey) (f : Group → Group) : (p.mapGroup k f).track = p.track := rfl
@[simp] theorem mapGroup_cue (k : GroupKey) (f : Group → Group) : (p.mapGroup k f).cue = p.cue := rfl
@[simp] theorem mapGroup_loop (k : GroupKey) (f : Group → Group) : (p.mapGroup k f).loop = p.loop := rfl
@[simp] theorem mapGroup_acc (k : GroupKey) (f : Group → Group) : (p.mapGroup k f).acc = p.acc := rfl
@[simp] theorem mapGroup_stacker (k : GroupKey) (f : Group → Group) : (p.mapGroup k f).stacker = p.stacker := rfl
@[simp] theorem mapGroup_ctl (k : GroupKey) (f : Group → Group) : (p.mapGroup k f).ctl = p.ctl := rfl
@[simp] theorem mapGroup_link (k : GroupKey) (f : Group → Group) : (p.mapGroup k f).link = p.link := rfl
@[simp] theorem mapGroup_sent (k : GroupKey) (f : Group → Group) : (p.mapGroup k f).sent = p.sent := rfl
@[simp] theorem mapGroup_attentionDue (k : GroupKey) (f : Group → Group) : (p.mapGroup k f).attentionDue = p.attentionDue := rfl
@[simp] theorem mapGroup_freeIndex (k : GroupKey) (f : Group → Group) : (p.mapGroup k f).freeIndex = p.freeIndex := rfl
@[simp] theorem mapGroup_groups_entries (k : GroupKey) (f : Group → Group) : (p.mapGroup k f).groups.entries = p.groups.entries.map fun g => if g.key == k then f g else g := rfl
@[simp] theorem mapGroup_groups_nextKey (k : GroupKey) (f : Group → Group) : (p.mapGroup k f).groups.nextKey = p.groups.nextKey := rfl

@[simp] theorem mapFeeder_clock (t : TrayId) (f : Feeder → Feeder) : (p.mapFeeder t f).clock = p.clock := rfl
@[simp] theorem mapFeeder_sensors (t : TrayId) (f : Feeder → Feeder) : (p.mapFeeder t f).sensors = p.sensors := rfl
@[simp] theorem mapFeeder_gates (t : TrayId) (f : Feeder → Feeder) : (p.mapFeeder t f).gates = p.gates := rfl
@[simp] theorem mapFeeder_tables (t : TrayId) (f : Feeder → Feeder) : (p.mapFeeder t f).tables = p.tables := rfl
@[simp] theorem mapFeeder_planner (t : TrayId) (f : Feeder → Feeder) : (p.mapFeeder t f).planner = p.planner := rfl
@[simp] theorem mapFeeder_groups (t : TrayId) (f : Feeder → Feeder) : (p.mapFeeder t f).groups = p.groups := rfl
@[simp] theorem mapFeeder_arbiter (t : TrayId) (f : Feeder → Feeder) : (p.mapFeeder t f).arbiter = p.arbiter := rfl
@[simp] theorem mapFeeder_track (t : TrayId) (f : Feeder → Feeder) : (p.mapFeeder t f).track = p.track := rfl
@[simp] theorem mapFeeder_cue (t : TrayId) (f : Feeder → Feeder) : (p.mapFeeder t f).cue = p.cue := rfl
@[simp] theorem mapFeeder_loop (t : TrayId) (f : Feeder → Feeder) : (p.mapFeeder t f).loop = p.loop := rfl
@[simp] theorem mapFeeder_acc (t : TrayId) (f : Feeder → Feeder) : (p.mapFeeder t f).acc = p.acc := rfl
@[simp] theorem mapFeeder_stacker (t : TrayId) (f : Feeder → Feeder) : (p.mapFeeder t f).stacker = p.stacker := rfl
@[simp] theorem mapFeeder_ctl (t : TrayId) (f : Feeder → Feeder) : (p.mapFeeder t f).ctl = p.ctl := rfl
@[simp] theorem mapFeeder_link (t : TrayId) (f : Feeder → Feeder) : (p.mapFeeder t f).link = p.link := rfl
@[simp] theorem mapFeeder_sent (t : TrayId) (f : Feeder → Feeder) : (p.mapFeeder t f).sent = p.sent := rfl
@[simp] theorem mapFeeder_attentionDue (t : TrayId) (f : Feeder → Feeder) : (p.mapFeeder t f).attentionDue = p.attentionDue := rfl
@[simp] theorem mapFeeder_freeIndex (t : TrayId) (f : Feeder → Feeder) : (p.mapFeeder t f).freeIndex = p.freeIndex := rfl
@[simp] theorem mapFeeder_feeders (t : TrayId) (f : Feeder → Feeder) : (p.mapFeeder t f).feeders = p.feeders.set t (f (p.feeders.get t)) := rfl

@[simp] theorem anomaly_clock : (p.anomaly).clock = p.clock := rfl
@[simp] theorem anomaly_sensors : (p.anomaly).sensors = p.sensors := rfl
@[simp] theorem anomaly_gates : (p.anomaly).gates = p.gates := rfl
@[simp] theorem anomaly_tables : (p.anomaly).tables = p.tables := rfl
@[simp] theorem anomaly_planner : (p.anomaly).planner = p.planner := rfl
@[simp] theorem anomaly_groups : (p.anomaly).groups = p.groups := rfl
@[simp] theorem anomaly_feeders : (p.anomaly).feeders = p.feeders := rfl
@[simp] theorem anomaly_arbiter : (p.anomaly).arbiter = p.arbiter := rfl
@[simp] theorem anomaly_cue : (p.anomaly).cue = p.cue := rfl
@[simp] theorem anomaly_loop : (p.anomaly).loop = p.loop := rfl
@[simp] theorem anomaly_acc : (p.anomaly).acc = p.acc := rfl
@[simp] theorem anomaly_stacker : (p.anomaly).stacker = p.stacker := rfl
@[simp] theorem anomaly_ctl : (p.anomaly).ctl = p.ctl := rfl
@[simp] theorem anomaly_link : (p.anomaly).link = p.link := rfl
@[simp] theorem anomaly_sent : (p.anomaly).sent = p.sent := rfl
@[simp] theorem anomaly_attentionDue : (p.anomaly).attentionDue = p.attentionDue := rfl
@[simp] theorem anomaly_freeIndex : (p.anomaly).freeIndex = p.freeIndex := rfl
@[simp] theorem anomaly_track_sheets : (p.anomaly).track.sheets = p.track.sheets := rfl
@[simp] theorem anomaly_track_nextSeq : (p.anomaly).track.nextSeq = p.track.nextSeq := rfl
@[simp] theorem anomaly_track_gauge : (p.anomaly).track.gauge = p.track.gauge := rfl
@[simp] theorem anomaly_track_anomalies : (p.anomaly).track.anomalies = min 65535 (p.track.anomalies + 1) := rfl

@[simp] theorem appendReport_clock (r : Report) : (p.appendReport r).clock = p.clock := rfl
@[simp] theorem appendReport_sensors (r : Report) : (p.appendReport r).sensors = p.sensors := rfl
@[simp] theorem appendReport_gates (r : Report) : (p.appendReport r).gates = p.gates := rfl
@[simp] theorem appendReport_tables (r : Report) : (p.appendReport r).tables = p.tables := rfl
@[simp] theorem appendReport_planner (r : Report) : (p.appendReport r).planner = p.planner := rfl
@[simp] theorem appendReport_groups (r : Report) : (p.appendReport r).groups = p.groups := rfl
@[simp] theorem appendReport_feeders (r : Report) : (p.appendReport r).feeders = p.feeders := rfl
@[simp] theorem appendReport_arbiter (r : Report) : (p.appendReport r).arbiter = p.arbiter := rfl
@[simp] theorem appendReport_track (r : Report) : (p.appendReport r).track = p.track := rfl
@[simp] theorem appendReport_cue (r : Report) : (p.appendReport r).cue = p.cue := rfl
@[simp] theorem appendReport_loop (r : Report) : (p.appendReport r).loop = p.loop := rfl
@[simp] theorem appendReport_acc (r : Report) : (p.appendReport r).acc = p.acc := rfl
@[simp] theorem appendReport_stacker (r : Report) : (p.appendReport r).stacker = p.stacker := rfl
@[simp] theorem appendReport_ctl (r : Report) : (p.appendReport r).ctl = p.ctl := rfl
@[simp] theorem appendReport_sent (r : Report) : (p.appendReport r).sent = p.sent := rfl
@[simp] theorem appendReport_attentionDue (r : Report) : (p.appendReport r).attentionDue = p.attentionDue := rfl
@[simp] theorem appendReport_freeIndex (r : Report) : (p.appendReport r).freeIndex = p.freeIndex := rfl
@[simp] theorem appendReport_link_reports (r : Report) : (p.appendReport r).link.reports = p.link.reports ++ [r] := rfl
@[simp] theorem appendReport_link_orders (r : Report) : (p.appendReport r).link.orders = p.link.orders := rfl
@[simp] theorem appendReport_link_framer (r : Report) : (p.appendReport r).link.framer = p.link.framer := rfl
@[simp] theorem appendReport_link_taken (r : Report) : (p.appendReport r).link.taken = p.link.taken := rfl
@[simp] theorem appendReport_link_pendingLoad (r : Report) : (p.appendReport r).link.pendingLoad = p.link.pendingLoad := rfl
@[simp] theorem appendReport_link_transmitting (r : Report) : (p.appendReport r).link.transmitting = p.link.transmitting := rfl
@[simp] theorem appendReport_link_returnReady (r : Report) : (p.appendReport r).link.returnReady = p.link.returnReady := rfl
@[simp] theorem appendReport_link_held (r : Report) : (p.appendReport r).link.held = p.link.held := rfl
@[simp] theorem appendReport_link_waiting (r : Report) : (p.appendReport r).link.waiting = p.link.waiting := rfl

@[simp] theorem dropHead_clock : (p.dropHead).clock = p.clock := rfl
@[simp] theorem dropHead_sensors : (p.dropHead).sensors = p.sensors := rfl
@[simp] theorem dropHead_gates : (p.dropHead).gates = p.gates := rfl
@[simp] theorem dropHead_tables : (p.dropHead).tables = p.tables := rfl
@[simp] theorem dropHead_planner : (p.dropHead).planner = p.planner := rfl
@[simp] theorem dropHead_groups : (p.dropHead).groups = p.groups := rfl
@[simp] theorem dropHead_feeders : (p.dropHead).feeders = p.feeders := rfl
@[simp] theorem dropHead_arbiter : (p.dropHead).arbiter = p.arbiter := rfl
@[simp] theorem dropHead_track : (p.dropHead).track = p.track := rfl
@[simp] theorem dropHead_cue : (p.dropHead).cue = p.cue := rfl
@[simp] theorem dropHead_loop : (p.dropHead).loop = p.loop := rfl
@[simp] theorem dropHead_acc : (p.dropHead).acc = p.acc := rfl
@[simp] theorem dropHead_stacker : (p.dropHead).stacker = p.stacker := rfl
@[simp] theorem dropHead_ctl : (p.dropHead).ctl = p.ctl := rfl
@[simp] theorem dropHead_sent : (p.dropHead).sent = p.sent := rfl
@[simp] theorem dropHead_attentionDue : (p.dropHead).attentionDue = p.attentionDue := rfl
@[simp] theorem dropHead_freeIndex : (p.dropHead).freeIndex = p.freeIndex := rfl
@[simp] theorem dropHead_link_orders : (p.dropHead).link.orders = p.link.orders.tail := rfl
@[simp] theorem dropHead_link_reports : (p.dropHead).link.reports = p.link.reports := rfl
@[simp] theorem dropHead_link_framer : (p.dropHead).link.framer = p.link.framer := rfl
@[simp] theorem dropHead_link_taken : (p.dropHead).link.taken = p.link.taken := rfl
@[simp] theorem dropHead_link_pendingLoad : (p.dropHead).link.pendingLoad = p.link.pendingLoad := rfl
@[simp] theorem dropHead_link_transmitting : (p.dropHead).link.transmitting = p.link.transmitting := rfl
@[simp] theorem dropHead_link_returnReady : (p.dropHead).link.returnReady = p.link.returnReady := rfl
@[simp] theorem dropHead_link_held : (p.dropHead).link.held = p.link.held := rfl
@[simp] theorem dropHead_link_waiting : (p.dropHead).link.waiting = p.link.waiting := rfl

@[simp] theorem setTaken_clock (n : Nat) : (p.setTaken n).clock = p.clock := rfl
@[simp] theorem setTaken_sensors (n : Nat) : (p.setTaken n).sensors = p.sensors := rfl
@[simp] theorem setTaken_gates (n : Nat) : (p.setTaken n).gates = p.gates := rfl
@[simp] theorem setTaken_tables (n : Nat) : (p.setTaken n).tables = p.tables := rfl
@[simp] theorem setTaken_planner (n : Nat) : (p.setTaken n).planner = p.planner := rfl
@[simp] theorem setTaken_groups (n : Nat) : (p.setTaken n).groups = p.groups := rfl
@[simp] theorem setTaken_feeders (n : Nat) : (p.setTaken n).feeders = p.feeders := rfl
@[simp] theorem setTaken_arbiter (n : Nat) : (p.setTaken n).arbiter = p.arbiter := rfl
@[simp] theorem setTaken_track (n : Nat) : (p.setTaken n).track = p.track := rfl
@[simp] theorem setTaken_cue (n : Nat) : (p.setTaken n).cue = p.cue := rfl
@[simp] theorem setTaken_loop (n : Nat) : (p.setTaken n).loop = p.loop := rfl
@[simp] theorem setTaken_acc (n : Nat) : (p.setTaken n).acc = p.acc := rfl
@[simp] theorem setTaken_stacker (n : Nat) : (p.setTaken n).stacker = p.stacker := rfl
@[simp] theorem setTaken_ctl (n : Nat) : (p.setTaken n).ctl = p.ctl := rfl
@[simp] theorem setTaken_sent (n : Nat) : (p.setTaken n).sent = p.sent := rfl
@[simp] theorem setTaken_attentionDue (n : Nat) : (p.setTaken n).attentionDue = p.attentionDue := rfl
@[simp] theorem setTaken_freeIndex (n : Nat) : (p.setTaken n).freeIndex = p.freeIndex := rfl
@[simp] theorem setTaken_link (n : Nat) : (p.setTaken n).link = { p.link with taken := n } := rfl

@[simp] theorem setPendingLoad_clock (c : Option PendingLoad) : (p.setPendingLoad c).clock = p.clock := rfl
@[simp] theorem setPendingLoad_sensors (c : Option PendingLoad) : (p.setPendingLoad c).sensors = p.sensors := rfl
@[simp] theorem setPendingLoad_gates (c : Option PendingLoad) : (p.setPendingLoad c).gates = p.gates := rfl
@[simp] theorem setPendingLoad_tables (c : Option PendingLoad) : (p.setPendingLoad c).tables = p.tables := rfl
@[simp] theorem setPendingLoad_planner (c : Option PendingLoad) : (p.setPendingLoad c).planner = p.planner := rfl
@[simp] theorem setPendingLoad_groups (c : Option PendingLoad) : (p.setPendingLoad c).groups = p.groups := rfl
@[simp] theorem setPendingLoad_feeders (c : Option PendingLoad) : (p.setPendingLoad c).feeders = p.feeders := rfl
@[simp] theorem setPendingLoad_arbiter (c : Option PendingLoad) : (p.setPendingLoad c).arbiter = p.arbiter := rfl
@[simp] theorem setPendingLoad_track (c : Option PendingLoad) : (p.setPendingLoad c).track = p.track := rfl
@[simp] theorem setPendingLoad_cue (c : Option PendingLoad) : (p.setPendingLoad c).cue = p.cue := rfl
@[simp] theorem setPendingLoad_loop (c : Option PendingLoad) : (p.setPendingLoad c).loop = p.loop := rfl
@[simp] theorem setPendingLoad_acc (c : Option PendingLoad) : (p.setPendingLoad c).acc = p.acc := rfl
@[simp] theorem setPendingLoad_stacker (c : Option PendingLoad) : (p.setPendingLoad c).stacker = p.stacker := rfl
@[simp] theorem setPendingLoad_ctl (c : Option PendingLoad) : (p.setPendingLoad c).ctl = p.ctl := rfl
@[simp] theorem setPendingLoad_sent (c : Option PendingLoad) : (p.setPendingLoad c).sent = p.sent := rfl
@[simp] theorem setPendingLoad_attentionDue (c : Option PendingLoad) : (p.setPendingLoad c).attentionDue = p.attentionDue := rfl
@[simp] theorem setPendingLoad_freeIndex (c : Option PendingLoad) : (p.setPendingLoad c).freeIndex = p.freeIndex := rfl
@[simp] theorem setPendingLoad_link (c : Option PendingLoad) : (p.setPendingLoad c).link = { p.link with pendingLoad := c } := rfl

@[simp] theorem noticed_clock : (p.noticed).clock = p.clock := rfl
@[simp] theorem noticed_sensors : (p.noticed).sensors = p.sensors := rfl
@[simp] theorem noticed_gates : (p.noticed).gates = p.gates := rfl
@[simp] theorem noticed_tables : (p.noticed).tables = p.tables := rfl
@[simp] theorem noticed_planner : (p.noticed).planner = p.planner := rfl
@[simp] theorem noticed_groups : (p.noticed).groups = p.groups := rfl
@[simp] theorem noticed_feeders : (p.noticed).feeders = p.feeders := rfl
@[simp] theorem noticed_arbiter : (p.noticed).arbiter = p.arbiter := rfl
@[simp] theorem noticed_track : (p.noticed).track = p.track := rfl
@[simp] theorem noticed_cue : (p.noticed).cue = p.cue := rfl
@[simp] theorem noticed_loop : (p.noticed).loop = p.loop := rfl
@[simp] theorem noticed_acc : (p.noticed).acc = p.acc := rfl
@[simp] theorem noticed_stacker : (p.noticed).stacker = p.stacker := rfl
@[simp] theorem noticed_ctl : (p.noticed).ctl = p.ctl := rfl
@[simp] theorem noticed_link : (p.noticed).link = p.link := rfl
@[simp] theorem noticed_sent : (p.noticed).sent = p.sent := rfl
@[simp] theorem noticed_freeIndex : (p.noticed).freeIndex = p.freeIndex := rfl
@[simp] theorem noticed_attentionDue : (p.noticed).attentionDue = false := rfl

@[simp] theorem dropSweepClass_clock : (p.dropSweepClass).clock = p.clock := rfl
@[simp] theorem dropSweepClass_sensors : (p.dropSweepClass).sensors = p.sensors := rfl
@[simp] theorem dropSweepClass_gates : (p.dropSweepClass).gates = p.gates := rfl
@[simp] theorem dropSweepClass_tables : (p.dropSweepClass).tables = p.tables := rfl
@[simp] theorem dropSweepClass_planner : (p.dropSweepClass).planner = p.planner := rfl
@[simp] theorem dropSweepClass_groups : (p.dropSweepClass).groups = p.groups := rfl
@[simp] theorem dropSweepClass_feeders : (p.dropSweepClass).feeders = p.feeders := rfl
@[simp] theorem dropSweepClass_arbiter : (p.dropSweepClass).arbiter = p.arbiter := rfl
@[simp] theorem dropSweepClass_track : (p.dropSweepClass).track = p.track := rfl
@[simp] theorem dropSweepClass_cue : (p.dropSweepClass).cue = p.cue := rfl
@[simp] theorem dropSweepClass_loop : (p.dropSweepClass).loop = p.loop := rfl
@[simp] theorem dropSweepClass_acc : (p.dropSweepClass).acc = p.acc := rfl
@[simp] theorem dropSweepClass_stacker : (p.dropSweepClass).stacker = p.stacker := rfl
@[simp] theorem dropSweepClass_link : (p.dropSweepClass).link = p.link := rfl
@[simp] theorem dropSweepClass_sent : (p.dropSweepClass).sent = p.sent := rfl
@[simp] theorem dropSweepClass_attentionDue : (p.dropSweepClass).attentionDue = p.attentionDue := rfl
@[simp] theorem dropSweepClass_freeIndex : (p.dropSweepClass).freeIndex = p.freeIndex := rfl
@[simp] theorem dropSweepClass_ctl : (p.dropSweepClass).ctl = { p.ctl with sweepClass := none } := rfl

@[simp] theorem clearOpen_clock : (p.clearOpen).clock = p.clock := rfl
@[simp] theorem clearOpen_sensors : (p.clearOpen).sensors = p.sensors := rfl
@[simp] theorem clearOpen_gates : (p.clearOpen).gates = p.gates := rfl
@[simp] theorem clearOpen_tables : (p.clearOpen).tables = p.tables := rfl
@[simp] theorem clearOpen_groups : (p.clearOpen).groups = p.groups := rfl
@[simp] theorem clearOpen_feeders : (p.clearOpen).feeders = p.feeders := rfl
@[simp] theorem clearOpen_arbiter : (p.clearOpen).arbiter = p.arbiter := rfl
@[simp] theorem clearOpen_track : (p.clearOpen).track = p.track := rfl
@[simp] theorem clearOpen_cue : (p.clearOpen).cue = p.cue := rfl
@[simp] theorem clearOpen_loop : (p.clearOpen).loop = p.loop := rfl
@[simp] theorem clearOpen_acc : (p.clearOpen).acc = p.acc := rfl
@[simp] theorem clearOpen_stacker : (p.clearOpen).stacker = p.stacker := rfl
@[simp] theorem clearOpen_ctl : (p.clearOpen).ctl = p.ctl := rfl
@[simp] theorem clearOpen_link : (p.clearOpen).link = p.link := rfl
@[simp] theorem clearOpen_sent : (p.clearOpen).sent = p.sent := rfl
@[simp] theorem clearOpen_attentionDue : (p.clearOpen).attentionDue = p.attentionDue := rfl
@[simp] theorem clearOpen_freeIndex : (p.clearOpen).freeIndex = p.freeIndex := rfl
@[simp] theorem clearOpen_planner : (p.clearOpen).planner = { p.planner with openGroup := none } := rfl

@[simp] theorem setOpen_clock (k : GroupKey) : (p.setOpen k).clock = p.clock := rfl
@[simp] theorem setOpen_sensors (k : GroupKey) : (p.setOpen k).sensors = p.sensors := rfl
@[simp] theorem setOpen_gates (k : GroupKey) : (p.setOpen k).gates = p.gates := rfl
@[simp] theorem setOpen_tables (k : GroupKey) : (p.setOpen k).tables = p.tables := rfl
@[simp] theorem setOpen_groups (k : GroupKey) : (p.setOpen k).groups = p.groups := rfl
@[simp] theorem setOpen_feeders (k : GroupKey) : (p.setOpen k).feeders = p.feeders := rfl
@[simp] theorem setOpen_arbiter (k : GroupKey) : (p.setOpen k).arbiter = p.arbiter := rfl
@[simp] theorem setOpen_track (k : GroupKey) : (p.setOpen k).track = p.track := rfl
@[simp] theorem setOpen_cue (k : GroupKey) : (p.setOpen k).cue = p.cue := rfl
@[simp] theorem setOpen_loop (k : GroupKey) : (p.setOpen k).loop = p.loop := rfl
@[simp] theorem setOpen_acc (k : GroupKey) : (p.setOpen k).acc = p.acc := rfl
@[simp] theorem setOpen_stacker (k : GroupKey) : (p.setOpen k).stacker = p.stacker := rfl
@[simp] theorem setOpen_ctl (k : GroupKey) : (p.setOpen k).ctl = p.ctl := rfl
@[simp] theorem setOpen_link (k : GroupKey) : (p.setOpen k).link = p.link := rfl
@[simp] theorem setOpen_sent (k : GroupKey) : (p.setOpen k).sent = p.sent := rfl
@[simp] theorem setOpen_attentionDue (k : GroupKey) : (p.setOpen k).attentionDue = p.attentionDue := rfl
@[simp] theorem setOpen_freeIndex (k : GroupKey) : (p.setOpen k).freeIndex = p.freeIndex := rfl
@[simp] theorem setOpen_planner (k : GroupKey) : (p.setOpen k).planner = { p.planner with openGroup := some k } := rfl

@[simp] theorem addGroup_clock (g : Group) : (p.addGroup g).clock = p.clock := rfl
@[simp] theorem addGroup_sensors (g : Group) : (p.addGroup g).sensors = p.sensors := rfl
@[simp] theorem addGroup_gates (g : Group) : (p.addGroup g).gates = p.gates := rfl
@[simp] theorem addGroup_tables (g : Group) : (p.addGroup g).tables = p.tables := rfl
@[simp] theorem addGroup_planner (g : Group) : (p.addGroup g).planner = p.planner := rfl
@[simp] theorem addGroup_feeders (g : Group) : (p.addGroup g).feeders = p.feeders := rfl
@[simp] theorem addGroup_arbiter (g : Group) : (p.addGroup g).arbiter = p.arbiter := rfl
@[simp] theorem addGroup_track (g : Group) : (p.addGroup g).track = p.track := rfl
@[simp] theorem addGroup_cue (g : Group) : (p.addGroup g).cue = p.cue := rfl
@[simp] theorem addGroup_loop (g : Group) : (p.addGroup g).loop = p.loop := rfl
@[simp] theorem addGroup_acc (g : Group) : (p.addGroup g).acc = p.acc := rfl
@[simp] theorem addGroup_stacker (g : Group) : (p.addGroup g).stacker = p.stacker := rfl
@[simp] theorem addGroup_ctl (g : Group) : (p.addGroup g).ctl = p.ctl := rfl
@[simp] theorem addGroup_link (g : Group) : (p.addGroup g).link = p.link := rfl
@[simp] theorem addGroup_sent (g : Group) : (p.addGroup g).sent = p.sent := rfl
@[simp] theorem addGroup_attentionDue (g : Group) : (p.addGroup g).attentionDue = p.attentionDue := rfl
@[simp] theorem addGroup_freeIndex (g : Group) : (p.addGroup g).freeIndex = p.freeIndex := rfl
@[simp] theorem addGroup_groups (g : Group) : (p.addGroup g).groups = { entries := p.groups.entries ++ [g], nextKey := p.groups.nextKey + 1 } := rfl

@[simp] theorem reserve_clock (a : Allowance) : (p.reserve a).clock = p.clock := rfl
@[simp] theorem reserve_sensors (a : Allowance) : (p.reserve a).sensors = p.sensors := rfl
@[simp] theorem reserve_gates (a : Allowance) : (p.reserve a).gates = p.gates := rfl
@[simp] theorem reserve_tables (a : Allowance) : (p.reserve a).tables = p.tables := rfl
@[simp] theorem reserve_planner (a : Allowance) : (p.reserve a).planner = p.planner := rfl
@[simp] theorem reserve_groups (a : Allowance) : (p.reserve a).groups = p.groups := rfl
@[simp] theorem reserve_feeders (a : Allowance) : (p.reserve a).feeders = p.feeders := rfl
@[simp] theorem reserve_arbiter (a : Allowance) : (p.reserve a).arbiter = p.arbiter := rfl
@[simp] theorem reserve_track (a : Allowance) : (p.reserve a).track = p.track := rfl
@[simp] theorem reserve_cue (a : Allowance) : (p.reserve a).cue = p.cue := rfl
@[simp] theorem reserve_loop (a : Allowance) : (p.reserve a).loop = p.loop := rfl
@[simp] theorem reserve_acc (a : Allowance) : (p.reserve a).acc = p.acc := rfl
@[simp] theorem reserve_ctl (a : Allowance) : (p.reserve a).ctl = p.ctl := rfl
@[simp] theorem reserve_link (a : Allowance) : (p.reserve a).link = p.link := rfl
@[simp] theorem reserve_sent (a : Allowance) : (p.reserve a).sent = p.sent := rfl
@[simp] theorem reserve_attentionDue (a : Allowance) : (p.reserve a).attentionDue = p.attentionDue := rfl
@[simp] theorem reserve_freeIndex (a : Allowance) : (p.reserve a).freeIndex = p.freeIndex := rfl
@[simp] theorem reserve_stacker (a : Allowance) : (p.reserve a).stacker = { p.stacker with allowances := p.stacker.allowances ++ [a] } := rfl

@[simp] theorem discardSampling_clock : (p.discardSampling).clock = p.clock := rfl
@[simp] theorem discardSampling_sensors : (p.discardSampling).sensors = p.sensors := rfl
@[simp] theorem discardSampling_gates : (p.discardSampling).gates = p.gates := rfl
@[simp] theorem discardSampling_tables : (p.discardSampling).tables = p.tables := rfl
@[simp] theorem discardSampling_planner : (p.discardSampling).planner = p.planner := rfl
@[simp] theorem discardSampling_groups : (p.discardSampling).groups = p.groups := rfl
@[simp] theorem discardSampling_feeders : (p.discardSampling).feeders = p.feeders := rfl
@[simp] theorem discardSampling_arbiter : (p.discardSampling).arbiter = p.arbiter := rfl
@[simp] theorem discardSampling_cue : (p.discardSampling).cue = p.cue := rfl
@[simp] theorem discardSampling_loop : (p.discardSampling).loop = p.loop := rfl
@[simp] theorem discardSampling_acc : (p.discardSampling).acc = p.acc := rfl
@[simp] theorem discardSampling_stacker : (p.discardSampling).stacker = p.stacker := rfl
@[simp] theorem discardSampling_ctl : (p.discardSampling).ctl = p.ctl := rfl
@[simp] theorem discardSampling_link : (p.discardSampling).link = p.link := rfl
@[simp] theorem discardSampling_sent : (p.discardSampling).sent = p.sent := rfl
@[simp] theorem discardSampling_attentionDue : (p.discardSampling).attentionDue = p.attentionDue := rfl
@[simp] theorem discardSampling_freeIndex : (p.discardSampling).freeIndex = p.freeIndex := rfl
@[simp] theorem discardSampling_track_sheets : (p.discardSampling).track.sheets = p.track.sheets.map Sheet.discardSampling := rfl
@[simp] theorem discardSampling_track_nextSeq : (p.discardSampling).track.nextSeq = p.track.nextSeq := rfl
@[simp] theorem discardSampling_track_gauge : (p.discardSampling).track.gauge = p.track.gauge := rfl
@[simp] theorem discardSampling_track_anomalies : (p.discardSampling).track.anomalies = p.track.anomalies := rfl

@[simp] theorem dropPickDeadlines_clock : (p.dropPickDeadlines).clock = p.clock := rfl
@[simp] theorem dropPickDeadlines_sensors : (p.dropPickDeadlines).sensors = p.sensors := rfl
@[simp] theorem dropPickDeadlines_gates : (p.dropPickDeadlines).gates = p.gates := rfl
@[simp] theorem dropPickDeadlines_tables : (p.dropPickDeadlines).tables = p.tables := rfl
@[simp] theorem dropPickDeadlines_planner : (p.dropPickDeadlines).planner = p.planner := rfl
@[simp] theorem dropPickDeadlines_groups : (p.dropPickDeadlines).groups = p.groups := rfl
@[simp] theorem dropPickDeadlines_arbiter : (p.dropPickDeadlines).arbiter = p.arbiter := rfl
@[simp] theorem dropPickDeadlines_track : (p.dropPickDeadlines).track = p.track := rfl
@[simp] theorem dropPickDeadlines_cue : (p.dropPickDeadlines).cue = p.cue := rfl
@[simp] theorem dropPickDeadlines_loop : (p.dropPickDeadlines).loop = p.loop := rfl
@[simp] theorem dropPickDeadlines_acc : (p.dropPickDeadlines).acc = p.acc := rfl
@[simp] theorem dropPickDeadlines_stacker : (p.dropPickDeadlines).stacker = p.stacker := rfl
@[simp] theorem dropPickDeadlines_ctl : (p.dropPickDeadlines).ctl = p.ctl := rfl
@[simp] theorem dropPickDeadlines_link : (p.dropPickDeadlines).link = p.link := rfl
@[simp] theorem dropPickDeadlines_sent : (p.dropPickDeadlines).sent = p.sent := rfl
@[simp] theorem dropPickDeadlines_attentionDue : (p.dropPickDeadlines).attentionDue = p.attentionDue := rfl
@[simp] theorem dropPickDeadlines_freeIndex : (p.dropPickDeadlines).freeIndex = p.freeIndex := rfl
@[simp] theorem dropPickDeadlines_feeders : (p.dropPickDeadlines).feeders = p.feeders.map fun f => { f with deadline := none } := rfl

@[simp] theorem disarmWatch_sensors : (p.disarmWatch).sensors = p.sensors := rfl
@[simp] theorem disarmWatch_gates : (p.disarmWatch).gates = p.gates := rfl
@[simp] theorem disarmWatch_tables : (p.disarmWatch).tables = p.tables := rfl
@[simp] theorem disarmWatch_planner : (p.disarmWatch).planner = p.planner := rfl
@[simp] theorem disarmWatch_groups : (p.disarmWatch).groups = p.groups := rfl
@[simp] theorem disarmWatch_feeders : (p.disarmWatch).feeders = p.feeders := rfl
@[simp] theorem disarmWatch_arbiter : (p.disarmWatch).arbiter = p.arbiter := rfl
@[simp] theorem disarmWatch_track : (p.disarmWatch).track = p.track := rfl
@[simp] theorem disarmWatch_cue : (p.disarmWatch).cue = p.cue := rfl
@[simp] theorem disarmWatch_loop : (p.disarmWatch).loop = p.loop := rfl
@[simp] theorem disarmWatch_acc : (p.disarmWatch).acc = p.acc := rfl
@[simp] theorem disarmWatch_stacker : (p.disarmWatch).stacker = p.stacker := rfl
@[simp] theorem disarmWatch_ctl : (p.disarmWatch).ctl = p.ctl := rfl
@[simp] theorem disarmWatch_link : (p.disarmWatch).link = p.link := rfl
@[simp] theorem disarmWatch_sent : (p.disarmWatch).sent = p.sent := rfl
@[simp] theorem disarmWatch_attentionDue : (p.disarmWatch).attentionDue = p.attentionDue := rfl
@[simp] theorem disarmWatch_freeIndex : (p.disarmWatch).freeIndex = p.freeIndex := rfl
@[simp] theorem disarmWatch_clock : (p.disarmWatch).clock = { p.clock with watchArmed := false } := rfl

@[simp] theorem setTransport_clock (x : TransportState) : (p.setTransport x).clock = p.clock := rfl
@[simp] theorem setTransport_sensors (x : TransportState) : (p.setTransport x).sensors = p.sensors := rfl
@[simp] theorem setTransport_gates (x : TransportState) : (p.setTransport x).gates = p.gates := rfl
@[simp] theorem setTransport_tables (x : TransportState) : (p.setTransport x).tables = p.tables := rfl
@[simp] theorem setTransport_planner (x : TransportState) : (p.setTransport x).planner = p.planner := rfl
@[simp] theorem setTransport_groups (x : TransportState) : (p.setTransport x).groups = p.groups := rfl
@[simp] theorem setTransport_feeders (x : TransportState) : (p.setTransport x).feeders = p.feeders := rfl
@[simp] theorem setTransport_arbiter (x : TransportState) : (p.setTransport x).arbiter = p.arbiter := rfl
@[simp] theorem setTransport_track (x : TransportState) : (p.setTransport x).track = p.track := rfl
@[simp] theorem setTransport_cue (x : TransportState) : (p.setTransport x).cue = p.cue := rfl
@[simp] theorem setTransport_loop (x : TransportState) : (p.setTransport x).loop = p.loop := rfl
@[simp] theorem setTransport_acc (x : TransportState) : (p.setTransport x).acc = p.acc := rfl
@[simp] theorem setTransport_stacker (x : TransportState) : (p.setTransport x).stacker = p.stacker := rfl
@[simp] theorem setTransport_link (x : TransportState) : (p.setTransport x).link = p.link := rfl
@[simp] theorem setTransport_sent (x : TransportState) : (p.setTransport x).sent = p.sent := rfl
@[simp] theorem setTransport_attentionDue (x : TransportState) : (p.setTransport x).attentionDue = p.attentionDue := rfl
@[simp] theorem setTransport_freeIndex (x : TransportState) : (p.setTransport x).freeIndex = p.freeIndex := rfl
@[simp] theorem setTransport_ctl (x : TransportState) : (p.setTransport x).ctl = { p.ctl with state := x } := rfl

@[simp] theorem dropTimed_clock : (p.dropTimed).clock = p.clock := rfl
@[simp] theorem dropTimed_sensors : (p.dropTimed).sensors = p.sensors := rfl
@[simp] theorem dropTimed_gates : (p.dropTimed).gates = p.gates := rfl
@[simp] theorem dropTimed_tables : (p.dropTimed).tables = p.tables := rfl
@[simp] theorem dropTimed_planner : (p.dropTimed).planner = p.planner := rfl
@[simp] theorem dropTimed_groups : (p.dropTimed).groups = p.groups := rfl
@[simp] theorem dropTimed_feeders : (p.dropTimed).feeders = p.feeders := rfl
@[simp] theorem dropTimed_arbiter : (p.dropTimed).arbiter = p.arbiter := rfl
@[simp] theorem dropTimed_track : (p.dropTimed).track = p.track := rfl
@[simp] theorem dropTimed_cue : (p.dropTimed).cue = p.cue := rfl
@[simp] theorem dropTimed_loop : (p.dropTimed).loop = p.loop := rfl
@[simp] theorem dropTimed_acc : (p.dropTimed).acc = p.acc := rfl
@[simp] theorem dropTimed_stacker : (p.dropTimed).stacker = p.stacker := rfl
@[simp] theorem dropTimed_link : (p.dropTimed).link = p.link := rfl
@[simp] theorem dropTimed_sent : (p.dropTimed).sent = p.sent := rfl
@[simp] theorem dropTimed_attentionDue : (p.dropTimed).attentionDue = p.attentionDue := rfl
@[simp] theorem dropTimed_freeIndex : (p.dropTimed).freeIndex = p.freeIndex := rfl
@[simp] theorem dropTimed_ctl : (p.dropTimed).ctl = { p.ctl with drainReason := none, warmupEnd := none, runEnd := none, runEndReached := false } := rfl

@[simp] theorem clearSet_clock : (p.clearSet).clock = p.clock := rfl
@[simp] theorem clearSet_sensors : (p.clearSet).sensors = p.sensors := rfl
@[simp] theorem clearSet_gates : (p.clearSet).gates = p.gates := rfl
@[simp] theorem clearSet_tables : (p.clearSet).tables = p.tables := rfl
@[simp] theorem clearSet_planner : (p.clearSet).planner = p.planner := rfl
@[simp] theorem clearSet_groups : (p.clearSet).groups = p.groups := rfl
@[simp] theorem clearSet_feeders : (p.clearSet).feeders = p.feeders := rfl
@[simp] theorem clearSet_arbiter : (p.clearSet).arbiter = p.arbiter := rfl
@[simp] theorem clearSet_track : (p.clearSet).track = p.track := rfl
@[simp] theorem clearSet_cue : (p.clearSet).cue = p.cue := rfl
@[simp] theorem clearSet_loop : (p.clearSet).loop = p.loop := rfl
@[simp] theorem clearSet_stacker : (p.clearSet).stacker = p.stacker := rfl
@[simp] theorem clearSet_ctl : (p.clearSet).ctl = p.ctl := rfl
@[simp] theorem clearSet_link : (p.clearSet).link = p.link := rfl
@[simp] theorem clearSet_sent : (p.clearSet).sent = p.sent := rfl
@[simp] theorem clearSet_attentionDue : (p.clearSet).attentionDue = p.attentionDue := rfl
@[simp] theorem clearSet_freeIndex : (p.clearSet).freeIndex = p.freeIndex := rfl
@[simp] theorem clearSet_acc : (p.clearSet).acc = { setGroup := none, sheets := [], eject := none } := rfl

@[simp] theorem setFramer_clock (f : Framer) : (p.setFramer f).clock = p.clock := rfl
@[simp] theorem setFramer_sensors (f : Framer) : (p.setFramer f).sensors = p.sensors := rfl
@[simp] theorem setFramer_gates (f : Framer) : (p.setFramer f).gates = p.gates := rfl
@[simp] theorem setFramer_tables (f : Framer) : (p.setFramer f).tables = p.tables := rfl
@[simp] theorem setFramer_planner (f : Framer) : (p.setFramer f).planner = p.planner := rfl
@[simp] theorem setFramer_groups (f : Framer) : (p.setFramer f).groups = p.groups := rfl
@[simp] theorem setFramer_feeders (f : Framer) : (p.setFramer f).feeders = p.feeders := rfl
@[simp] theorem setFramer_arbiter (f : Framer) : (p.setFramer f).arbiter = p.arbiter := rfl
@[simp] theorem setFramer_track (f : Framer) : (p.setFramer f).track = p.track := rfl
@[simp] theorem setFramer_cue (f : Framer) : (p.setFramer f).cue = p.cue := rfl
@[simp] theorem setFramer_loop (f : Framer) : (p.setFramer f).loop = p.loop := rfl
@[simp] theorem setFramer_acc (f : Framer) : (p.setFramer f).acc = p.acc := rfl
@[simp] theorem setFramer_stacker (f : Framer) : (p.setFramer f).stacker = p.stacker := rfl
@[simp] theorem setFramer_ctl (f : Framer) : (p.setFramer f).ctl = p.ctl := rfl
@[simp] theorem setFramer_sent (f : Framer) : (p.setFramer f).sent = p.sent := rfl
@[simp] theorem setFramer_attentionDue (f : Framer) : (p.setFramer f).attentionDue = p.attentionDue := rfl
@[simp] theorem setFramer_freeIndex (f : Framer) : (p.setFramer f).freeIndex = p.freeIndex := rfl
@[simp] theorem setFramer_link (f : Framer) : (p.setFramer f).link = { p.link with framer := f } := rfl

@[simp] theorem setReturnReady_clock (x : Bool) : (p.setReturnReady x).clock = p.clock := rfl
@[simp] theorem setReturnReady_sensors (x : Bool) : (p.setReturnReady x).sensors = p.sensors := rfl
@[simp] theorem setReturnReady_gates (x : Bool) : (p.setReturnReady x).gates = p.gates := rfl
@[simp] theorem setReturnReady_tables (x : Bool) : (p.setReturnReady x).tables = p.tables := rfl
@[simp] theorem setReturnReady_planner (x : Bool) : (p.setReturnReady x).planner = p.planner := rfl
@[simp] theorem setReturnReady_groups (x : Bool) : (p.setReturnReady x).groups = p.groups := rfl
@[simp] theorem setReturnReady_feeders (x : Bool) : (p.setReturnReady x).feeders = p.feeders := rfl
@[simp] theorem setReturnReady_arbiter (x : Bool) : (p.setReturnReady x).arbiter = p.arbiter := rfl
@[simp] theorem setReturnReady_track (x : Bool) : (p.setReturnReady x).track = p.track := rfl
@[simp] theorem setReturnReady_cue (x : Bool) : (p.setReturnReady x).cue = p.cue := rfl
@[simp] theorem setReturnReady_loop (x : Bool) : (p.setReturnReady x).loop = p.loop := rfl
@[simp] theorem setReturnReady_acc (x : Bool) : (p.setReturnReady x).acc = p.acc := rfl
@[simp] theorem setReturnReady_stacker (x : Bool) : (p.setReturnReady x).stacker = p.stacker := rfl
@[simp] theorem setReturnReady_ctl (x : Bool) : (p.setReturnReady x).ctl = p.ctl := rfl
@[simp] theorem setReturnReady_sent (x : Bool) : (p.setReturnReady x).sent = p.sent := rfl
@[simp] theorem setReturnReady_attentionDue (x : Bool) : (p.setReturnReady x).attentionDue = p.attentionDue := rfl
@[simp] theorem setReturnReady_freeIndex (x : Bool) : (p.setReturnReady x).freeIndex = p.freeIndex := rfl
@[simp] theorem setReturnReady_link (x : Bool) : (p.setReturnReady x).link = { p.link with returnReady := x } := rfl

@[simp] theorem start_clock : (p.start).clock = p.clock := rfl
@[simp] theorem start_sensors : (p.start).sensors = p.sensors := rfl
@[simp] theorem start_gates : (p.start).gates = p.gates := rfl
@[simp] theorem start_tables : (p.start).tables = p.tables := rfl
@[simp] theorem start_planner : (p.start).planner = p.planner := rfl
@[simp] theorem start_groups : (p.start).groups = p.groups := rfl
@[simp] theorem start_feeders : (p.start).feeders = p.feeders := rfl
@[simp] theorem start_arbiter : (p.start).arbiter = p.arbiter := rfl
@[simp] theorem start_track : (p.start).track = p.track := rfl
@[simp] theorem start_cue : (p.start).cue = p.cue := rfl
@[simp] theorem start_loop : (p.start).loop = p.loop := rfl
@[simp] theorem start_acc : (p.start).acc = p.acc := rfl
@[simp] theorem start_stacker : (p.start).stacker = p.stacker := rfl
@[simp] theorem start_ctl : (p.start).ctl = p.ctl := rfl
@[simp] theorem start_link : (p.start).link = p.link := rfl
@[simp] theorem start_attentionDue : (p.start).attentionDue = p.attentionDue := rfl
@[simp] theorem start_freeIndex : (p.start).freeIndex = p.freeIndex := rfl
@[simp] theorem start_sent : (p.start).sent = [] := rfl

@[simp] theorem setPathLevel_clock (q : PathSensor) (x : Bool) : (p.setPathLevel q x).clock = p.clock := rfl
@[simp] theorem setPathLevel_gates (q : PathSensor) (x : Bool) : (p.setPathLevel q x).gates = p.gates := rfl
@[simp] theorem setPathLevel_tables (q : PathSensor) (x : Bool) : (p.setPathLevel q x).tables = p.tables := rfl
@[simp] theorem setPathLevel_planner (q : PathSensor) (x : Bool) : (p.setPathLevel q x).planner = p.planner := rfl
@[simp] theorem setPathLevel_groups (q : PathSensor) (x : Bool) : (p.setPathLevel q x).groups = p.groups := rfl
@[simp] theorem setPathLevel_feeders (q : PathSensor) (x : Bool) : (p.setPathLevel q x).feeders = p.feeders := rfl
@[simp] theorem setPathLevel_arbiter (q : PathSensor) (x : Bool) : (p.setPathLevel q x).arbiter = p.arbiter := rfl
@[simp] theorem setPathLevel_track (q : PathSensor) (x : Bool) : (p.setPathLevel q x).track = p.track := rfl
@[simp] theorem setPathLevel_cue (q : PathSensor) (x : Bool) : (p.setPathLevel q x).cue = p.cue := rfl
@[simp] theorem setPathLevel_loop (q : PathSensor) (x : Bool) : (p.setPathLevel q x).loop = p.loop := rfl
@[simp] theorem setPathLevel_acc (q : PathSensor) (x : Bool) : (p.setPathLevel q x).acc = p.acc := rfl
@[simp] theorem setPathLevel_stacker (q : PathSensor) (x : Bool) : (p.setPathLevel q x).stacker = p.stacker := rfl
@[simp] theorem setPathLevel_ctl (q : PathSensor) (x : Bool) : (p.setPathLevel q x).ctl = p.ctl := rfl
@[simp] theorem setPathLevel_link (q : PathSensor) (x : Bool) : (p.setPathLevel q x).link = p.link := rfl
@[simp] theorem setPathLevel_sent (q : PathSensor) (x : Bool) : (p.setPathLevel q x).sent = p.sent := rfl
@[simp] theorem setPathLevel_attentionDue (q : PathSensor) (x : Bool) : (p.setPathLevel q x).attentionDue = p.attentionDue := rfl
@[simp] theorem setPathLevel_freeIndex (q : PathSensor) (x : Bool) : (p.setPathLevel q x).freeIndex = p.freeIndex := rfl
@[simp] theorem setPathLevel_sensors (q : PathSensor) (x : Bool) : (p.setPathLevel q x).sensors = { p.sensors with path := p.sensors.path.set q x } := rfl

@[simp] theorem setStagingLevel_clock (t : TrayId) (x : Bool) : (p.setStagingLevel t x).clock = p.clock := rfl
@[simp] theorem setStagingLevel_gates (t : TrayId) (x : Bool) : (p.setStagingLevel t x).gates = p.gates := rfl
@[simp] theorem setStagingLevel_tables (t : TrayId) (x : Bool) : (p.setStagingLevel t x).tables = p.tables := rfl
@[simp] theorem setStagingLevel_planner (t : TrayId) (x : Bool) : (p.setStagingLevel t x).planner = p.planner := rfl
@[simp] theorem setStagingLevel_groups (t : TrayId) (x : Bool) : (p.setStagingLevel t x).groups = p.groups := rfl
@[simp] theorem setStagingLevel_feeders (t : TrayId) (x : Bool) : (p.setStagingLevel t x).feeders = p.feeders := rfl
@[simp] theorem setStagingLevel_arbiter (t : TrayId) (x : Bool) : (p.setStagingLevel t x).arbiter = p.arbiter := rfl
@[simp] theorem setStagingLevel_track (t : TrayId) (x : Bool) : (p.setStagingLevel t x).track = p.track := rfl
@[simp] theorem setStagingLevel_cue (t : TrayId) (x : Bool) : (p.setStagingLevel t x).cue = p.cue := rfl
@[simp] theorem setStagingLevel_loop (t : TrayId) (x : Bool) : (p.setStagingLevel t x).loop = p.loop := rfl
@[simp] theorem setStagingLevel_acc (t : TrayId) (x : Bool) : (p.setStagingLevel t x).acc = p.acc := rfl
@[simp] theorem setStagingLevel_stacker (t : TrayId) (x : Bool) : (p.setStagingLevel t x).stacker = p.stacker := rfl
@[simp] theorem setStagingLevel_ctl (t : TrayId) (x : Bool) : (p.setStagingLevel t x).ctl = p.ctl := rfl
@[simp] theorem setStagingLevel_link (t : TrayId) (x : Bool) : (p.setStagingLevel t x).link = p.link := rfl
@[simp] theorem setStagingLevel_sent (t : TrayId) (x : Bool) : (p.setStagingLevel t x).sent = p.sent := rfl
@[simp] theorem setStagingLevel_attentionDue (t : TrayId) (x : Bool) : (p.setStagingLevel t x).attentionDue = p.attentionDue := rfl
@[simp] theorem setStagingLevel_freeIndex (t : TrayId) (x : Bool) : (p.setStagingLevel t x).freeIndex = p.freeIndex := rfl
@[simp] theorem setStagingLevel_sensors (t : TrayId) (x : Bool) : (p.setStagingLevel t x).sensors = { p.sensors with staging := p.sensors.staging.set t x } := rfl

@[simp] theorem breakEffects_clock (k : GroupKey) : (p.breakEffects k).clock = p.clock := rfl
@[simp] theorem breakEffects_sensors (k : GroupKey) : (p.breakEffects k).sensors = p.sensors := rfl
@[simp] theorem breakEffects_gates (k : GroupKey) : (p.breakEffects k).gates = p.gates := rfl
@[simp] theorem breakEffects_tables (k : GroupKey) : (p.breakEffects k).tables = p.tables := rfl
@[simp] theorem breakEffects_planner (k : GroupKey) : (p.breakEffects k).planner = p.planner := rfl
@[simp] theorem breakEffects_groups (k : GroupKey) : (p.breakEffects k).groups = p.groups := rfl
@[simp] theorem breakEffects_feeders (k : GroupKey) : (p.breakEffects k).feeders = p.feeders := rfl
@[simp] theorem breakEffects_cue (k : GroupKey) : (p.breakEffects k).cue = p.cue := rfl
@[simp] theorem breakEffects_loop (k : GroupKey) : (p.breakEffects k).loop = p.loop := rfl
@[simp] theorem breakEffects_acc (k : GroupKey) : (p.breakEffects k).acc = p.acc := rfl
@[simp] theorem breakEffects_ctl (k : GroupKey) : (p.breakEffects k).ctl = p.ctl := rfl
@[simp] theorem breakEffects_link (k : GroupKey) : (p.breakEffects k).link = p.link := rfl
@[simp] theorem breakEffects_sent (k : GroupKey) : (p.breakEffects k).sent = p.sent := rfl
@[simp] theorem breakEffects_attentionDue (k : GroupKey) : (p.breakEffects k).attentionDue = p.attentionDue := rfl
@[simp] theorem breakEffects_freeIndex (k : GroupKey) : (p.breakEffects k).freeIndex = p.freeIndex := rfl

@[simp] theorem renewPickDeadlines_clock : (p.renewPickDeadlines).clock = p.clock := rfl
@[simp] theorem renewPickDeadlines_sensors : (p.renewPickDeadlines).sensors = p.sensors := rfl
@[simp] theorem renewPickDeadlines_gates : (p.renewPickDeadlines).gates = p.gates := rfl
@[simp] theorem renewPickDeadlines_tables : (p.renewPickDeadlines).tables = p.tables := rfl
@[simp] theorem renewPickDeadlines_planner : (p.renewPickDeadlines).planner = p.planner := rfl
@[simp] theorem renewPickDeadlines_groups : (p.renewPickDeadlines).groups = p.groups := rfl
@[simp] theorem renewPickDeadlines_arbiter : (p.renewPickDeadlines).arbiter = p.arbiter := rfl
@[simp] theorem renewPickDeadlines_track : (p.renewPickDeadlines).track = p.track := rfl
@[simp] theorem renewPickDeadlines_cue : (p.renewPickDeadlines).cue = p.cue := rfl
@[simp] theorem renewPickDeadlines_loop : (p.renewPickDeadlines).loop = p.loop := rfl
@[simp] theorem renewPickDeadlines_acc : (p.renewPickDeadlines).acc = p.acc := rfl
@[simp] theorem renewPickDeadlines_stacker : (p.renewPickDeadlines).stacker = p.stacker := rfl
@[simp] theorem renewPickDeadlines_ctl : (p.renewPickDeadlines).ctl = p.ctl := rfl
@[simp] theorem renewPickDeadlines_link : (p.renewPickDeadlines).link = p.link := rfl
@[simp] theorem renewPickDeadlines_sent : (p.renewPickDeadlines).sent = p.sent := rfl
@[simp] theorem renewPickDeadlines_attentionDue : (p.renewPickDeadlines).attentionDue = p.attentionDue := rfl
@[simp] theorem renewPickDeadlines_freeIndex : (p.renewPickDeadlines).freeIndex = p.freeIndex := rfl

@[simp] theorem renewEject_clock : (p.renewEject).clock = p.clock := rfl
@[simp] theorem renewEject_sensors : (p.renewEject).sensors = p.sensors := rfl
@[simp] theorem renewEject_gates : (p.renewEject).gates = p.gates := rfl
@[simp] theorem renewEject_tables : (p.renewEject).tables = p.tables := rfl
@[simp] theorem renewEject_planner : (p.renewEject).planner = p.planner := rfl
@[simp] theorem renewEject_groups : (p.renewEject).groups = p.groups := rfl
@[simp] theorem renewEject_feeders : (p.renewEject).feeders = p.feeders := rfl
@[simp] theorem renewEject_arbiter : (p.renewEject).arbiter = p.arbiter := rfl
@[simp] theorem renewEject_track : (p.renewEject).track = p.track := rfl
@[simp] theorem renewEject_cue : (p.renewEject).cue = p.cue := rfl
@[simp] theorem renewEject_loop : (p.renewEject).loop = p.loop := rfl
@[simp] theorem renewEject_stacker : (p.renewEject).stacker = p.stacker := rfl
@[simp] theorem renewEject_ctl : (p.renewEject).ctl = p.ctl := rfl
@[simp] theorem renewEject_link : (p.renewEject).link = p.link := rfl
@[simp] theorem renewEject_sent : (p.renewEject).sent = p.sent := rfl
@[simp] theorem renewEject_attentionDue : (p.renewEject).attentionDue = p.attentionDue := rfl
@[simp] theorem renewEject_freeIndex : (p.renewEject).freeIndex = p.freeIndex := rfl

@[simp] theorem freeGauge_clock (n : Half) : (p.freeGauge n).clock = p.clock := rfl
@[simp] theorem freeGauge_sensors (n : Half) : (p.freeGauge n).sensors = p.sensors := rfl
@[simp] theorem freeGauge_gates (n : Half) : (p.freeGauge n).gates = p.gates := rfl
@[simp] theorem freeGauge_tables (n : Half) : (p.freeGauge n).tables = p.tables := rfl
@[simp] theorem freeGauge_planner (n : Half) : (p.freeGauge n).planner = p.planner := rfl
@[simp] theorem freeGauge_groups (n : Half) : (p.freeGauge n).groups = p.groups := rfl
@[simp] theorem freeGauge_feeders (n : Half) : (p.freeGauge n).feeders = p.feeders := rfl
@[simp] theorem freeGauge_arbiter (n : Half) : (p.freeGauge n).arbiter = p.arbiter := rfl
@[simp] theorem freeGauge_cue (n : Half) : (p.freeGauge n).cue = p.cue := rfl
@[simp] theorem freeGauge_loop (n : Half) : (p.freeGauge n).loop = p.loop := rfl
@[simp] theorem freeGauge_acc (n : Half) : (p.freeGauge n).acc = p.acc := rfl
@[simp] theorem freeGauge_stacker (n : Half) : (p.freeGauge n).stacker = p.stacker := rfl
@[simp] theorem freeGauge_ctl (n : Half) : (p.freeGauge n).ctl = p.ctl := rfl
@[simp] theorem freeGauge_link (n : Half) : (p.freeGauge n).link = p.link := rfl
@[simp] theorem freeGauge_sent (n : Half) : (p.freeGauge n).sent = p.sent := rfl
@[simp] theorem freeGauge_attentionDue (n : Half) : (p.freeGauge n).attentionDue = p.attentionDue := rfl
@[simp] theorem freeGauge_freeIndex (n : Half) : (p.freeGauge n).freeIndex = p.freeIndex := rfl

@[simp] theorem leaveTrack_clock (n : Half) : (p.leaveTrack n).clock = p.clock := rfl
@[simp] theorem leaveTrack_sensors (n : Half) : (p.leaveTrack n).sensors = p.sensors := rfl
@[simp] theorem leaveTrack_gates (n : Half) : (p.leaveTrack n).gates = p.gates := rfl
@[simp] theorem leaveTrack_tables (n : Half) : (p.leaveTrack n).tables = p.tables := rfl
@[simp] theorem leaveTrack_planner (n : Half) : (p.leaveTrack n).planner = p.planner := rfl
@[simp] theorem leaveTrack_groups (n : Half) : (p.leaveTrack n).groups = p.groups := rfl
@[simp] theorem leaveTrack_feeders (n : Half) : (p.leaveTrack n).feeders = p.feeders.map fun f => f.abandon n := rfl
@[simp] theorem leaveTrack_arbiter (n : Half) : (p.leaveTrack n).arbiter = p.arbiter := rfl
@[simp] theorem leaveTrack_cue (n : Half) : (p.leaveTrack n).cue = p.cue := rfl
@[simp] theorem leaveTrack_loop (n : Half) : (p.leaveTrack n).loop = p.loop := rfl
@[simp] theorem leaveTrack_acc (n : Half) : (p.leaveTrack n).acc = p.acc := rfl
@[simp] theorem leaveTrack_stacker (n : Half) : (p.leaveTrack n).stacker = p.stacker := rfl
@[simp] theorem leaveTrack_ctl (n : Half) : (p.leaveTrack n).ctl = p.ctl := rfl
@[simp] theorem leaveTrack_link (n : Half) : (p.leaveTrack n).link = p.link := rfl
@[simp] theorem leaveTrack_sent (n : Half) : (p.leaveTrack n).sent = p.sent := rfl
@[simp] theorem leaveTrack_attentionDue (n : Half) : (p.leaveTrack n).attentionDue = p.attentionDue := rfl
@[simp] theorem leaveTrack_freeIndex (n : Half) : (p.leaveTrack n).freeIndex = p.freeIndex := rfl

end Sys2Proof.Machine
end

