-- ==== Sys2Proof/Laws/Follows.lean ====
section
/-! SUPPORT. What the later parts of an event can do, said once: `close_follows`. Every operation of the cascade is shown
to keep the steady state, the places of the sheet records, and Transport Control in a still state. -/

namespace Sys2Proof.Machine

variable {p q r : Part}

theorem Follows.refl (p : Part) : Follows p p := ⟨rfl, List.prefix_rfl, List.suffix_rfl, fun _ => rfl⟩

theorem Follows.trans (h : Follows p q) (k : Follows q r) : Follows p r where
  steady := k.steady.trans h.steady
  sheets := h.sheets.trans k.sheets
  orders := k.orders.trans h.orders
  control := fun s => by
    have e := h.control s
    rw [k.control (by rw [e]; exact s), e]

/-- An operation that changes none of the fields `Follows` speaks of. -/
theorem Follows.of_same (hs : q.steady = p.steady) (ht : q.track.sheets.map Sheet.steady = p.track.sheets.map Sheet.steady)
    (ho : q.link.orders = p.link.orders) (hc : q.ctl = p.ctl) : Follows p q :=
  ⟨hs, by rw [ht], by rw [ho], fun _ => hc⟩

/-! ### Elementary updates -/

theorem send_follows (p : Part) (m : Message) : Follows p (p.send m) := .of_same rfl rfl rfl rfl

theorem notice_follows (p : Part) : Follows p p.notice := .of_same rfl rfl rfl rfl

theorem mapGroup_follows (p : Part) (k : GroupKey) (f : Group → Group) : Follows p (p.mapGroup k f) :=
  .of_same rfl rfl rfl rfl

theorem clearOpen_follows (p : Part) : Follows p p.clearOpen := .of_same rfl rfl rfl rfl

theorem setOpen_follows (p : Part) (k : GroupKey) : Follows p (p.setOpen k) := .of_same rfl rfl rfl rfl

theorem addGroup_follows (p : Part) (g : Group) : Follows p (p.addGroup g) := .of_same rfl rfl rfl rfl

theorem reserve_follows (p : Part) (a : Allowance) : Follows p (p.reserve a) := .of_same rfl rfl rfl rfl

theorem appendReport_follows (p : Part) (x : Report) : Follows p (p.appendReport x) := .of_same rfl rfl rfl rfl

theorem dropHead_follows (p : Part) : Follows p p.dropHead :=
  ⟨rfl, List.prefix_rfl, List.tail_suffix _, fun _ => rfl⟩

/-- A change of the sheets that keeps each record's steady fields keeps the steady list. -/
theorem map_steady {f : Sheet → Sheet} (h : ∀ s, (f s).steady = s.steady) (l : List Sheet) :
    (l.map f).map Sheet.steady = l.map Sheet.steady := by
  simp [List.map_map, Function.comp_def, h]

theorem spoilWith_steady (s : Sheet) (x : SpoilReason) : (s.spoilWith x).steady = s.steady := rfl

theorem discardSampling_steady (s : Sheet) : s.discardSampling.steady = s.steady := by
  unfold Sheet.discardSampling; split <;> rfl

theorem mapSheet_follows (p : Part) (n : Half) {f : Sheet → Sheet} (h : ∀ s, (f s).steady = s.steady) :
    Follows p (p.mapSheet n f) :=
  .of_same rfl (map_steady (fun s => by split <;> simp [h]) _) rfl rfl

theorem discardSampling_follows (p : Part) : Follows p p.discardSampling :=
  .of_same rfl (map_steady discardSampling_steady _) rfl rfl

/-- A change of one Tray Feeder that keeps what is steady of it. -/
theorem trays_set {f : Feeder → Feeder} (h : ∀ x, (f x).steady = x.steady) (v : PerTray Feeder) (t : TrayId) :
    (v.set t (f (v.get t))).map Feeder.steady = v.map Feeder.steady := by
  cases t <;> simp [PerTray.set, PerTray.get, PerTray.map, h]

theorem mapFeeder_follows (p : Part) (t : TrayId) {f : Feeder → Feeder} (h : ∀ x, (f x).steady = x.steady) :
    Follows p (p.mapFeeder t f) :=
  .of_same (by simp [Part.steady, trays_set h]) rfl rfl rfl

theorem dropPickDeadlines_follows (p : Part) : Follows p p.dropPickDeadlines := .of_same rfl rfl rfl rfl

theorem renewPickDeadlines_follows (p : Part) : Follows p p.renewPickDeadlines :=
  .of_same (by
    have h : ∀ (d : Tick) (f : Feeder), (if f.request then { f with deadline := some d } else f).steady = f.steady := by
      intro d f; split <;> rfl
    simp [Part.steady, Part.renewPickDeadlines, PerTray.map, h]) rfl rfl rfl

theorem disarmWatch_follows (p : Part) : Follows p p.disarmWatch := .of_same rfl rfl rfl rfl

theorem armWatch_follows (p : Part) : Follows p p.armWatch := by
  unfold Part.armWatch; split
  · exact .of_same rfl rfl rfl rfl
  · exact disarmWatch_follows p

/-! ### Breaks -/

theorem breakEffects_follows (p : Part) (k : GroupKey) : Follows p (p.breakEffects k) :=
  .of_same rfl (map_steady (fun s => by split <;> simp [spoilWith_steady]) _) rfl rfl

theorem closeAtCap_follows (p : Part) (k : GroupKey) : Follows p (p.closeAtCap k) := by
  unfold Part.closeAtCap
  split
  · split
    · exact (mapGroup_follows p k _).trans (clearOpen_follows _)
    · exact .refl p
  · exact .refl p

theorem breakGroup_follows (p : Part) (k : GroupKey) (x : BreakReason) : Follows p (p.breakGroup k x) := by
  unfold Part.breakGroup
  split
  · exact .refl p
  · split
    · exact ((mapGroup_follows p k _).trans (breakEffects_follows _ k)).trans (closeAtCap_follows _ k)
    · exact (mapGroup_follows p k _).trans (breakEffects_follows _ k)
    · exact .refl p
    · exact .refl p

theorem breakOpen_follows (p : Part) (x : BreakReason) : Follows p (p.breakOpen x) := by
  unfold Part.breakOpen; split
  · exact .refl p
  · exact breakGroup_follows p _ x

theorem truncate_follows (p : Part) : Follows p p.truncate := by
  unfold Part.truncate
  split
  · exact .refl p
  · split
    · exact clearOpen_follows p
    · split
      · exact ((mapGroup_follows p _ _).trans (breakEffects_follows _ _)).trans (clearOpen_follows _)
      · exact (mapGroup_follows p _ _).trans (clearOpen_follows _)
      · exact clearOpen_follows p
      · exact clearOpen_follows p

/-! ### Reports and the head -/

theorem occur_follows (p : Part) (k : CoalescedKind) (x : Report) (f : Report → Report) :
    Follows p (p.occur k x f) := by
  unfold Part.occur
  split
  · exact .of_same rfl rfl rfl rfl
  · split
    · exact .of_same rfl rfl rfl rfl
    · split
      · exact .of_same rfl rfl rfl rfl
      · split
        · exact appendReport_follows p x
        · exact .of_same rfl rfl rfl rfl

theorem streamFault_follows (p : Part) (d : StreamFault) : Follows p (p.streamFault d) := occur_follows p _ _ _

theorem credit_follows (p : Part) (n : Nat) : Follows p (p.credit n) := occur_follows p _ _ _

theorem setTaken_follows (p : Part) (n : Nat) : Follows p (p.setTaken n) := .of_same rfl rfl rfl rfl

theorem setPendingLoad_follows (p : Part) (c : Option PendingLoad) : Follows p (p.setPendingLoad c) :=
  .of_same rfl rfl rfl rfl

theorem noticed_follows (p : Part) : Follows p p.noticed := .of_same rfl rfl rfl rfl

theorem countTaken_follows (p : Part) : Follows p p.countTaken := by
  unfold Part.countTaken; split
  · exact setTaken_follows p _
  · exact (setTaken_follows p 0).trans (credit_follows _ 1)

theorem takeHead_follows (p : Part) : Follows p p.takeHead := (dropHead_follows p).trans (countTaken_follows _)

/-! ### Bins and tables -/

theorem setBin_steady {b : BinId} {x : Bin} (h : x.steady = (p.stacker.bins.get b).steady) :
    (p.setBin b x).steady = p.steady := by
  have e (y : Bin) (hy : y.steady = (p.stacker.bins.get b).steady) :
      PerBin.map Bin.steady (p.stacker.bins.set b y) = PerBin.map Bin.steady p.stacker.bins := by
    cases b <;> simp_all [PerBin.set, PerBin.get, PerBin.map]
  have h' : Bin.steady { x with state := x.formed (p.capacity b) } = (p.stacker.bins.get b).steady := h
  unfold Part.setBin
  simp only []
  split <;> simp [Part.steady, Part.notice, e _ h']

theorem setBin_follows {b : BinId} {x : Bin} (h : x.steady = (p.stacker.bins.get b).steady) :
    Follows p (p.setBin b x) :=
  .of_same (setBin_steady h) (by unfold Part.setBin; simp only []; split <;> rfl)
    (by unfold Part.setBin; simp only []; split <;> rfl) (by unfold Part.setBin; simp only []; split <;> rfl)

theorem underMode_steady (x : Bin) (o : Option ReleaseMode) (m : ReleaseMode) : (x.underMode o m).steady = x.steady := by
  unfold Bin.underMode
  split
  · split
    · rfl
    · split <;> rfl
  · rfl

theorem withBinMap_follows (p : Part) (c : List BinMapEntry) : Follows p (p.withBinMap c) := .of_same rfl rfl rfl rfl

theorem reformBins_follows (p : Part) {f : BinId → Bin → Bin} (h : ∀ b x, (f b x).steady = x.steady) :
    Follows p (p.reformBins f) := by
  have g : ∀ (l : List BinId) (q : Part), Follows q (l.foldl (fun q b => q.setBin b (f b (q.stacker.bins.get b))) q) := by
    intro l
    induction l with
    | nil => exact Follows.refl
    | cons b l ih => exact fun q => (setBin_follows (h b _)).trans (ih _)
  exact g _ p

theorem applyBinMap_follows (p : Part) (c : List BinMapEntry) : Follows p (p.applyBinMap c) :=
  (withBinMap_follows p c).trans (reformBins_follows _ fun _ _ => underMode_steady _ _ _)

theorem applyRouting_follows (p : Part) (c : List RoutingEntry) : Follows p (p.applyRouting c) :=
  .of_same rfl rfl rfl rfl

theorem liveLoad_follows (p : Part) (t : TableId) (n : Nat) (b : List Byte) : Follows p (p.liveLoad t n b).1 := by
  cases t with
  | routing =>
    rcases h : p.checkRouting n (routingEntries b) with e | c <;> simp only [Part.liveLoad, h]
    · exact .refl p
    · exact applyRouting_follows p c
  | binMap =>
    rcases h : p.checkBinMap n (binMapEntries n b) with e | c <;> simp only [Part.liveLoad, h]
    · exact .refl p
    · exact applyBinMap_follows p c
  | geometry => exact .refl p
  | parameters => exact .refl p
  | media => exact .refl p

theorem applyParameters_follows (p : Part) (c : List Nat) : Follows p (p.applyParameters c) := by
  unfold Part.applyParameters
  simp only []
  generalize hq : ({ p with tables := _, clock := _, arbiter := _ } : Part) = q
  have h : Follows p q := by subst hq; exact .of_same rfl rfl rfl rfl
  split
  · split
    · exact (h.trans (armWatch_follows q)).trans (send_follows _ _)
    · exact h.trans (armWatch_follows q)
  · split
    · exact h.trans (send_follows _ _)
    · exact h

theorem applyLocked_follows (p : Part) (l : PendingLoad) : Follows p (p.applyLocked l) := by
  cases l with
  | geometry c => exact .of_same rfl rfl rfl rfl
  | parameters c => exact applyParameters_follows p c
  | media c => exact .of_same rfl rfl rfl rfl

theorem loadResult_follows (p : Part) (t : TableId) (c : Option LoadCause) : Follows p (p.loadResult t c) :=
  ((dropHead_follows p).trans (appendReport_follows _ _)).trans (countTaken_follows _)

/-! ### Picks -/

theorem requestPick_follows (p : Part) (t : TrayId) : Follows p (p.requestPick t) :=
  (mapFeeder_follows p t (f := fun f => { f with request := true, deadline := some (p.after p.params.pickLimit) })
    fun _ => rfl).trans (send_follows _ _)

theorem moveTo_follows (p : Part) (s : Sheet) (t : TrayId) : Follows p (p.moveTo s t) :=
  (((mapFeeder_follows p s.tray (f := fun f => { f with holder := none, request := false, deadline := none })
      fun _ => rfl).trans
    (mapFeeder_follows _ t (f := fun f => { f with holder := some s.seq }) fun _ => rfl)).trans
    (mapSheet_follows _ s.seq (f := fun r => { r with tray := t, attempts := 0 }) fun _ => rfl)).trans
    (requestPick_follows _ t)

theorem takeIntoPick_follows (p : Part) (o : SheetOrder) (m : MediaEntry) (k : GroupKey) (t : TrayId) :
    Follows p (p.takeIntoPick o m k t) := by
  unfold Part.takeIntoPick
  simp only []
  generalize hq : ({ p with track := _ } : Part) = q
  have h : Follows p q := by
    subst hq
    exact ⟨rfl, by simp, List.suffix_rfl, fun _ => rfl⟩
  have h' := (h.trans (mapFeeder_follows q t (f := fun f => { f with holder := some p.track.nextSeq })
    fun _ => rfl)).trans (mapGroup_follows _ k fun g => { g with accepted := g.accepted + 1, inPath := g.inPath + 1 })
  split
  · exact h'.trans (requestPick_follows _ t)
  · exact h'

theorem closeIfLast_follows (p : Part) (o : SheetOrder) (k : GroupKey) : Follows p (p.closeIfLast o k) := by
  unfold Part.closeIfLast Part.closeIntact
  split
  · exact ((mapGroup_follows p k _).trans (clearOpen_follows _)).trans (.of_same rfl rfl rfl rfl)
  · exact .refl p

/-! ### The events at the Order Queue head -/

theorem headTruncation_follows (h : p.headTruncation = some q) : Follows p q := by
  unfold Part.headTruncation at h
  split at h
  · split at h
    · cases h; exact truncate_follows p
    · cases h
  · cases h

theorem openGroupWith_follows (p : Part) (o : SheetOrder) (f : FirstFields) (g : Grant) :
    Follows p (p.openGroupWith o f g) :=
  (((((takeHead_follows p).trans (addGroup_follows _ _)).trans (setOpen_follows _ _)).trans
    (reserve_follows _ _)).trans (takeIntoPick_follows _ o g.media _ g.tray)).trans (closeIfLast_follows _ o _)

theorem groupAdmission_follows (h : p.groupAdmission = some q) : Follows p q := by
  unfold Part.groupAdmission at h
  split at h
  · cases h
  · split at h
    · cases h
    · simp only [] at h
      split at h
      · cases h; exact (truncate_follows p).trans (openGroupWith_follows _ _ _ _)
      · cases h

theorem openBroken_follows (p : Part) (o : SheetOrder) (f : FirstFields) (x : BreakReason) :
    Follows p (p.openBroken o f x) := by
  unfold Part.openBroken
  simp only []
  split
  · exact (takeHead_follows p).trans (addGroup_follows _ _)
  · exact ((takeHead_follows p).trans (addGroup_follows _ _)).trans (setOpen_follows _ _)

theorem brokenFromStart_follows (h : p.brokenFromStart = some q) : Follows p q := by
  unfold Part.brokenFromStart at h
  split at h
  · cases h
  · split at h
    · cases h
    · simp only [] at h
      split at h
      · cases h; exact (truncate_follows p).trans (openBroken_follows _ _ _ _)
      · cases h

theorem discard_follows (p : Part) (o : SheetOrder) (k : GroupKey) : Follows p (p.discard o k) := by
  unfold Part.discard
  simp only []
  split
  · exact (((takeHead_follows p).trans (mapGroup_follows _ k _)).trans (mapGroup_follows _ k _)).trans
      (clearOpen_follows _)
  · exact ((takeHead_follows p).trans (mapGroup_follows _ k _)).trans (closeAtCap_follows _ k)

theorem discardOrphan_follows (p : Part) : Follows p p.discardOrphan :=
  ((takeHead_follows p).trans (streamFault_follows _ _)).trans (breakOpen_follows _ _)

theorem furtherOrderPick_follows (h : p.furtherOrderPick = some q) : Follows p q := by
  unfold Part.furtherOrderPick at h
  split at h
  · cases h
  · split at h
    · cases h
    · split at h
      · split at h
        · simp only [Option.some.injEq] at h
          subst h
          split
          · exact (breakGroup_follows p _ _).trans (discard_follows _ _ _)
          · exact (breakGroup_follows p _ _).trans (discardOrphan_follows _)
        · split at h
          · cases h
          · split at h
            · split at h
              · cases h
                exact ((takeHead_follows p).trans (takeIntoPick_follows _ _ _ _ _)).trans (closeIfLast_follows _ _ _)
              · cases h
            · cases h
      · cases h

theorem discardedAsUnfed_follows (h : p.discardedAsUnfed = some q) : Follows p q := by
  unfold Part.discardedAsUnfed at h
  split at h
  · cases h
  · split at h
    · split at h
      · cases h; exact discard_follows p _ _
      · cases h
    · cases h

theorem orphanTaken_follows (h : p.orphanTaken = some q) : Follows p q := by
  unfold Part.orphanTaken at h
  split at h
  · cases h
  · split at h
    · cases h; exact discardOrphan_follows p
    · cases h

/-- A change of Transport Control from a state that is not still, and of nothing else that `Follows` speaks of. -/
theorem Follows.of_moving (hm : p.ctl.state.still = false) (hs : q.steady = p.steady)
    (ht : q.track.sheets.map Sheet.steady = p.track.sheets.map Sheet.steady) (ho : q.link.orders <:+ p.link.orders) :
    Follows p q :=
  ⟨hs, by rw [ht], ho, fun h => by rw [hm] at h; cases h⟩

theorem enterDraining_follows (x : DrainReason) (hm : p.ctl.state.still = false) : Follows p (p.enterDraining x) :=
  .of_moving hm rfl rfl List.suffix_rfl

theorem Follows.then_moving (h : Follows p q) (hm : p.ctl.state.still = false) (k : q.ctl.state.still = false → Follows q r)
    (hq : q.ctl = p.ctl) : Follows p r := h.trans (k (by rw [hq]; exact hm))

theorem breakGroup_ctl (p : Part) (k : GroupKey) (x : BreakReason) : (p.breakGroup k x).ctl = p.ctl := by
  unfold Part.breakGroup Part.closeAtCap
  split
  · rfl
  · split
    · split
      · split <;> rfl
      · rfl
    all_goals rfl

theorem breakOpen_ctl (p : Part) (x : BreakReason) : (p.breakOpen x).ctl = p.ctl := by
  unfold Part.breakOpen; split
  · rfl
  · exact breakGroup_ctl p _ x

theorem truncate_ctl (p : Part) : p.truncate.ctl = p.ctl := by
  unfold Part.truncate
  split
  · rfl
  · split
    · rfl
    · split <;> rfl

theorem occur_ctl (p : Part) (k : CoalescedKind) (x : Report) (f : Report → Report) : (p.occur k x f).ctl = p.ctl := by
  unfold Part.occur
  split
  · rfl
  · split
    · rfl
    · split
      · rfl
      · split <;> rfl

theorem countTaken_ctl (p : Part) : p.countTaken.ctl = p.ctl := by
  unfold Part.countTaken; split
  · rfl
  · exact occur_ctl _ _ _ _

theorem takeHead_ctl (p : Part) : p.takeHead.ctl = p.ctl := countTaken_ctl _

theorem loadResult_ctl (p : Part) (t : TableId) (c : Option LoadCause) : (p.loadResult t c).ctl = p.ctl :=
  countTaken_ctl _

theorem stopTaken_follows (h : p.stopTaken = some q) : Follows p q := by
  have e := (takeHead_follows p).trans (truncate_follows p.takeHead)
  have c : p.takeHead.truncate.ctl = p.ctl := (truncate_ctl _).trans (takeHead_ctl p)
  unfold Part.stopTaken at h
  split at h
  · split at h
    · rename_i hs
      cases h
      exact e.trans (enterDraining_follows .stop (by rw [c, hs]; rfl))
    · rename_i hs
      simp only [Option.some.injEq] at h
      subst h
      split
      · exact e.trans (.of_moving (by rw [c, hs]; rfl) rfl rfl List.suffix_rfl)
      · exact e
    all_goals first | (cases h; exact e) | cases h
  · cases h

theorem purgeTaken_follows (h : p.purgeTaken = some q) : Follows p q := by
  unfold Part.purgeTaken at h
  split at h
  · split at h
    · cases h; exact (takeHead_follows p).trans (breakOpen_follows _ _)
    · cases h
  · cases h

theorem liveLoadTaken_follows (h : p.liveLoadTaken = some q) : Follows p q := by
  unfold Part.liveLoadTaken at h
  split at h
  · split at h
    · cases h; exact (liveLoad_follows p _ _ _).trans (loadResult_follows _ _ _)
    · cases h
  · cases h

theorem lockedLoadTaken_follows (h : p.lockedLoadTaken = some q) : Follows p q := by
  unfold Part.lockedLoadTaken at h
  split at h
  · split at h
    · split at h
      · cases h; exact loadResult_follows p _ _
      · rename_i c _
        simp only [] at h
        split at h
        · cases h; exact (loadResult_follows p _ _).trans (applyLocked_follows _ c)
        · have e : ∀ x : Part, Follows x (x.setPendingLoad (some c)).truncate :=
            fun x => (setPendingLoad_follows x _).trans (truncate_follows _)
          simp only [Option.some.injEq] at h
          subst h
          split
          · rename_i hr
            refine ((loadResult_follows p _ _).trans (e _)).trans (enterDraining_follows .load ?_)
            rw [truncate_ctl]
            show (p.loadResult _ none).ctl.state.still = false
            rw [loadResult_ctl, hr]; rfl
          · exact (loadResult_follows p _ _).trans (e _)
    · cases h
  · cases h

theorem pendingLoadApplied_follows (h : p.pendingLoadApplied = some q) : Follows p q := by
  unfold Part.pendingLoadApplied at h
  split at h
  · split at h
    · cases h; exact (setPendingLoad_follows p none).trans (applyLocked_follows _ _)
    · cases h
  · cases h

/-! ### The other events of the cascade -/

theorem steady_of_ctl_clock (p : Part) (x : TransportState) (c : Clock) (hc : c.tick = p.clock.tick) :
    ({ p.setTransport x with clock := c } : Part).steady = p.steady := by
  simp [Part.steady, hc]

theorem resumeRunning_follows (hm : p.ctl.state.still = false) : Follows p p.resumeRunning :=
  ((Follows.of_moving (q := (p.setTransport .running).dropTimed) hm rfl rfl List.suffix_rfl).trans
    (renewPickDeadlines_follows _)).trans (armWatch_follows _)

/-- The part of the entry to STANDBY before the cadence-lost flag. -/
theorem stopMotors_follows (x : TransportState) (hm : p.ctl.state.still = false) :
    Follows p (((p.setTransport x).dropTimed.disarmWatch.dropPickDeadlines.discardSampling).send .motorStop) :=
  .of_moving hm rfl (map_steady discardSampling_steady _) List.suffix_rfl

theorem enterStandby_follows (hm : p.ctl.state.still = false) : Follows p p.enterStandby := by
  unfold Part.enterStandby
  simp only []
  have h := stopMotors_follows (p := p) .standby hm
  split
  · exact h.trans (.of_same rfl rfl rfl rfl)
  · exact h

theorem drainEnd_follows (h : p.drainEnd = some q) : Follows p q := by
  unfold Part.drainEnd at h
  split at h
  · rename_i hd
    have hm : p.ctl.state.still = false := by rw [hd.1]; rfl
    cases h
    split
    · exact resumeRunning_follows hm
    · exact enterStandby_follows hm
  · cases h

theorem runoutEnd_follows (h : p.runoutEnd = some q) : Follows p q := by
  unfold Part.runoutEnd at h
  split at h
  · rename_i hd
    have hm : p.ctl.state.still = false := by rw [hd.1]; rfl
    have hs : Follows p p.enterSafe := stopMotors_follows .safe hm
    cases h
    split
    · exact hs
    · have e := enterStandby_follows (p := p) hm
      refine .of_moving hm ?_ ?_ ?_
      · unfold Part.enterStandby; simp only []; split <;> rfl
      · unfold Part.enterStandby
        simp only []
        split <;>
        · simp only [notice_track, send_track, discardSampling_track_sheets, dropPickDeadlines_track, disarmWatch_track,
            dropTimed_track, setTransport_track]
          rw [map_steady discardSampling_steady]
          exact map_steady discardSampling_steady _
      · unfold Part.enterStandby; simp only []; split <;> exact List.suffix_rfl
  · cases h

theorem recoveryEnd_follows (h : p.recoveryEnd = some q) : Follows p q := by
  unfold Part.recoveryEnd at h
  split at h
  · rename_i hd
    have hm : p.ctl.state.still = false := by rw [hd.1]; rfl
    cases h
    exact (Follows.of_moving (q := p.dropSweepClass) hm rfl rfl List.suffix_rfl).trans (enterStandby_follows hm)
  · cases h

theorem startEject_follows (p : Part) (x : EjectTarget) (j : Jog) : Follows p (p.startEject x j) :=
  .of_same rfl rfl rfl rfl

theorem redirect_follows (p : Part) (g : Group) (b : BinId) : Follows p (p.redirect g b) := .of_same rfl rfl rfl rfl

theorem ejectIntact_follows (p : Part) (g : Group) : Follows p (p.ejectIntact g) := by
  unfold Part.ejectIntact
  split
  · exact startEject_follows p _ _
  · split
    · exact (redirect_follows p g _).trans (startEject_follows _ _ _)
    · exact (breakGroup_follows p _ _).trans (startEject_follows _ _ _)

theorem setEjectStart_follows (h : p.setEjectStart = some q) : Follows p q := by
  unfold Part.setEjectStart at h
  split at h
  · cases h
  · split at h
    · cases h
    · split at h
      · cases h; exact ejectIntact_follows p _
      · split at h
        · cases h; exact startEject_follows p _ _
        · cases h

theorem reportGroup_follows (p : Part) (g : Group) : Follows p (p.reportGroup g) := .of_same rfl rfl rfl rfl

theorem groupResolution_follows (h : p.groupResolution = some q) : Follows p q := by
  unfold Part.groupResolution at h
  split at h
  · cases h
  · split at h
    · cases h; exact reportGroup_follows p _
    · cases h; exact .of_same rfl rfl rfl rfl

theorem stallEnd_follows (h : p.stallEnd = some q) : Follows p q := by
  unfold Part.stallEnd at h
  split at h
  · split at h
    · cases h
    · rename_i s _
      split at h
      · cases h
      · split at h
        · cases h
          exact (mapSheet_follows p s.seq (f := fun r => { r with attempts := 0 }) fun _ => rfl).trans
            (requestPick_follows _ _)
        · cases h; exact moveTo_follows p _ _
  · cases h

/-! ### The cascade -/

/-- What a step of the cascade can be. -/
theorem internal_cases (h : p.internal = some q) :
    p.pendingLoadApplied = some q ∨ p.drainEnd = some q ∨ p.runoutEnd = some q
    ∨ p.setEjectStart = some q ∨ p.groupResolution = some q ∨ p.stallEnd = some q
    ∨ p.headTruncation = some q ∨ p.groupAdmission = some q ∨ p.brokenFromStart = some q
    ∨ p.furtherOrderPick = some q ∨ p.discardedAsUnfed = some q ∨ p.orphanTaken = some q
    ∨ p.stopTaken = some q ∨ p.purgeTaken = some q ∨ p.liveLoadTaken = some q
    ∨ p.lockedLoadTaken = some q ∨ p.recoveryEnd = some q := by
  unfold Part.internal at h
  simp only [Option.orElse_eq_orElse, Option.orElse_eq_or, Option.or_eq_some_iff] at h
  tauto

theorem internal_follows (h : p.internal = some q) : Follows p q := by
  rcases internal_cases h with
    loaded | drained | runOut | ejected | resolved | freed | truncated | admitted | broken
    | picked | unfed | orphan | stop | purge | live | locked | recovered
  · exact pendingLoadApplied_follows loaded
  · exact drainEnd_follows drained
  · exact runoutEnd_follows runOut
  · exact setEjectStart_follows ejected
  · exact groupResolution_follows resolved
  · exact stallEnd_follows freed
  · exact headTruncation_follows truncated
  · exact groupAdmission_follows admitted
  · exact brokenFromStart_follows broken
  · exact furtherOrderPick_follows picked
  · exact discardedAsUnfed_follows unfed
  · exact orphanTaken_follows orphan
  · exact stopTaken_follows stop
  · exact purgeTaken_follows purge
  · exact liveLoadTaken_follows live
  · exact lockedLoadTaken_follows locked
  · exact recoveryEnd_follows recovered

/-- What every step of the cascade keeps, the cascade keeps: the one induction over it. -/
theorem settleIn_keeps {I : Part → Prop} (step : ∀ x y : Part, I x → x.internal = some y → I y) (n : Nat) :
    ∀ p : Part, I p → I (p.settleIn n) := by
  induction n with
  | zero => exact fun _ h => h
  | succ n ih =>
    intro p h
    unfold Part.settleIn
    split
    · exact h
    · rename_i y e
      exact ih _ (step p y h e)

theorem settle_follows (p : Part) : Follows p p.settle :=
  settleIn_keeps (I := fun x => Follows p x) (fun _ _ h e => h.trans (internal_follows e)) _ p (.refl p)

theorem updateWaits_follows (p : Part) : Follows p p.updateWaits := by
  unfold Part.updateWaits
  simp only []
  split
  · exact .refl p
  · exact .of_same rfl rfl rfl rfl

theorem attend_follows (p : Part) : Follows p p.attend := by
  unfold Part.attend
  simp only []
  have h := updateWaits_follows p
  split
  · exact (h.trans (noticed_follows _)).trans (occur_follows _ _ _ _)
  · exact h

theorem beginSending_follows (p : Part) : Follows p p.beginSending := by
  unfold Part.beginSending
  split
  · split
    · exact .of_same rfl rfl rfl rfl
    · exact .refl p
  · exact .refl p

theorem finish_follows (p : Part) : Follows p p.finish :=
  ((attend_follows p).trans (attend_follows _)).trans (beginSending_follows _)

/-- What the later parts of an event leave of the part that the command's own effect left. -/
theorem close_follows (p : Part) : Follows p p.close := (settle_follows p).trans (finish_follows _)

theorem close_steady (p : Part) : p.close.steady = p.steady := (close_follows p).steady

/-- In a still state the later parts of an event leave Transport Control as it was. -/
theorem close_ctl_of_still (h : p.ctl.state.still = true) : p.close.ctl = p.ctl := (close_follows p).control h

@[simp] theorem after_pending (s : State) (p : Part) : (s.after p).pending = s.pending := rfl

@[simp] theorem after_toPart (s : State) (p : Part) : (s.after p).toPart = p.close := rfl

end Sys2Proof.Machine
end

