-- ==== Sys2Proof/Laws/Ops.lean ====
section
/-! SUPPORT. The laws of the operations that commands share, one for each: what a step's beginning, a raised fault, a
report occurrence, a break request, a spoil request, a new bin and a gate command leave, and what they leave alone. -/

namespace Sys2Proof.Machine

variable {p q : Part}

/-! ### Faults (R162 to R165) -/

theorem stoppedBy_still (c : Control) (r : FaultRecord) : (c.stoppedBy r).state.still = true := by
  unfold Control.stoppedBy
  dsimp only
  split <;> rfl

/-- The report room of `reportFault`, as a number. -/
theorem reportRoom_iff (p : Part) : p.reportRoom = true ↔ p.link.reports.length < 64 := by
  unfold Part.reportRoom Config.queueSize
  exact decide_eq_true_iff

theorem reportFault_eq (p : Part) (r : FaultRecord) :
    p.reportFault r = { p with link :=
      if p.reportRoom then { p.link with reports := p.link.reports ++ [.fault r] }
      else { p.link with held := { p.link.held with fault := some r } } } := by
  unfold Part.reportFault
  split <;> rfl

/-- A fault raised while Fault Capture is locked counts as a further fault and does nothing else (R163). -/
theorem raise_locked (k : FaultKind) (x : Option Station) (a b : Option Half) (h : p.ctl.locked = true) :
    p.raise k x a b = { p with ctl := { p.ctl with further := min 255 (p.ctl.further + 1) } } := by
  unfold Part.raise
  rw [if_pos h]

/-- A fault raised while Fault Capture is unlocked, block by block (R162, R164, R165). -/
theorem raise_unlocked (k : FaultKind) (x : Option Station) (a b : Option Half) (h : p.ctl.locked = false) :
    (p.raise k x a b).ctl = p.ctl.stoppedBy (p.faultOf k x a b)
    ∧ (p.raise k x a b).clock = { p.clock with watchArmed := false }
    ∧ (p.raise k x a b).feeders = p.feeders.map (fun f => { f with deadline := none })
    ∧ (p.raise k x a b).track = { p.track with sheets := p.track.sheets.map Sheet.discardSampling }
    ∧ (p.raise k x a b).sent = p.sent ++ [.motorStop]
    ∧ (p.raise k x a b).link =
        if p.reportRoom then { p.link with reports := p.link.reports ++ [.fault (p.faultOf k x a b)] }
        else { p.link with held := { p.link.held with fault := some (p.faultOf k x a b) } } := by
  unfold Part.raise
  rw [if_neg (by rw [h]; decide)]
  dsimp only
  rw [reportFault_eq]
  exact ⟨rfl, rfl, rfl, rfl, rfl, rfl⟩

/-- What no raised fault touches. -/
theorem raise_leaves (p : Part) (k : FaultKind) (x : Option Station) (a b : Option Half) :
    (p.raise k x a b).sensors = p.sensors ∧ (p.raise k x a b).gates = p.gates ∧ (p.raise k x a b).tables = p.tables
    ∧ (p.raise k x a b).planner = p.planner ∧ (p.raise k x a b).groups = p.groups
    ∧ (p.raise k x a b).arbiter = p.arbiter ∧ (p.raise k x a b).cue = p.cue ∧ (p.raise k x a b).loop = p.loop
    ∧ (p.raise k x a b).acc = p.acc ∧ (p.raise k x a b).stacker = p.stacker
    ∧ (p.raise k x a b).attentionDue = p.attentionDue ∧ (p.raise k x a b).freeIndex = p.freeIndex
    ∧ (p.raise k x a b).track.gauge = p.track.gauge ∧ (p.raise k x a b).track.anomalies = p.track.anomalies
    ∧ (p.raise k x a b).track.sheets.map Sheet.steady = p.track.sheets.map Sheet.steady := by
  have hs : ∀ (q : Part) (y : TransportState),
      (q.enterStopped y).track.sheets.map Sheet.steady = q.track.sheets.map Sheet.steady :=
    fun q _ => map_steady discardSampling_steady q.track.sheets
  unfold Part.raise
  split
  · and_intros <;> rfl
  · dsimp only
    rw [reportFault_eq]
    and_intros <;> first | rfl | exact hs _ _

/-- A fault that stops the transport settles Transport Control for the rest of the event. -/
theorem close_ctl_of_raise (k : FaultKind) (x : Option Station) (a b : Option Half) (h : p.ctl.locked = false) :
    (p.raise k x a b).close.ctl = p.ctl.stoppedBy (p.faultOf k x a b) := by
  have e := (raise_unlocked (p := p) k x a b h).1
  rw [close_ctl_of_still (by rw [e]; exact stoppedBy_still _ _), e]

/-! ### Report occurrences (R187) -/

/-- An occurrence changes the Stream Link's reports, held and pending records, and nothing else. -/
theorem occur_leaves (p : Part) (k : CoalescedKind) (x : Report) (f : Report → Report) :
    { p.occur k x f with link := p.link } = p
    ∧ (p.occur k x f).link.framer = p.link.framer ∧ (p.occur k x f).link.orders = p.link.orders
    ∧ (p.occur k x f).link.taken = p.link.taken ∧ (p.occur k x f).link.pendingLoad = p.link.pendingLoad
    ∧ (p.occur k x f).link.transmitting = p.link.transmitting
    ∧ (p.occur k x f).link.returnReady = p.link.returnReady
    ∧ (p.occur k x f).link.held.fault = p.link.held.fault
    ∧ (p.occur k x f).link.held.results = p.link.held.results := by
  unfold Part.occur
  split
  · and_intros <;> rfl
  · repeat' split
    all_goals and_intros <;> rfl

theorem queuedOf_eq_zero {k : CoalescedKind} (h : p.queuedOf k = 0) :
    (p.link.reports.any fun r => r.kind == some k) = false := by
  unfold Part.queuedOf at h
  rw [List.length_eq_zero_iff] at h
  rw [Bool.eq_false_iff]
  intro hc
  obtain ⟨r, hr, hk⟩ := List.any_eq_true.1 hc
  have : r ∈ p.link.reports.filter fun r => r.kind == some k := List.mem_filter.2 ⟨hr, hk⟩
  rw [h] at this
  cases this

theorem sendingKind_of_queuedOf {k : CoalescedKind} (h : p.queuedOf k = 0) : p.sendingKind ≠ some k := by
  have hq := queuedOf_eq_zero h
  unfold Part.sendingKind
  split
  · cases hr : p.link.reports with
    | nil => simp
    | cons r rest =>
      rw [hr] at hq
      simp only [List.any_cons, Bool.or_eq_false_iff] at hq
      have := hq.1
      intro hc
      simp only [List.head?_cons, Option.bind_some] at hc
      rw [hc] at this
      simp at this
  · simp

/-- An occurrence of a kind with no record queued, held or in transmission, with a free place: a new record at the end
of the Report Queue. -/
theorem occur_appends {k : CoalescedKind} (x : Report) (f : Report → Report) (h : p.queuedOf k = 0)
    (hh : p.link.held.slots.get k = none) (hr : p.link.reports.length < 64) : p.occur k x f = p.appendReport x := by
  unfold Part.occur
  rw [if_neg (sendingKind_of_queuedOf h), if_neg (by rw [queuedOf_eq_zero h]; decide), hh]
  dsimp only
  rw [if_pos ((reportRoom_iff p).2 hr)]

/-! ### Records and entries by name -/

theorem find?_map_key {α β : Type} [BEq β] [LawfulBEq β] {key : α → β} {f : α → α} {k : β}
    (hf : ∀ x, key (f x) = key x) (l : List α) :
    (l.map fun x => if key x == k then f x else x).find? (fun x => key x == k)
      = (l.find? fun x => key x == k).map f := by
  induction l with
  | nil => rfl
  | cons a l ih =>
    rw [List.map_cons, List.find?_cons, List.find?_cons]
    by_cases h : (key a == k) = true
    · rw [if_pos h, hf, h]; rfl
    · rw [if_neg h]
      have h' : (key a == k) = false := by simpa using h
      rw [h', ih]

/-- The group entry named, after a change of it. -/
theorem mapGroup_group? (p : Part) (k : GroupKey) {f : Group → Group} (hf : ∀ g, (f g).key = g.key) :
    (p.mapGroup k f).group? k = (p.group? k).map f :=
  find?_map_key (key := Group.key) hf p.groups.entries

/-- The record named, after a change of it. -/
theorem mapSheet_sheet? (p : Part) (n : Half) {f : Sheet → Sheet} (hf : ∀ s, (f s).seq = s.seq) :
    (p.mapSheet n f).sheet? n = (p.sheet? n).map f :=
  find?_map_key (key := Sheet.seq) hf p.track.sheets

/-- A change of one record, as the statements say it. -/
theorem mapSheet_eq (p : Part) (n : Half) (f : Sheet → Sheet) :
    p.mapSheet n f = { p with track := { p.track with sheets := p.sheetsWith n f } } := by
  unfold Part.mapSheet Part.sheetsWith
  simp only [beq_iff_eq]

/-- Two changes of one record are one change. -/
theorem mapSheet_mapSheet (p : Part) (n : Half) {f g : Sheet → Sheet} (hf : ∀ s, (f s).seq = s.seq) :
    (p.mapSheet n f).mapSheet n g = p.mapSheet n fun s => g (f s) := by
  unfold Part.mapSheet
  dsimp only
  rw [List.map_map]
  congr 2
  apply List.map_congr_left
  intro s _
  rw [Function.comp_apply]
  by_cases h : (s.seq == n) = true
  · rw [if_pos h, if_pos h, if_pos (by rw [hf]; exact h)]
  · rw [if_neg h, if_neg h, if_neg h]

theorem mapSheet_congr (p : Part) (n : Half) {f g : Sheet → Sheet} (h : ∀ s, f s = g s) :
    p.mapSheet n f = p.mapSheet n g := by
  rw [funext h]

theorem group?_key {k : GroupKey} {g : Group} (h : p.group? k = some g) : g.key = k := by
  have := List.find?_some h
  exact eq_of_beq this

theorem sheet?_seq {n : Half} {s : Sheet} (h : p.sheet? n = some s) : s.seq = n := by
  have := List.find?_some h
  exact eq_of_beq this

/-! ### Breaks (R34, R35, R71) -/

theorem breakGroup_none {k : GroupKey} (x : BreakReason) (h : p.group? k = none) : p.breakGroup k x = p := by
  unfold Part.breakGroup
  rw [h]

theorem breakGroup_broken {k : GroupKey} {g : Group} (x : BreakReason) (h : p.group? k = some g)
    (hb : g.state.broken = true) : p.breakGroup k x = p := by
  unfold Part.breakGroup
  rw [h]
  dsimp only
  cases hs : g.state <;> rw [hs] at hb <;> first | rfl | cases hb

/-- The effects of a break on the records (R35). -/
theorem breakEffects_sheets (p : Part) (k : GroupKey) :
    (p.breakEffects k).track.sheets.map Sheet.steady = p.track.sheets.map Sheet.steady :=
  map_steady (fun s => by split <;> rfl) p.track.sheets

theorem closeAtCap_eq (p : Part) (k : GroupKey) :
    p.closeAtCap k = p ∨ p.closeAtCap k = (p.mapGroup k fun g => { g with state := .brokenClosed }).clearOpen := by
  unfold Part.closeAtCap
  split
  · split
    · exact .inr rfl
    · exact .inl rfl
  · exact .inl rfl

/-- A break request does nothing, or changes the group's entry and has the effects of R35, and closes a group that has
64 orders (R32, R34). -/
theorem breakGroup_eq (p : Part) (k : GroupKey) (x : BreakReason) :
    p.breakGroup k x = p
    ∨ p.breakGroup k x = ((p.mapGroup k fun g => { g with state := .brokenOpen, reason := some x }).breakEffects k).closeAtCap k
    ∨ p.breakGroup k x = (p.mapGroup k fun g => { g with state := .brokenClosed, reason := some x }).breakEffects k := by
  unfold Part.breakGroup
  split
  · exact .inl rfl
  · split
    · exact .inr (.inl rfl)
    · exact .inr (.inr rfl)
    all_goals exact .inl rfl

/-- What a break request never touches. -/
structure BreakLeaves (p q : Part) : Prop where
  clock : q.clock = p.clock
  sensors : q.sensors = p.sensors
  gates : q.gates = p.gates
  tables : q.tables = p.tables
  feeders : q.feeders = p.feeders
  cue : q.cue = p.cue
  loop : q.loop = p.loop
  acc : q.acc = p.acc
  bins : q.stacker.bins = p.stacker.bins
  purgeStacked : q.stacker.purgeStacked = p.stacker.purgeStacked
  purgeDoorOpen : q.stacker.purgeDoorOpen = p.stacker.purgeDoorOpen
  ctl : q.ctl = p.ctl
  link : q.link = p.link
  sent : q.sent = p.sent
  attentionDue : q.attentionDue = p.attentionDue
  freeIndex : q.freeIndex = p.freeIndex
  nextKey : q.groups.nextKey = p.groups.nextKey
  waiting : q.planner.waiting = p.planner.waiting
  arbiter : q.arbiter = { p.arbiter with cadenceGroup := q.arbiter.cadenceGroup }
  track : q.track = { p.track with sheets := q.track.sheets }
  sheets : q.track.sheets.map Sheet.steady = p.track.sheets.map Sheet.steady

theorem breakGroup_leaves (p : Part) (k : GroupKey) (x : BreakReason) : BreakLeaves p (p.breakGroup k x) := by
  rcases breakGroup_eq p k x with h | h | h
  · rw [h]; constructor <;> rfl
  · rw [h]
    rcases closeAtCap_eq ((p.mapGroup k fun g => { g with state := .brokenOpen, reason := some x }).breakEffects k) k
      with e | e <;> rw [e] <;> constructor <;>
      first | rfl | exact breakEffects_sheets (p.mapGroup k fun g => { g with state := .brokenOpen, reason := some x }) k
  · rw [h]
    constructor <;>
      first | rfl | exact breakEffects_sheets (p.mapGroup k fun g => { g with state := .brokenClosed, reason := some x }) k

/-! ### Bins (R146) -/

/-- A new bin stands with its state formed; a change of state is an ATTENTION occurrence, and nothing else changes. -/
theorem setBin_eq (p : Part) (b : BinId) (x : Bin) :
    p.setBin b x =
      { p with
        stacker := { p.stacker with bins := p.stacker.bins.set b { x with state := x.formed (p.capacity b) } }
        attentionDue := p.attentionDue || decide ((p.stacker.bins.get b).state ≠ x.formed (p.capacity b)) } := by
  unfold Part.setBin
  dsimp only
  split
  · rename_i h
    simp only [h, ne_eq, not_true_eq_false, decide_false, Bool.or_false]
  · rename_i h
    simp only [h, ne_eq, not_false_eq_true, decide_true, Bool.or_true]
    rfl

/-! ### Gates (R2) -/

/-- A gate command takes the gate to the position needed, and is sent when the position changes. -/
theorem setGd_eq (p : Part) (x : GdPosition) :
    p.setGd x = { p with
      gates := { p.gates with gd := x }, sent := p.sent ++ (if p.gates.gd = x then [] else [.gateGd x]) } := by
  unfold Part.setGd
  split
  · rename_i h
    subst h
    simp
  · rfl

theorem setGx_eq (p : Part) (x : Destination) :
    p.setGx x = { p with
      gates := { p.gates with gx := x }, sent := p.sent ++ (if p.gates.gx = x then [] else [.gateGx x]) } := by
  unfold Part.setGx
  split
  · rename_i h
    subst h
    simp
  · rfl

/-! ### Taking the head record (R19, R179) -/

/-- Below the thirty-second record a record taken leaves the queue and counts one, and nothing else changes. -/
theorem takeHead_below (p : Part) (h : p.link.taken < 31) :
    p.takeHead = { p with link := { p.link with orders := p.link.orders.tail, taken := p.link.taken + 1 } } := by
  unfold Part.takeHead Part.countTaken
  rw [if_pos (show p.dropHead.link.taken + 1 < 32 from Nat.succ_lt_succ h)]
  rfl

/-- A record taken changes the Stream Link alone. -/
theorem takeHead_leaves (p : Part) :
    { p.takeHead with link := p.link } = p ∧ p.takeHead.link.orders = p.link.orders.tail := by
  unfold Part.takeHead Part.countTaken
  split
  · exact ⟨rfl, rfl⟩
  · have h := occur_leaves (p.dropHead.setTaken 0) .credit (.credit 1) fun r =>
      match r with
      | .credit n => .credit (sat16 (n + 1))
      | r => r
    refine ⟨?_, h.2.2.1⟩
    have e := congrArg (fun q : Part => { q with link := p.link }) h.1
    exact e

end Sys2Proof.Machine
end

