-- ==== Sys2Proof/WellFormed.lean ====
section
/-! DEFINITION. Which commands the neighbours can send. The operand types hold every other operand inside its range,
so one check is left: a record body longer than the length field admits. -/

namespace Sys2Proof

/-- A LOAD whose body, with its three header bytes, fits the limit of R175. -/
def LoadRecord.wellFormed (l : LoadRecord) : Bool :=
  decide (3 + l.body.length ≤ Config.maxBody)

/-- Whether a command's operands are values its sender can send. -/
def Instr.wellFormed : Instr → Bool
  | .load l => l.wellFormed
  | .powerOnReset _ | .controllerReset _ | .sheetOrder _ | .stop | .purge | .start | .halt | .clearFault
  | .binEmptied _ | .query | .droppedRecord _ | .groupAdmission | .brokenFromStart | .furtherOrderPick
  | .discardedAsUnfed | .orphan | .stopTaken | .purgeTaken | .liveLoadTaken | .lockedLoadTaken
  | .pendingLoadApplied | .stagingCoveredEdge _ | .stagingUncoveredEdge _ | .pathCoveredEdge _
  | .pathUncoveredEdge _ | .drawerOpening _ | .drawerClosing _ | .paperSensorEdge _ _ _ | .pickDeadline _
  | .stallEnd | .pitchExpiry | .cadencePulse | .cadenceLoss | .lateLimitReached _ | .stall _ _
  | .gateRelease _ _ | .conversionStart _ | .conversionCompletion _ | .readyAnswer _ _ | .declineAnswer _ _
  | .parked | .parkDeadline | .setEjectStart | .ejectDone | .ejectTimeout | .binDoorOpening _
  | .binDoorClosing _ | .fullSensorEdge _ _ | .purgeDoorOpening | .purgeDoorClosing | .coverOpening
  | .coverClosing | .powerWarnAsserted | .powerWarnCleared | .warmupEnd | .drainEnd | .runoutEnd | .runEnd
  | .groupResolution | .returnReadyAsserted | .returnReadyCleared | .transmissionComplete
  | .startDelimiter _ => true

end Sys2Proof
end

