-- ==== Sys2Proof/Tests/Slice0.lean ====
section
/-! SUPPORT. Tests. The first part runs one step, or one operation, on the manual's own examples: every expected value is
read off the spec. The second part has, for each statement of Certificates/Slice0/Obligations.lean with hypotheses,
states and operands that meet them, clause by clause, at the ends of their ranges. -/

namespace Sys2Proof.Tests
open Sys2Proof Sys2Proof.Machine

/- One theorem at a time: elaborated side by side, these many small evaluations would each take a thread. -/
set_option Elab.async false

/-! ### Helper states -/

/-- The example geometry of Table 1-3. -/
def geo : Geometry := ⟨[1200, 1840, 2100, 3300, 1500, 900, 800, 1100]⟩

/-- The Parameter Set of the examples of 1.6.3 and 5.3.1; the fields they do not name are in the ranges of Table 1-6. -/
def par : ParameterSet :=
  ⟨[2000, 0, 3500, 0, 24, 40, 12, 30, 600, 100, 1, 2, 8000, 2, 4000, 200, 300, 8, 6000, 16000, 20000, 0]⟩

def parLocked : ParameterSet :=
  ⟨[2000, 0, 3500, 1, 24, 40, 12, 30, 600, 100, 1, 2, 8000, 2, 4000, 200, 300, 8, 6000, 16000, 20000, 0]⟩

def noMedia : MediaEntry := { valid := false, length := 0, primary := 0, alternate := 0, nominal := 0, slots := none }

/-- The media entries of 3.1.1: codes 0, 1 and 5 of lengths 2794, 4200 and 6000. -/
def media0 : MediaEntry := { valid := true, length := 2794, primary := 1, alternate := 2, nominal := 40, slots := some 1 }
def media1 : MediaEntry := { valid := true, length := 4200, primary := 2, alternate := 0, nominal := 40, slots := some 2 }
def media5 : MediaEntry := { valid := true, length := 6000, primary := 3, alternate := 4, nominal := 200, slots := some 2 }

def mediaTable : MediaTable :=
  ⟨[media0, media1, noMedia, noMedia, noMedia, media5] ++ List.replicate 10 noMedia⟩

/-- Logical bin 2 maps to B2 and B3 (8.8); B4 stands ON_NOTICE. -/
def bins : BinMap :=
  ⟨[.logical 1 0, .logical 1 2, .logical 2 3, .logical 4 0, .logical 4 5, .logical 5 0, .logical 6 0, .logical 6 1,
    .physical 1500 0, .physical 1500 0, .physical 1500 0, .physical 1500 1, .physical 1500 0, .physical 1500 0,
    .purge 1000]⟩

def readyBin : Bin :=
  { stacked := 0, doorOpen := false, full := false, hold := false, remembered := false, jog := .left, state := .ready }

/-- A transport state with nothing captured. -/
def ctlIn (x : TransportState) : Control :=
  { state := x, drainReason := none, warmupEnd := none, runEnd := none, runEndReached := false, sweepClass := none,
    firstFault := none, locked := false, further := 0, coverOpen := false, powerWarn := false }

/-- RUNNING on an empty path, tables loaded, no report queued. -/
def base : State := { State.reset with
  clock := { State.reset.clock with tick := 100000 }
  tables := { geometry := some geo, parameters := some par, media := some mediaTable
              routing := List.replicate 32 RoutingEntry.unloaded, binMap := some bins }
  stacker := { State.reset.stacker with bins := .all readyBin }
  ctl := ctlIn .running
  link := { State.reset.link with reports := [] }
  sent := [] }

def at' (x : TransportState) (s : State) : State := { s with ctl := ctlIn x }

/-- The state after a command. -/
def after (c : Instr) (s : State) : State :=
  match exec c s with
  | .next t => t
  | _ => s

def order (group : Half) (first : Option FirstFields) (last : Bool) (media : BitVec 4) : SheetOrder :=
  { tag := 7001, group := group, first := first, last := last, plex := .simplex, imageA := true, imageB := false,
    media := media }

/-- `s` with one record at the head of the Order Queue. -/
def withHead (q : Queued) (s : State) : State := { s with link := { s.link with orders := [q] } }

def withReports (n : Nat) (s : State) : State :=
  { s with link := { s.link with reports := List.replicate n (.loadResult .media none) } }

/-- A group of two declared sheets, one accepted and in the path. -/
def open0 : Group :=
  { key := 0, id := 70, firstTag := 7001, lastTag := none, declared := 2, bin := some .b1, policy := .fixed,
    state := .admitting, reason := none, accepted := 1, inPath := 1, inSet := 0, delivered := 0, purged := 0,
    removed := 0, unfed := 0, jog := none }

/-- Its sheet, of media 0, STAGED at ST1. -/
def staged0 : Sheet :=
  { seq := 0, tag := 7001, group := 0, media := 0, length := 2794, slots := 1, nominal := 40, plex := .simplex,
    imageA := true, imageB := false, pass := .first, route := none, destination := .stack, spoil := none,
    state := .staged, tray := .t1, attempts := 0, launchTick := none, launchOrder := none, itinerary := [],
    window := none, covered := [], exitDecision := none, thickness := none, sampling := .idle, cueA := .none,
    cueB := .none }

def held (seq : Half) : Feeder :=
  { state := .ready, drawerOpen := false, paperLow := false, paperOut := false, holder := some seq, request := false,
    deadline := none, abandoned := false }

/-- `base` with that group and the given sheet of it, holding ST1. -/
def withSheet (g : Group) (x : Sheet) (s : State) : State := { s with
  groups := { entries := [g], nextKey := 1 }
  planner := { s.planner with openGroup := if g.state = .admitting ∨ g.state = .brokenOpen then some 0 else none }
  stacker := { s.stacker with
    allowances := if g.state.broken then [] else [{ group := 0, bin := .b1, count := 2, alternate := none }] }
  feeders := { s.feeders with t1 := held 0 }
  track := { s.track with sheets := [x], nextSeq := 1 } }

/-- One sheet STAGED in RUNNING. -/
def busy : State := withSheet open0 staged0 base

/-- The sheet of 5.3.1, MOVING with a window at `q` and a station before it covered. -/
def moving0 (q : PathSensor) (rest : List PathSensor) (w : Window) : Sheet := { staged0 with
  state := .moving, route := some .freshExit, launchTick := some 98800, launchOrder := some 0, itinerary := q :: rest
  window := some w, covered := [] }

/-- A window at `q` that the tick 100,000 meets at its early limit. -/
def win (q : PathSensor) : Window := { station := q, expected := 100012, early := 100000, late := 100082 }

/-- The sheet alone on the path, due at `q`. -/
def dueAt (q : PathSensor) (rest : List PathSensor) : State :=
  { withSheet open0 (moving0 q rest (win q)) base with feeders := base.feeders }

/-- A covered-list entry at `q` whose short limit the tick 100,000 meets. -/
def cover (q : Sensor) : CoverEntry := { station := q, arrival := 97236, short := 100000, long := 100169 }

/-- The sheet alone on the path, its trail due at `q`. -/
def leaving (q : PathSensor) : State :=
  { withSheet open0 { moving0 .pg [] (win .pg) with itinerary := [], window := none, covered := [cover (.path q)] } base with
    feeders := base.feeders }

/-! ### Records on the link -/

/-- R176: over the nine characters 1 to 9 the check is 29B1. -/
theorem test_check_of_the_nine_digits :
    check [0x31#8, 0x32#8, 0x33#8, 0x34#8, 0x35#8, 0x36#8, 0x37#8, 0x38#8, 0x39#8] = 0x29B1#16 := by decide +kernel

/-- Table 11-2, bit by bit: FIRST, DUPLEX and image A, media 5, declared 2, account 8193. -/
theorem test_order_body_first :
    orderOf? [0x1B#8, 0x59#8, 0x00#8, 0x46#8, 0b10110000#8, 0x05#8, 0x02#8, 0x20#8, 0x01#8]
      = some { tag := 7001, group := 70, first := some ⟨2, 8193⟩, last := false, plex := .duplex, imageA := true,
               imageB := false, media := 5 } := by decide

/-- Table 11-2: LAST, SIMPLEX and image B; the unused bits are ignored (R193). -/
theorem test_order_body_last :
    orderOf? [0x1B#8, 0x59#8, 0x00#8, 0x46#8, 0b01001111#8, 0xF1#8]
      = some { tag := 7001, group := 70, first := none, last := true, plex := .simplex, imageA := false,
               imageB := true, media := 1 } := by decide

/-- R192: a length of 9 fits only with the FIRST mark set, 6 only with it clear. -/
theorem test_order_length_must_fit :
    orderOf? [0, 1, 0, 1, 0b00010000#8, 0, 2, 0, 0] = none ∧ orderOf? [0, 1, 0, 1, 0b10010000#8, 0] = none := by decide

/-- Table 11-11: the entry at index 28, and the load's body length of 3 + 4 × 7. -/
theorem test_routing_entry :
    routingEntries [0x80#8, 0x20#8, 0x00#8, 0xF0#8, 0x00#8, 0x03#8, 0x01#8]
      = [{ valid := true, value := 8192, mask := 61440, bin := 3, jog := 1 }]
    ∧ 3 + 4 * TableId.entrySize .routing = 31 := by decide

/-- The kind values of Table 11-1, and a length that does not fit its kind. -/
theorem test_kinds_of_controls :
    inboundOf? 0x20#8 [] = some .start ∧ inboundOf? 0x22#8 [] = some .clearFault
    ∧ inboundOf? 0x23#8 [6#8] = some (.binEmptied 6) ∧ inboundOf? 0x24#8 [0#8] = none ∧ inboundOf? 0x40#8 [] = none := by
  decide

/-- R175: a body length above 1020 is malformed at once. -/
theorem test_length_1021_is_malformed :
    Framer.feed .hunt [0xA5#8, 0x13#8, 0x03#8, 0xFD#8] = .malformed
    ∧ Framer.feed .hunt [0xA5#8, 0x13#8, 0x03#8, 0xFC#8] = .more (.receive [0x13#8, 0x03#8, 0xFC#8]) := by decide

/-- spec/98_reader.md: no row of the table has a bit, so no word spells a command. -/
theorem test_no_word_spells_a_command : decodeTableWord 8 0x21 = none ∧ decodeTableWord 0 0 = none := ⟨rfl, rfl⟩

/-- A LOAD body of 1020 bytes is the longest that can be sent (R175). -/
theorem test_load_too_long_is_refused :
    (Instr.load ⟨4, 0, 145, List.replicate 1018 0⟩).wellFormed = false
    ∧ (Instr.load ⟨4, 0, 145, List.replicate 1017 0⟩).wellFormed = true := by
  decide +kernel

/-! ### Tables -/

def putPar (l : List (Nat × Nat)) : List Nat := l.foldl (fun c x => c.set x.1 x.2) par.entries

/-- Table 1-7: PITCH 1500 fails the CROSS check, PITCH 2200 passes. -/
theorem test_table_1_7_pitch :
    base.checkParameters 2 [1500] = .error .cross ∧ base.checkParameters 2 [2200] = .ok (putPar [(2, 2200)]) := by decide

/-- Table 1-7: GATE_CLEAR 500 over GAP_MIN 400 is a CONFLICT; sampling of 500 and 760 fails CROSS, 500 and 750 passes. -/
theorem test_table_1_7_gates_and_sampling :
    base.checkParameters 8 [400, 500] = .error .conflict ∧ base.checkParameters 15 [500, 760] = .error .cross
    ∧ base.checkParameters 15 [500, 750] = .ok (putPar [(15, 500), (16, 750)]) := by decide

/-- Table 3-2: three loads of media entry 7. -/
theorem test_table_3_2 :
    base.checkMedia 7 (mediaEntries [0x80#8, 0x03#8, 0xE8#8, 3, 0, 40]) = .error .cross
    ∧ base.checkMedia 7 (mediaEntries [0x80#8, 0x09#8, 0x60#8, 3, 3, 40]) = .error .conflict
    ∧ (base.checkMedia 7 (mediaEntries [0x80#8, 0x09#8, 0x60#8, 3, 1, 40])).isOk = true
    ∧ par.slotCount 2794 = 1 ∧ par.slotCount 4200 = 2 ∧ par.slotCount 6000 = 2 := by decide

/-- 11.3.1: logical bin 9 in an entry not valid still refuses the load with RANGE; 28 + 4 entries are within the table. -/
theorem test_routing_load_range :
    (base.liveLoad .routing 28 ([0x80#8, 0x20, 0, 0xF0, 0, 3, 1] ++ [0x80#8, 0x30, 0, 0xF0, 0, 4, 0]
      ++ [0#8, 0, 0, 0, 0, 9, 0] ++ [0#8, 0, 0, 0, 0, 0, 0])).2 = some .range
    ∧ (base.liveLoad .routing 28 ([0x80#8, 0x20, 0, 0xF0, 0, 3, 1] ++ [0x80#8, 0x30, 0, 0xF0, 0, 4, 0]
      ++ [0#8, 0, 0, 0, 0, 0, 0] ++ [0#8, 0, 0, 0, 0, 0, 0])).2 = none
    ∧ (base.liveLoad .routing 28 ([0x80#8, 0x20, 0, 0xF0, 0, 3, 1] ++ [0x80#8, 0x20, 0, 0xF0, 0, 3, 1]
      ++ [0x80#8, 0x20, 0, 0xF0, 0, 3, 1] ++ [0x80#8, 0x20, 0, 0xF0, 0, 3, 1] ++ [0x80#8, 0x20, 0, 0xF0, 0, 3, 1])).2
        = some .extent := by decide

/-! ### The paper path -/

/-- Table 5-4: the four lead windows. -/
theorem test_table_5_4 :
    base.windowFor .mg 98800 = { station := .mg, expected := 100000, early := 99988, late := 100070 }
    ∧ base.windowFor .rg 100000 = { station := .rg, expected := 101840, early := 101828, late := 101935 }
    ∧ base.windowFor .tr 101851 = { station := .tr, expected := 103951, early := 103939, late := 104057 }
    ∧ base.windowFor .fx 103960 = { station := .fx, expected := 107260, early := 107248, late := 107412 } := by decide

/-- Table 5-5: the trail watches. -/
theorem test_table_5_5 :
    base.coverFor (.st .t2) 2794 98800 = { station := .st .t2, arrival := 98800, short := 101564, long := 101733 }
    ∧ base.coverFor (.path .tr) 2794 103960 = { station := .path .tr, arrival := 103960, short := 106724, long := 106893 } := by
  decide

/-- R98: for N 40 and DF_TOL 8 the thresholds are 72 and 20, for N 200 the double threshold is 255. -/
theorem test_thickness_thresholds :
    doubleThreshold 40 8 = 72 ∧ thinThreshold 40 = 20 ∧ doubleThreshold 200 8 = 255 := by decide

/-- R8: the counter wraps from 4,294,967,295 to 0, and a wrapped tick is later. -/
theorem test_tick_wraps :
    (match step { base with clock := { base.clock with tick := 0xFFFFFFFF#32 } } with
      | .next t => t.clock.tick | _ => 1) = 0
    ∧ lower (0xFFFFFFFF#32) 0 = true := by decide

/-! ### Commands -/

/-- R105, R174, R179: after a power-on reset the transport is HALTED with RESET captured, and two halves are granted. -/
theorem test_power_on_reset :
    (after (.powerOnReset Lines.quiet) busy).ctl.state = .halted
    ∧ (after (.powerOnReset Lines.quiet) busy).link.reports.head? = some (.credit 2)
    ∧ (after (.powerOnReset Lines.quiet) busy).track.sheets = [] := by decide +kernel

/-- R8, R139: a controller reset keeps the tick and the tables, and takes the bin's state from its door. -/
theorem test_controller_reset :
    (after (.controllerReset { Lines.quiet with bins := { Lines.quiet.bins with b2 := ⟨true, false⟩ } }) busy).clock.tick = 100000
    ∧ ((after (.controllerReset { Lines.quiet with bins := { Lines.quiet.bins with b2 := ⟨true, false⟩ } }) busy).stacker.bins.b2).state
        = .offline := by decide +kernel

/-- R24, R50: a FIRST order for an empty part is admitted and picked in the event of its arrival. -/
theorem test_first_order_is_picked :
    (after (.sheetOrder (order 70 (some ⟨2, 0⟩) false 0)) base).sent = [.pickRequest .t1]
    ∧ ((after (.sheetOrder (order 70 (some ⟨2, 0⟩) false 0)) base).stacker.allowances.map Allowance.count) = [2] := by
  decide +kernel

/-- R21: a declared count of 65 breaks the group from the start with COUNT; marked LAST, it is resolved and reported. -/
theorem test_declared_65 :
    (after (.sheetOrder (order 70 (some ⟨65, 0⟩) true 0)) base).link.reports
      = [.groupResult { group := 70, outcome := .broken (some .count), firstTag := 7001, lastTag := some 7001, accepted := 1,
                        delivered := 0, purged := 0, removed := 0, unfed := 1 }] := by decide +kernel

/-- R33: an order of no open group is an orphan. -/
theorem test_orphan :
    (after (.sheetOrder (order 70 none true 0)) base).link.reports
      = [.streamFault { StreamFault.zero with orphan := 1 }] := by decide +kernel

/-- R31: the LAST order closes the group, and its room is cut to what was accepted. -/
theorem test_last_order_closes :
    ((after (.sheetOrder (order 70 none true 1)) busy).groups.entries.map fun g => (g.state, g.accepted, g.lastTag))
      = [(.closed, 2, some 7001)]
    ∧ (after (.sheetOrder (order 70 none true 1)) busy).planner.openGroup = none := by decide +kernel

/-- R37, R155: a STOP truncates the open group and starts a drain. -/
theorem test_stop_truncates_and_drains :
    ((after .stop busy).groups.entries.map fun g => (g.state, g.reason)) = [(.brokenClosed, some .truncated)]
    ∧ (after .stop busy).ctl.drainReason = some .stop := by decide +kernel

/-- R38: a PURGE breaks the open group, which stays open, and not the transport. -/
theorem test_purge_breaks :
    ((after .purge busy).groups.entries.map fun g => (g.state, g.reason)) = [(.brokenOpen, some .purged)]
    ∧ (after .purge busy).ctl = busy.ctl ∧ (after .purge busy).planner.openGroup = some 0 := by decide +kernel

/-- R192: a LOAD whose length is not that of its entry count is malformed, and breaks the open group (R177). -/
theorem test_load_of_a_wrong_length :
    (after (.load ⟨4, 28, 4, List.replicate 27 0⟩) busy).link.reports
      = [.streamFault { StreamFault.zero with malformed := 1 }]
    ∧ ((after (.load ⟨4, 28, 4, List.replicate 27 0⟩) busy).groups.entries.map Group.reason) = [some .stream] := by
  decide +kernel

/-- R152: START in STANDBY is WARMUP, its end WARMUP ticks on. -/
theorem test_start :
    (after .start (at' .standby base)).ctl.state = .warmup
    ∧ (after .start (at' .standby base)).ctl.warmupEnd = some 116000
    ∧ (after .start (at' .standby base)).sent = [.motorStart 2000 0] := by decide +kernel

/-- Table 10-5: a START refused in HALTED counts once, with its kind. -/
theorem test_start_refused :
    (after .start (at' .halted base)).link.reports
      = [.streamFault { StreamFault.zero with refused := 1, lastRefused := some .start }]
    ∧ (after .start (at' .halted base)).ctl.state = .halted := by decide +kernel

/-- R153, R165: HALT while RUNNING. -/
theorem test_halt :
    (after .halt busy).ctl.state = .halted ∧ (after .halt busy).sent = [.motorStop]
    ∧ (after .halt busy).track.sheets.length = 1 := by decide +kernel

/-- A transport stopped by LATE. -/
def jammed : State := { busy with ctl := { ctlIn .jammed with
  locked := true
  firstFault := some { kind := .late, station := some (.path .tr), tag := some 7001, group := some 70, tick := 99999,
                       state := .running, occupancy := 1 } } }

/-- R167: the sweep counts the sheet as removed and breaks its group with JAM. -/
theorem test_clear_fault :
    (after .clearFault jammed).ctl.state = .recovery ∧ (after .clearFault jammed).track.sheets = []
    ∧ ((after .clearFault jammed).groups.entries.map fun g => (g.state, g.reason, g.inPath, g.removed))
        = [(.brokenOpen, some .jam, 0, 1)] := by decide +kernel

/-- R148: under ON_NOTICE a notice for a held bin with its door closed empties it. -/
theorem test_bin_emptied :
    ((after (.binEmptied 4) { base with stacker := { base.stacker with
        bins := base.stacker.bins.set .b4 { readyBin with stacked := 1500, hold := true, state := .offline } } }).stacker.bins.b4)
      = readyBin
    ∧ (after (.binEmptied 7) base).link.reports
      = [.streamFault { StreamFault.zero with refused := 1, lastRefused := some .binEmptied }] := by decide +kernel

/-- R190: the STATUS counts itself in the Report Queue occupancy. -/
theorem test_query :
    (after .query base).link.reports
      = [.status { state := .running, fault := none, further := 0, orders := 0, reports := 1, sheets := 0, groups := 0,
                   late := 0, anomalies := 0 }] := by decide +kernel

/-- Table 10-5: a record dropped with a bad check. -/
theorem test_dropped_record :
    (after (.droppedRecord .badCheck) base).link.reports = [.streamFault { StreamFault.zero with badCheck := 1 }] := by
  decide +kernel

/-- R51: the arrival of the picked sheet. -/
theorem test_staging_arrival :
    let s := { busy with
      track := { busy.track with sheets := [{ staged0 with state := .picking }] }
      feeders := { busy.feeders with t1 := { held 0 with request := true, deadline := some 108000 } } }
    ((after (.stagingCoveredEdge .t1) s).track.sheets.map Sheet.state) = [.staged]
    ∧ (after (.stagingCoveredEdge .t1) s).feeders.t1 = held 0 := by decide +kernel

/-- R57: a STAGED sheet that leaves the stop unreleased is SHORT there. -/
theorem test_staged_sheet_leaves :
    ((after (.stagingUncoveredEdge .t1) busy).ctl.firstFault.map fun r => (r.kind, r.station, r.tag))
      = some (.short, some (.st .t1), some 7001) := by decide +kernel

/-- R93, R95: a simplex sheet at FX needs EXIT, the position held, so no command is sent; it goes on to XS. -/
theorem test_exit_decision :
    (after (.pathCoveredEdge .fx) (dueAt .fx [.xs])).sent = []
    ∧ ((after (.pathCoveredEdge .fx) (dueAt .fx [.xs])).track.sheets.map Sheet.itinerary) = [[.xs]] := by decide +kernel

/-- Table 5-7, case 2: a covered edge with no window open at MG is UNEXPECTED there, with no tag. -/
theorem test_unexpected_at_mg :
    ((after (.pathCoveredEdge .mg) base).ctl.firstFault.map fun r => (r.kind, r.station, r.tag))
      = some (.unexpected, some (.path .mg), none) := by decide +kernel

/-- R130: the trail at AC puts the sheet into the set. -/
theorem test_trail_at_ac :
    (after (.pathUncoveredEdge .ac) (leaving .ac)).acc
      = { setGroup := some 0, sheets := [{ seq := 0, tag := 7001 }], eject := none }
    ∧ ((after (.pathUncoveredEdge .ac) (leaving .ac)).groups.entries.map fun g => (g.inPath, g.inSet)) = [(0, 1)] := by
  decide +kernel

/-- Table 3-4: drawer and paper sensors. -/
theorem test_tray_lines :
    (after (.drawerOpening .t3) base).feeders.t3.state = .opened
    ∧ (after (.drawerClosing .t3) { base with feeders := { base.feeders with
        t3 := { base.feeders.t3 with state := .opened, drawerOpen := true, paperLow := true } } }).feeders.t3.state = .low
    ∧ (after (.paperSensorEdge .t3 .out true) base).feeders.t3.state = .empty := by decide +kernel

/-- R52: a misfeed with an attempt left is retried, with a new deadline. -/
theorem test_misfeed_is_retried :
    let s := { busy with
      track := { busy.track with sheets := [{ staged0 with state := .picking, attempts := 1 }] }
      feeders := { busy.feeders with t1 := { held 0 with request := true, deadline := some 100000 } } }
    (after (.pickDeadline .t1) s).sent = [.pickRequest .t1]
    ∧ (after (.pickDeadline .t1) s).feeders.t1.deadline = some 108000
    ∧ ((after (.pickDeadline .t1) s).track.sheets.map Sheet.attempts) = [2] := by decide +kernel

/-- R61, R68: the first boundary launches the STAGED sheet. -/
theorem test_expiry_launches :
    let s := { busy with arbiter := { busy.arbiter with expiryDue := true } }
    (after .pitchExpiry s).sent = [.releaseRequest .t1] ∧ (after .pitchExpiry s).arbiter.launchCounter = 1
    ∧ ((after .pitchExpiry s).track.sheets.map fun x => (x.state, x.itinerary))
        = [(.moving, [.mg, .rg, .tr, .fx, .xs])] := by decide +kernel

def locked : State := { busy with
  tables := { busy.tables with parameters := some parLocked }
  clock := { busy.clock with watchArmed := true, watchReference := 93000 } }

/-- R11: a pulse is a boundary and moves the watch's reference. -/
theorem test_pulse :
    (after .cadencePulse locked).arbiter.slotIndex = 1 ∧ (after .cadencePulse locked).clock.watchReference = 100000
    ∧ (after .cadencePulse busy).arbiter = busy.arbiter := by decide +kernel

/-- R13: two pitches after the reference, 93,000 + 7,000, cadence is lost. -/
theorem test_cadence_loss :
    (after .cadenceLoss locked).clock.cadenceLost = true ∧ (after .cadenceLoss locked).ctl.drainReason = some .cadence
    ∧ ((after .cadenceLoss locked).groups.entries.map Group.reason) = [some .cadence] := by decide +kernel

/-- R87: the late limit of a window, reached to the tick. -/
theorem test_late :
    let s := { dueAt .tr [.fx, .xs] with clock := { base.clock with tick := 100082 } }
    ((after (.lateLimitReached 0) s).ctl.firstFault.map fun r => (r.kind, r.station, r.tag, r.group))
      = some (.late, some (.path .tr), some 7001, some 70) := by decide +kernel

/-- R90: the long limit at a covered station. -/
theorem test_stall :
    ((after (.stall 0 (.path .tr)) { leaving .tr with clock := { base.clock with tick := 100169 } }).ctl.firstFault.map
      fun r => (r.kind, r.station)) = some (.stall, some (.path .tr)) := by decide +kernel

def sampled (values : List Byte) (starts : List Tick) : State :=
  { dueAt .tr [.fx, .xs] with
    track := { (dueAt .tr [.fx, .xs]).track with
      sheets := [{ moving0 .tr [.fx, .xs] (win .tr) with sampling := .sampling values starts }]
      gauge := some (0, values.length + 1) } }

/-- R98: the middle of 40, 90 and 72 meets the double threshold of N 40; that of 40, 19 and 12 is below the thin one. -/
theorem test_median :
    ((after (.conversionCompletion 72) (sampled [40, 90] [])).ctl.firstFault.map fun r => (r.kind, r.station))
      = some (.doubleFeed, some (.path .rg))
    ∧ (after (.conversionCompletion 71) (sampled [40, 90] [])).ctl.state = .running
    ∧ ((after (.conversionCompletion 12) (sampled [40, 19] [])).track.sheets.map Sheet.spoil) = [some .thin] := by
  decide +kernel

/-- R97: a start that is reached at an idle gauge. -/
theorem test_conversion_start :
    let s := { sampled [] [100000, 100300, 100600] with track := { (sampled [] [100000, 100300, 100600]).track with gauge := none } }
    (after (.conversionStart 0) s).track.gauge = some (0, 1) ∧ (after (.conversionStart 0) s).sent = [.conversionRequest] := by
  decide +kernel

def cued : State := { dueAt .tr [.fx, .xs] with
  track := { (dueAt .tr [.fx, .xs]).track with sheets := [{ moving0 .tr [.fx, .xs] (win .tr) with cueA := .cued }] }
  cue := { outstanding := [{ seq := 0, side := .a }], late := 65534 } }

/-- R110 to R112: answers that match a cue, and one that matches none. -/
theorem test_answers :
    ((after (.readyAnswer 0 .a) cued).track.sheets.map fun x => (x.cueA, x.destination)) = [(.ready, .stack)]
    ∧ ((after (.declineAnswer 0 .a) cued).track.sheets.map fun x => (x.cueA, x.spoil)) = [(.declined, some .imageDeclined)]
    ∧ ((after (.declineAnswer 0 .a) cued).groups.entries.map Group.reason) = [some .image]
    ∧ (after (.readyAnswer 0 .b) cued).cue.late = 65535 := by decide +kernel

def looped (x : LoopState) (d : Option Tick) : State := { busy with
  feeders := base.feeders
  track := { busy.track with sheets := [{ staged0 with state := .looped, plex := .duplex, route := some .freshLoop,
                                                       launchOrder := some 0, launchTick := some 90000 }] }
  arbiter := { busy.arbiter with pendingSecond := 1 }
  loop := [{ seq := 0, state := x, handOver := 98000, deadline := d }] }

/-- R120, R121: a PARKED report, and the park deadline. -/
theorem test_loop :
    (after .parked (looped .inbound (some 102000))).loop = [{ seq := 0, state := .parked, handOver := 98000, deadline := none }]
    ∧ (after .parked base).track.anomalies = 1
    ∧ ((after .parkDeadline (looped .inbound (some 100000))).ctl.firstFault.map fun r => (r.kind, r.station))
        = some (.late, some .dp) := by decide +kernel

/-- 8.8: B2 with one allowance of 12 at 1480 of 1500, and B3 at 300. -/
def allowance : State := { base with stacker := { base.stacker with
  bins := { base.stacker.bins with b2 := { readyBin with stacked := 1480 }, b3 := { readyBin with stacked := 300 } }
  allowances := [{ group := 70, bin := .b2, count := 12, alternate := some .b3 }] } }

/-- Table 8-4, first rows: B2's free room is 8, so 9 sheets are granted by B3 and 8 by B2. -/
theorem test_table_8_4 :
    allowance.freeRoom .b2 = 8 ∧ allowance.freeRoom .b3 = 1200
    ∧ allowance.grantBin (some .b2) (some .b3) 9 = some .b3 ∧ allowance.grantBin (some .b2) (some .b3) 8 = some .b2 := by
  decide

/-- A set of one sheet, complete, at the head of the accumulator. -/
def setOf (g : Group) (e : Option Eject) : State := { base with
  groups := { entries := [g], nextKey := 1 }
  acc := { setGroup := some 0, sheets := [{ seq := 0, tag := 7001 }], eject := e }
  stacker := { base.stacker with
    allowances := if g.state.broken then [] else [{ group := 0, bin := .b1, count := 1, alternate := some .b2 }] } }

def closed0 : Group := { open0 with state := .closed, lastTag := some 7001, declared := 1, inPath := 0, inSet := 1 }

/-- An eject in flight, its deadline at the tick the states stand at. -/
def flying (x : EjectTarget) (status : EjectStatus) : Eject :=
  { target := x, jog := .left, count := 1, deadline := if status = .active then some 100000 else none, status := status }

/-- R135, R145: a delivery under ALTERNATE turns the jog position, and the bill is reported whole. -/
theorem test_delivery :
    let s := setOf { closed0 with policy := .alternate } (some (flying (.bin .b1) .active))
    (after .ejectDone s).stacker.bins.b1 = { readyBin with stacked := 1, jog := .right }
    ∧ (after .ejectDone s).link.reports.head? = some (.groupResult
        { group := 70, outcome := .delivered (some .b1) (some .left), firstTag := 7001, lastTag := some 7001,
          accepted := 1, delivered := 1, purged := 0, removed := 0, unfed := 0 }) := by decide +kernel

/-- R137: the eject deadline. -/
theorem test_eject_timeout :
    ((after .ejectTimeout (setOf closed0 (some (flying (.bin .b1) .active)))).ctl.firstFault.map fun r => (r.kind, r.group))
      = some (.ejectTimeout, some 70) := by decide +kernel

/-- R147: a door close under ON_DOOR empties the bin, under ON_NOTICE holds it. -/
theorem test_bin_doors :
    (after (.binDoorClosing .b1) { base with stacker := { base.stacker with
        bins := base.stacker.bins.set .b1 { readyBin with stacked := 9, doorOpen := true, state := .offline } } }).stacker.bins.b1
      = readyBin
    ∧ (after (.binDoorClosing .b4) { base with stacker := { base.stacker with
        bins := base.stacker.bins.set .b4 { readyBin with stacked := 9, doorOpen := true, state := .offline } } }).stacker.bins.b4
      = { readyBin with stacked := 9, hold := true, state := .offline }
    ∧ (after (.fullSensorEdge .b1 true) base).stacker.bins.b1.state = .full := by decide +kernel

/-- R149, R160, R161: interlocks. -/
theorem test_interlocks :
    ((after .purgeDoorOpening busy).ctl.firstFault.map FaultRecord.kind) = some .purgeOpen
    ∧ ((after .coverOpening busy).ctl.firstFault.map FaultRecord.kind) = some .coverOpen
    ∧ (after .purgeDoorClosing { base with stacker := { base.stacker with purgeStacked := 1000 } }).stacker.purgeStacked = 0 := by
  decide +kernel

/-- R171 to R173: a runout with nothing launched ends in SAFE in the same event. -/
theorem test_power_warn :
    (after .powerWarnAsserted busy).ctl.state = .safe
    ∧ (after .powerWarnAsserted (dueAt .tr [.fx, .xs])).ctl.state = .runout
    ∧ (after .powerWarnCleared (at' .safe base)).ctl.state = .standby := by decide +kernel

/-- R156, R170: the ends of warm-up and of the clearance run, reached to the tick. -/
theorem test_timed_ends :
    (after .warmupEnd { base with ctl := { ctlIn .warmup with warmupEnd := some 100000 } }).ctl.state = .running
    ∧ (after .warmupEnd { base with ctl := { ctlIn .warmup with warmupEnd := some 100001 } }).ctl.state = .warmup
    ∧ (after .runEnd { base with ctl := { ctlIn .recovery with runEnd := some 100000 } }).ctl.state = .standby := by
  decide +kernel

/-- R186, R191: a completed transmission, with the line still asserted, sends the next report. -/
theorem test_transmission :
    let s := { base with link := { base.link with reports := [.credit 1, .loadResult .media none], transmitting := true, returnReady := true } }
    (after .transmissionComplete s).link.reports = [.loadResult .media none]
    ∧ (after .transmissionComplete s).sent = [.frame (Report.frame (.loadResult .media none))] := by decide +kernel

/-- R191: the line begins a transmission, and its clearing ends none. -/
theorem test_return_ready :
    (after .returnReadyAsserted (withReports 1 base)).link.transmitting = true
    ∧ (after .returnReadyCleared { withReports 1 base with link := { (withReports 1 base).link with
        transmitting := true, returnReady := true } }).link.transmitting = true := by decide +kernel

/-- R175: A5h, and only it, ends HUNT. -/
theorem test_bytes :
    (after (.startDelimiter 0xA5) base).link.framer = .receive []
    ∧ (after (.startDelimiter 0x5A) base).link.framer = .hunt := by decide +kernel

/-! ### Witnesses: for each statement with hypotheses, states and operands that meet them -/

theorem witness_StepRunsFrontCommand :
    ({ base with pending := [.start, .halt] } : State).pending = .start :: [.halt] := rfl

theorem witness_CommandsNeverStop : base.pending = [] ∧ ∀ l, Instr.query ≠ .powerOnReset l := ⟨rfl, fun _ => nofun⟩

/-- A path tick with nothing due and no load to come; the fraction accumulator and the pitch counter at their turns. -/
theorem witness_CommandsNeverStop_tick :
    (∀ c, base.link.pendingLoad ≠ some (.parameters c)) ∧ (∀ i b, Queued.load .parameters i b ∉ base.link.orders)
    ∧ (∀ e ∈ base.toPart.clockEvents, e base.toPart.start = none) ∧ base.tables.parameters = some par
    ∧ State.reset.tables.parameters = none
    ∧ base.clock.fraction + base.clock.spdFrac < 16
    ∧ (let s : State := { base with clock := { base.clock with spdFrac := 15, fraction := 1 } }
       16 ≤ s.clock.fraction + s.clock.spdFrac)
    ∧ base.arbiter.pitch + 1 < par.pitch
    ∧ (let s : State := { base with arbiter := { base.arbiter with pitch := 3499 } }
       par.pitch ≤ s.arbiter.pitch + 1) := by
  have h : base.link.pendingLoad = none ∧ base.link.orders = [] := by decide +kernel
  refine ⟨fun c e => ?_, fun i b e => ?_, by decide +kernel⟩
  · rw [h.1] at e; exact nomatch e
  · rw [h.2] at e; exact nomatch e

/-- Every statement about the next state of a command: a command has one. -/
theorem witness_NothingIsLeftUndone : exec (.sheetOrder (order 70 (some ⟨2, 0⟩) false 0)) base
    = .next (after (.sheetOrder (order 70 (some ⟨2, 0⟩) false 0)) base) := rfl

theorem witness_OrderQueueIsFifo : (∀ l, Instr.stop ≠ .powerOnReset l) ∧ (∀ l, Instr.stop ≠ .controllerReset l)
    ∧ exec .stop (withHead .purge base) = .next (after .stop (withHead .purge base)) :=
  ⟨fun _ => nofun, fun _ => nofun, rfl⟩

theorem witness_OnlyBoundariesLaunch : (∀ l, Instr.drainEnd ≠ .powerOnReset l) ∧ (∀ l, Instr.drainEnd ≠ .controllerReset l)
    ∧ Instr.drainEnd ≠ .pitchExpiry ∧ Instr.drainEnd ≠ .cadencePulse ∧ exec .drainEnd busy = .next (after .drainEnd busy) :=
  ⟨fun _ => nofun, fun _ => nofun, nofun, nofun, rfl⟩

theorem of_none {α : Type} {o : Option α} {P : α → Prop} (h : o = none) : ∀ r, o = some r → P r :=
  fun _ e => nomatch h.symm.trans e

theorem of_nil {α : Type} {l : List α} {P : α → Prop} (h : l = []) : ∀ x ∈ l, P x :=
  fun x m => by rw [h] at m; exact nomatch m

theorem of_true {b : Bool} {P : Prop} (h : b = true) : b = false → P := fun e => nomatch h.symm.trans e

/-- Transport and Fault Capture agree in states with no fault captured and no deadline. -/
theorem transport_of (s : State)
    (h : s.ctl.firstFault = none ∧ s.ctl.locked = s.ctl.state.stopped ∧ s.ctl.firstFault.isSome = s.ctl.state.stopped
      ∧ s.ctl.further = 0 ∧ s.ctl.drainReason.isSome = (s.ctl.state == .draining)
      ∧ s.ctl.warmupEnd.isSome = (s.ctl.state == .warmup) ∧ s.ctl.runEnd.isSome = (s.ctl.state == .recovery)
      ∧ s.ctl.runEndReached = false ∧ s.clock.watchArmed = false ∧ (s.track.sheets.all fun x => !x.isSampling) = true
      ∧ (TrayId.list.all fun t => (s.feeders.get t).deadline.isNone && !(s.feeders.get t).request) = true) :
    s.TransportAgrees := by
  obtain ⟨h1, h2, h3, h4, h5, h6, h7, h8, h9, h10, h11⟩ := h
  refine ⟨⟨h2, h3, of_none h1, fun _ => h4⟩, h5, h6, h7, by simp [h8], by simp [h9], fun _ x hx => ?_, fun t => ?_⟩
  · simpa using List.all_eq_true.mp h10 x hx
  · have := List.all_eq_true.mp h11 t (by cases t <;> simp [TrayId.list])
    simp only [Bool.and_eq_true, Option.isNone_iff_eq_none, Bool.not_eq_true'] at this
    simp [this.1, this.2]

theorem transport_of_standby : (at' .standby base).TransportAgrees := transport_of _ (by decide +kernel)

theorem transport_of_busy : busy.TransportAgrees := transport_of _ (by decide +kernel)

theorem transport_of_warmup :
    ({ base with ctl := { ctlIn .warmup with warmupEnd := some 100000 } } : State).TransportAgrees :=
  transport_of _ (by decide +kernel)

theorem transport_of_draining :
    ({ busy with ctl := { ctlIn .draining with drainReason := some .load } } : State).TransportAgrees :=
  transport_of _ (by decide +kernel)

theorem transport_of_jammed : jammed.TransportAgrees := by
  unfold Part.TransportAgrees Part.CaptureAgrees Part.TimedAgrees
  and_intros
  all_goals first | decide +kernel | exact fun t => by cases t <;> decide +kernel

/-- One way of each kind is taken. -/
theorem witness_WaysBetweenTransportStates :
    (after .start (at' .standby base)).ctl.state = .warmup
    ∧ (after .clearFault jammed).ctl.state = .recovery ∧ jammed.ctl.state.stopped = true
    ∧ (after .clearFault jammed).ctl.state.stopped = false
    ∧ (after .warmupEnd { base with ctl := { ctlIn .warmup with warmupEnd := some 100000 } }).ctl.state = .running
    ∧ (after .powerWarnAsserted (dueAt .tr [.fx, .xs])).ctl.state = .runout
    ∧ (after .halt (at' .standby base)).ctl.state ≠ .standby := by decide +kernel

/-- The last byte of a record's frame. -/
def lastByte (r : Inbound) : Byte := r.frame.getLastD 0

/-- `s` with the framer in RECEIVE, all of the record's frame taken but its last byte. -/
def atLast (r : Inbound) (s : State) : State :=
  { s with link := { s.link with framer := .receive (r.frame.tail.dropLast) } }

/-- The last byte of a control's frame takes each way that the control takes. -/
theorem witness_WaysBetweenTransportStates_bytes :
    (atLast .start (at' .standby base)).link.framer.step (lastByte .start) = .record .start
    ∧ (after (.startDelimiter (lastByte .start)) (atLast .start (at' .standby base))).ctl.state = .warmup
    ∧ (after (.startDelimiter (lastByte .halt)) (atLast .halt (at' .standby base))).ctl.state = .halted
    ∧ (after (.startDelimiter (lastByte .clearFault)) (atLast .clearFault jammed)).ctl.state = .recovery := by
  decide +kernel

theorem bounds_of_busy : busy.Bounded := by unfold Part.Bounded; decide +kernel

theorem tables_of_busy : busy.TablesHold := by unfold Part.TablesHold; decide +kernel

theorem pitch_of_busy : busy.PitchInRange := by
  have h : busy.tables.parameters = some par := by decide +kernel
  unfold Part.PitchInRange
  rw [h]
  decide +kernel

theorem loaded_of_busy : busy.TablesLoaded := ⟨fun _ => by decide +kernel, fun _ => by decide +kernel⟩

theorem reports_of_busy : busy.ReportsAgree := by
  have e : busy.link.held.slots = .none ∧ busy.link.waiting = .none := by decide +kernel
  refine ⟨fun k => by cases k <;> decide +kernel, fun k => ?_, fun k => ?_, fun k => ?_, by decide +kernel,
    by decide +kernel, of_nil (by decide +kernel)⟩
  · rw [e.2]; cases k <;> decide +kernel
  · exact of_none (by rw [e.1]; cases k <;> rfl)
  · exact of_none (by rw [e.2]; cases k <;> rfl)

theorem entries_of_busy : busy.groups.entries = [open0] := by decide +kernel

theorem only_open0 {P : Group → Prop} (h : P open0) : ∀ g ∈ busy.groups.entries, P g := fun g m => by
  rw [entries_of_busy, List.mem_singleton] at m
  exact m ▸ h

theorem groups_of_busy : busy.GroupsAgree :=
  ⟨by decide +kernel, only_open0 (by unfold Group.Agrees; decide +kernel), only_open0 (by decide +kernel),
    fun k h => ⟨open0, by decide +kernel, by
      have e : busy.planner.openGroup = some 0 := by decide +kernel
      rw [e] at h; cases h; rfl⟩,
    of_nil (by decide +kernel)⟩

theorem account_of_busy : busy.BillsAccounted := by
  unfold Part.BillsAccounted
  decide +kernel

theorem seqs_of_busy : busy.SeqsFree := by unfold Part.SeqsFree Part.SeqsFreeFor; decide +kernel

theorem places_of_busy : busy.SheetsPlaced :=
  ⟨by decide +kernel, by decide +kernel, of_nil (by decide +kernel),
    fun t => by cases t <;> decide +kernel, by decide +kernel⟩

theorem bound_staged0 : staged0.Bound := by
  unfold Sheet.Bound
  decide +kernel

theorem whole_of_busy : busy.BillsWhole := by
  have a : busy.stacker.allowances = [{ group := 0, bin := .b1, count := 2, alternate := none }] := by decide +kernel
  have x : busy.sheetsOf open0.key = [staged0] := by decide +kernel
  have whole : ∀ s ∈ busy.sheetsOf open0.key, s.Bound := fun s h => by
    rw [x, List.mem_singleton] at h
    exact h ▸ bound_staged0
  have account : open0.purged = 0 ∧ open0.removed = 0 ∧ open0.unfed = 0 ∧ open0.delivered = 0 := by decide +kernel
  refine ⟨only_open0 fun _ => ⟨account.1, account.2.1, account.2.2.1, .inl account.2.2.2, whole⟩,
    only_open0 fun h => absurd h (by decide +kernel), by decide +kernel, by decide +kernel, fun y h => ?_,
    of_none (by decide +kernel), of_none (by decide +kernel)⟩
  rw [a, List.mem_singleton] at h
  subst h
  exact ⟨open0, by decide +kernel⟩

theorem bins_of_busy : busy.BinsFormed := fun b => by cases b <;> decide +kernel

theorem loop_of_busy : busy.LoopOrdered := by unfold Part.LoopOrdered; decide +kernel

theorem ranged_of_busy : busy.Ranged := by
  unfold Part.Ranged
  and_intros
  all_goals first | decide +kernel | exact fun b => by cases b <;> decide +kernel

theorem room_of_busy : busy.RoomKept := ⟨fun b => by cases b <;> decide +kernel, by decide +kernel⟩

theorem route_of_staged0 : staged0.RouteAgrees := by
  unfold Sheet.RouteAgrees Sheet.meets
  decide +kernel

theorem counted_of_busy : busy.LoopCounted :=
  ⟨by decide +kernel, by decide +kernel, by decide +kernel, by decide +kernel, fun s m => by
    have e : busy.track.sheets = [staged0] := by decide +kernel
    rw [e, List.mem_singleton] at m
    exact m ▸ route_of_staged0⟩

/-- The premises of every invariant's statement hold together of `busy`, and a step of it goes on. -/
theorem witness_StepKeeps : busy.Sound ∧ (busy.track.sheets.map Sheet.seq).Nodup ∧ (0 + 16 ≤ 65536 ∧ busy.SeqsFreeFor (0 + 16))
    ∧ ∃ t, step busy = .next t :=
  ⟨⟨bounds_of_busy, ranged_of_busy, transport_of_busy, tables_of_busy, pitch_of_busy, loaded_of_busy, reports_of_busy,
    groups_of_busy, account_of_busy, seqs_of_busy, places_of_busy, whole_of_busy, bins_of_busy, loop_of_busy, room_of_busy,
    counted_of_busy⟩, by decide +kernel, ⟨by decide, seqs_of_busy⟩, _, rfl⟩

theorem witness_FramerJudgesByCheckThenForm :
    ([] : List Byte).length ≤ 1020 ∧ (List.replicate 1020 (0 : Byte)).length ≤ 1020 := by decide +kernel

theorem witness_InboundFramesReadBack :
    (Inbound.queued (.order (order 70 (some ⟨64, 0xFFFF⟩) true 15))).wellFormed = true
    ∧ (Inbound.queued (.load .geometry 255 (List.replicate 510 0))).wellFormed = true
    ∧ (Inbound.queued (.load .routing 0 [])).wellFormed = true := by decide +kernel

def receiving (taken : List Byte) : State := { base with link := { base.link with framer := .receive taken } }

/-- The least length above 1020. -/
theorem witness_FramerJudgesByCheckThenForm_long :
    1020 < 256 * (0x03 : Byte).toNat + (0xFD : Byte).toNat ∧ (receiving [0x13, 0x03]).link.framer = .receive [0x13, 0x03] := by
  decide +kernel

/-- The four ends of a record; the check over 21 00 00 is that of R176. -/
theorem witness_BytesMoveTheFramer :
    base.link.framer = .hunt ∧ (0x5A#8) ≠ 0xA5#8
    ∧ (receiving [0x21]).link.framer.step 0 = .more (.receive [0x21, 0])
    ∧ (receiving ([0x21, 0, 0] ++ (bytes16 (check [0x21, 0, 0]).toNat).take 1)).link.framer.step
        ((bytes16 (check [0x21, 0, 0]).toNat).getD 1 0) = .record .halt
    ∧ (receiving ([0x21, 0, 0] ++ (bytes16 (check [0x21, 0, 0]).toNat).take 1)).link.framer.step
        ((bytes16 (check [0x21, 0, 0]).toNat).getD 1 0 + 1) = .bad
    ∧ (receiving [0x13, 0x03]).link.framer.step 0xFD = .malformed := by decide +kernel

/-- Each record that the framer can end with, met by the last byte of its frame. -/
theorem witness_BytesMoveTheFramer_records :
    ([.start, .clearFault, .query, .binEmptied 6, .queued .stop, .queued .purge,
      .queued (.order (order 70 (some ⟨2, 1⟩) false 3)), .queued (.load .routing 28 (List.replicate 7 0))] : List Inbound).all
      (fun r => (atLast r base).link.framer.step (lastByte r) == .record r) = true
    ∧ tableOf? (LoadRecord.table ⟨4, 28, 1, List.replicate 7 0⟩).toNat = some .routing
    ∧ (List.replicate 7 (0 : Byte)).length = (1 : Byte).toNat * TableId.entrySize .routing := by decide +kernel

def withOrders (n : Nat) (s : State) : State := { s with link := { s.link with orders := List.replicate n .purge } }

theorem witness_QueuedRecordsJoinTheQueue :
    (withOrders 63 base).link.orders.length < 64
    ∧ tableOf? (LoadRecord.table ⟨4, 28, 1, List.replicate 7 0⟩).toNat = some .routing
    ∧ (List.replicate 7 (0 : Byte)).length = (1 : Byte).toNat * TableId.entrySize .routing
    ∧ 3 + (List.replicate 7 (0 : Byte)).length ≤ 1020 := by decide +kernel

theorem witness_DropsCountAndBreakTheOpenGroup :
    tableOf? (LoadRecord.table ⟨6, 0, 1, []⟩).toNat = none ∧ tableOf? (LoadRecord.table ⟨0, 0, 1, []⟩).toNat = none
    ∧ 64 ≤ (withOrders 64 base).link.orders.length
    ∧ busy.openGroup? = some open0 ∧ open0.state = .admitting ∧ open0.accepted < 64
    ∧ busy.queuedOf .streamFault = 0 ∧ busy.link.held.slots.streamFault = none ∧ busy.link.reports.length < 64 := by decide +kernel

/-- A LOAD of a known table one byte short; the STREAM FAULT record queued, held for want of a place, and being sent. -/
def faultQueued (sending : Bool) : State := { base with link := { base.link with
  reports := [.streamFault { StreamFault.zero with orphan := 65535 }, .credit 1], transmitting := sending } }

def faultHeld : State := { withReports 64 base with link := { (withReports 64 base).link with
  held := { base.link.held with slots := { Slots.none with streamFault := some (.streamFault StreamFault.zero) } } } }

theorem witness_DropsCountAndBreakTheOpenGroup_counts :
    tableOf? (LoadRecord.table ⟨4, 0, 1, List.replicate 6 0⟩).toNat = some .routing
    ∧ (List.replicate 6 (0 : Byte)).length ≠ (1 : Byte).toNat * TableId.entrySize .routing
    ∧ (List.replicate 1020 (0 : Byte)).length = (170 : Byte).toNat * TableId.entrySize .media
    ∧ 1020 < 3 + (List.replicate 1020 (0 : Byte)).length
    ∧ (faultQueued false).link.reports = [] ++ .streamFault { StreamFault.zero with orphan := 65535 } :: [.credit 1]
    ∧ (faultQueued false).sendingKind ≠ some .streamFault ∧ (faultQueued true).sendingKind = some .streamFault
    ∧ (faultQueued true).link.waiting.streamFault = none
    ∧ faultHeld.queuedOf .streamFault = 0 ∧ faultHeld.link.held.slots.streamFault = some (.streamFault StreamFault.zero)
    ∧ (withReports 64 base).queuedOf .streamFault = 0 ∧ 64 ≤ (withReports 64 base).link.reports.length
    ∧ (let s : State := { faultQueued true with link := { (faultQueued true).link with
         waiting := { Slots.none with streamFault := some (.streamFault StreamFault.zero) } } }
       s.sendingKind = some .streamFault ∧ s.link.waiting.streamFault = some (.streamFault StreamFault.zero)) := by
  decide +kernel

def sendingStatus (b : Bool) : State := { base with link := { base.link with
  reports := [.credit 1, .status (base.statusNow 2)], transmitting := b } }

theorem witness_QueryMakesAStatus :
    (withReports 63 base).sendingKind ≠ some .status ∧ (withReports 63 base).queuedOf .status = 0
    ∧ (withReports 63 base).link.held.slots.status = none ∧ (withReports 63 base).link.reports.length < 64
    ∧ (sendingStatus true).sendingKind ≠ some .status ∧ 0 < (sendingStatus true).queuedOf .status
    ∧ (withReports 64 base).queuedOf .status = 0 ∧ (withReports 64 base).link.held.slots.status = none
    ∧ 64 ≤ (withReports 64 base).link.reports.length
    ∧ (let s : State := { withReports 64 base with link := { (withReports 64 base).link with
         held := { base.link.held with slots := { Slots.none with status := some (.status (base.statusNow 65)) } } } }
       s.queuedOf .status = 0 ∧ s.link.held.slots.status.isSome = true)
    ∧ (let s : State := { base with link := { base.link with
         reports := [.status (base.statusNow 1)], transmitting := true } }
       s.sendingKind = some .status ∧ s.link.waiting.status.isSome = false) := by decide +kernel

theorem witness_CreditFollowsTheTakenCount :
    (withReports 63 base).sendingKind ≠ some .credit ∧ (withReports 63 base).queuedOf .credit = 0
    ∧ (withReports 63 base).link.held.slots.credit = none ∧ (withReports 63 base).link.reports.length < 64
    ∧ (withReports 64 base).queuedOf .credit = 0 ∧ 64 ≤ (withReports 64 base).link.reports.length
    ∧ (sendingStatus false).link.reports = [] ++ .credit 1 :: [.status (base.statusNow 2)]
    ∧ (sendingStatus false).sendingKind ≠ some .credit ∧ (sendingStatus true).sendingKind = some .credit
    ∧ (sendingStatus true).link.waiting.credit = none
    ∧ ({ base with link := { base.link with taken := 30 } } : State).link.taken < 31
    ∧ ({ base with link := { base.link with taken := 31 } } : State).link.taken = 31 := by decide +kernel

/-- ATTENTION appended or held, refreshed in the queue or held, and kept pending behind one being sent. -/
theorem witness_CreditFollowsTheTakenCount_attention :
    let a : Report := .attention base.attentionNow
    let queued (sending : Bool) : State := { base with link := { base.link with reports := [a], transmitting := sending } }
    base.queuedOf .attention = 0 ∧ base.link.held.slots.attention = none ∧ base.link.reports.length < 64
    ∧ (withReports 64 base).queuedOf .attention = 0 ∧ 64 ≤ (withReports 64 base).link.reports.length
    ∧ ({ base with link := { base.link with held := { base.link.held with
          slots := { Slots.none with attention := some a } } } } : State).link.held.slots.attention.isSome = true
    ∧ (queued false).sendingKind ≠ some .attention ∧ 0 < (queued false).queuedOf .attention
    ∧ (queued true).sendingKind = some .attention := by decide +kernel

theorem witness_TransmissionsFollowTheLine :
    (withReports 1 base).link.transmitting = false
    ∧ (after .returnReadyAsserted (withReports 1 base)).link.returnReady = true
    ∧ (after .returnReadyAsserted (withReports 1 base)).link.transmitting = true := by decide +kernel

def oneSent (h : Held) (w : Slots) : State := { base with
  groups := { entries := [{ closed0 with inSet := 0, delivered := 1 }], nextKey := 1 }
  link := { base.link with reports := [.credit 1, .credit 2], transmitting := true, held := h, waiting := w } }

def noHeld : Held := { fault := none, slots := .none, results := [] }

def aFault : FaultRecord :=
  { kind := .late, station := none, tag := none, group := none, tick := 0, state := .running, occupancy := 0 }

/-- Each kind as the first in its turn, held or pending. -/
theorem witness_FreedPlaceGoesToTheFirstHeld :
    let kept (v w : Slots) : State := oneSent { noHeld with slots := v } w
    let f : Option Report := some (.streamFault StreamFault.zero)
    let a : Option Report := some (.attention base.attentionNow)
    let t : Option Report := some (.status (base.statusNow 9))
    (oneSent noHeld .none).link.transmitting = true ∧ (oneSent noHeld .none).link.reports = .credit 1 :: [.credit 2]
    ∧ (oneSent { noHeld with fault := some aFault } .none).link.held.fault = some aFault
    ∧ (kept ⟨some (.credit 3), f, a, t⟩ .none).link.held.slots.get .credit = some (.credit 3)
    ∧ (kept .none ⟨some (.credit 3), none, none, none⟩).link.waiting.get .credit = some (.credit 3)
    ∧ (kept ⟨none, f, a, t⟩ .none).link.held.slots.get .streamFault = f
    ∧ (kept ⟨none, f, a, t⟩ .none).link.held.slots.get .credit = none
    ∧ (kept .none ⟨none, f, none, none⟩).link.waiting.get .streamFault = f
    ∧ (kept ⟨none, none, a, t⟩ .none).link.held.slots.get .streamFault = none
    ∧ ((kept ⟨none, none, a, t⟩ .none).link.held.slots.get .attention).isSome = true
    ∧ (kept ⟨none, none, none, t⟩ .none).link.held.slots.get .attention = none
    ∧ ((kept .none ⟨none, none, none, t⟩).link.waiting.get .status).isSome = true
    ∧ (oneSent noHeld .none).link.held.results = []
    ∧ (CoalescedKind.list.all fun k => ((oneSent noHeld .none).link.waiting.get k).isNone
        && ((oneSent noHeld .none).link.held.slots.get k).isNone) = true
    ∧ (oneSent { noHeld with results := [0] } .none).link.held.results = 0 :: []
    ∧ (oneSent { noHeld with results := [0] } .none).group? 0 = some { closed0 with inSet := 0, delivered := 1 } := by
  decide +kernel

theorem witness_FaultsAreCaptured : base.ctl.locked = false ∧ (withReports 63 base).link.reports.length < 64
    ∧ 64 ≤ (withReports 64 base).link.reports.length ∧ jammed.ctl.locked = true := by decide +kernel

theorem witness_StartEntersWarmup : let s := at' .standby base
    s.ctl.state = .standby ∧ s.tables.geometry.isSome = true ∧ s.tables.parameters.isSome = true
    ∧ s.tables.media.isSome = true ∧ s.tables.binMap.isSome = true ∧ s.ctl.coverOpen = false ∧ s.ctl.powerWarn = false
    ∧ s.stacker.purgeDoorOpen = false
    ∧ ({ s with stacker := { s.stacker with purgeDoorOpen := true } } : State).stacker.purgeDoorOpen = true
    ∧ base.ctl.state = .running := by decide +kernel

theorem witness_HaltStopsTheTransport : busy.ctl.locked = false ∧ busy.ctl.state ≠ .halted ∧ busy.ctl.state ≠ .jammed
    ∧ busy.ctl.state ≠ .safe ∧ (at' .safe base).ctl.state = .safe := by decide +kernel

def stoppedBySet : State := { setOf closed0 none with ctl := { jammed.ctl with
  firstFault := jammed.ctl.firstFault.map fun r => { r with kind := .ejectTimeout } } }

def doorOpen (s : State) : State := { s with stacker := { s.stacker with purgeDoorOpen := true } }

theorem groups_of_jammed : jammed.GroupsAgree := by
  have h := groups_of_busy
  unfold Part.GroupsAgree at h ⊢
  exact h

theorem account_of_jammed : jammed.BillsAccounted := by
  have h := account_of_busy
  unfold Part.BillsAccounted at h ⊢
  exact h

theorem witness_ClearFaultSweepsThePath : jammed.GroupsAgree ∧ jammed.BillsAccounted
    ∧ jammed.ctl.state.stopped = true ∧ jammed.ctl.coverOpen = false
    ∧ jammed.tables.geometry.isSome = true ∧ jammed.tables.parameters.isSome = true
    ∧ jammed.firstCovered = none ∧ jammed.stacker.purgeDoorOpen = false ∧ (doorOpen jammed).stacker.purgeDoorOpen = true
    ∧ ({ jammed with sensors := { jammed.sensors with path := jammed.sensors.path.set .pg true } } : State).firstCovered
        = some .pg
    ∧ jammed.ctl.firstFault.map (fun r => r.kind.faultClass) ≠ some .stacker
    ∧ stoppedBySet.ctl.firstFault.map (fun r => r.kind.faultClass) = some .stacker ∧ open0 ∈ jammed.groups.entries
    ∧ (jammed.feeders.get .t1).holder = some 0 ∧ jammed.track.sheets.any (fun x => x.seq = 0) = true
    ∧ open0.inPath ≠ 0 ∧ closed0.inPath = 0 ∧ closed0.inSet ≠ 0 :=
  ⟨groups_of_jammed, account_of_jammed, by decide +kernel⟩

theorem witness_RefusedControlsOnlyCount :
    ((at' .draining base).ctl.state ≠ .standby ∧ (at' .draining base).ctl.state ≠ .warmup
      ∧ (at' .draining base).ctl.state ≠ .running)
    ∧ ((at' .standby State.reset).ctl.state = .standby ∧ State.reset.tables.geometry = none)
    ∧ base.ctl.state.stopped = false ∧ (0 : Byte) = 0 ∧ 6 < (7 : Byte).toNat ∧ State.reset.tables.binMap = none := by decide +kernel

theorem witness_TimedStatesEnd :
    (let s : State := { base with ctl := { ctlIn .warmup with warmupEnd := some 100000 } }
     s.ctl.state = .warmup ∧ s.toPart.reachedBy s.ctl.warmupEnd = true)
    ∧ (let s : State := { base with ctl := { ctlIn .recovery with runEnd := some 100000 } }
       s.ctl.state = .recovery ∧ s.toPart.reachedBy s.ctl.runEnd = true ∧ s.acc.sheets = [] ∧ s.acc.eject = none)
    ∧ (let s : State := { setOf closed0 (some (flying .purge .active)) with ctl := { ctlIn .recovery with runEnd := some 100000 } }
       s.toPart.reachedBy s.ctl.runEnd = true ∧ s.acc.eject.isSome = true)
    ∧ ((at' .draining base).ctl.state = .draining ∧ (at' .draining base).toPart.pathEmpty = true)
    ∧ ((at' .runout base).ctl.state = .runout ∧ (at' .runout base).toPart.pathEmpty = true
      ∧ (at' .runout base).ctl.powerWarn = false)
    ∧ ({ base with ctl := { ctlIn .runout with powerWarn := true } } : State).ctl.powerWarn = true := by decide +kernel

theorem witness_PowerWarnRunsThePathOut : busy.ctl.state = .running ∧ (busy.track.sheets.map Sheet.seq).Nodup
    ∧ busy.openGroup? = some open0 ∧ open0.state = .admitting ∧ staged0 ∈ busy.track.sheets ∧ staged0.state = .staged
    ∧ busy.group? staged0.group = some open0 ∧ (at' .safe base).ctl.state = .safe
    ∧ (at' .recovery base).ctl.state ≠ .warmup ∧ (at' .recovery base).ctl.state ≠ .running
    ∧ (at' .recovery base).ctl.state ≠ .draining
    ∧ busy.planner.openGroup = some 0 ∧ (busy.feeders.get .t1).holder = some staged0.seq
    ∧ (busy.feeders.get .t2).holder = none := by decide +kernel

theorem witness_InterlocksStopTheTransport : busy.ctl.state.moving = true ∧ busy.ctl.locked = false
    ∧ (at' .warmup base).ctl.state = .warmup ∧ (at' .standby base).ctl.state.moving = false
    ∧ (at' .standby base).ctl.state ≠ .warmup := by decide +kernel

def entry (g : Group) : State := withSheet g staged0 base

theorem witness_BreaksSpoilAndRelease :
    busy.toPart.group? 1 = none
    ∧ ((entry { open0 with state := .brokenClosed, reason := some .jam }).toPart.group? 0).any (fun g => g.state.broken) = true
    ∧ ((entry { open0 with accepted := 63, declared := 64 }).toPart.group? 0).any
        (fun g => !g.state.broken && decide (g.accepted < 64)) = true
    ∧ ((entry { open0 with accepted := 64, declared := 64, state := .closed, lastTag := some 1 }).toPart.group? 0).any
        (fun g => !g.state.broken && decide (g.state = .closed)) = true
    ∧ ((entry { open0 with accepted := 64, declared := 64 }).toPart.group? 0).any
        (fun g => !g.state.broken && decide (64 ≤ g.accepted ∧ g.state = .admitting)) = true := by decide +kernel

def granted : Grant := { bin := .b1, alternate := none, policy := .fixed, media := media0, tray := .t1 }

/-- R23 at its edge: with 57 reports queued and none in the Group Table the report reserve is met exactly. -/
theorem witness_AdmissionNeedsItsConditions :
    (withReports 57 base).admissionCheck (order 70 (some ⟨64, 0⟩) true 0) ⟨64, 0⟩ = .ok granted
    ∧ (withReports 58 base).admissionCheck (order 70 (some ⟨64, 0⟩) true 0) ⟨64, 0⟩ = .error .report := by decide +kernel

/-- An account class that the second entry's mask lets through, and one that no entry takes. -/
def routed : State := { base with tables := { base.tables with
  routing := [{ valid := true, value := 0x1000, mask := 0xF000, bin := 1, jog := 0 },
              { valid := true, value := 0x2000, mask := 0xF000, bin := 2, jog := 1 }] } }

theorem witness_AdmissionNeedsItsConditions_lookups :
    let hit (a : Half) (e : RoutingEntry) : Bool := e.valid && (a &&& e.mask == e.value &&& e.mask)
    routed.tables.routing
      = [{ valid := true, value := 0x1000, mask := 0xF000, bin := 1, jog := 0 }]
        ++ { valid := true, value := 0x2000, mask := 0xF000, bin := 2, jog := 1 } :: []
    ∧ (routed.tables.routing.map (hit 0x2001)) = [false, true] ∧ (routed.tables.routing.map (hit 0x3000)) = [false, false]
    ∧ trayOf? media0.primary = some .t1 ∧ trayOf? media0.alternate = some .t2 ∧ trayOf? media1.alternate = none
    ∧ (base.feeders.get .t1).state = .ready
    ∧ (let s : State := { base with feeders := { base.feeders with t1 := { base.feeders.t1 with state := .empty } } }
       (s.feeders.get .t1).state = .empty ∧ (s.feeders.get .t2).state = .ready) := by decide +kernel

/-- The waiting reasons, each at the first condition that fails. -/
theorem witness_AdmissionNeedsItsConditions_waits :
    let first (d : Byte) : State → State := withHead (.order (order 70 (some ⟨d, 0⟩) false 0))
    let further : State → State := withHead (.order (order 70 none false 0))
    (first 2 (at' .standby base)).plannerWait = .none
    ∧ (first 2 { withReports 58 base with ctl := base.ctl }).link.orders.length = 1
    ∧ (first 2 base).plannerWait = .none ∧ (first 65 base).plannerWait = .none
    ∧ (first 2 { base with sensors := { base.sensors with staging := base.sensors.staging.set .t1 true } }).plannerWait = .tray
    ∧ (first 2 { base with stacker := { base.stacker with bins := .all { readyBin with full := true } } }).plannerWait = .bin
    ∧ (first 2 { base with stacker := { base.stacker with purgeStacked := 1000 } }).plannerWait = .purgeRoom
    ∧ (further busy).plannerWait = .tray ∧ (further base).plannerWait = .none
    ∧ (withHead (.load .media 0 []) { base with link := { base.link with
          held := { noHeld with fault := some aFault } } }).plannerWait = .report := by decide +kernel

theorem groups_of_base : base.GroupsAgree := ⟨by decide +kernel, of_nil (by decide +kernel), of_nil (by decide +kernel), of_none (by decide +kernel),
    of_nil (by decide +kernel)⟩

theorem witness_AdmissionOpensTheGroup (last : Bool) :
    let o := order 70 (some ⟨1, 0⟩) last 0
    let s := withHead (.order o) base
    s.link.orders = .order o :: [] ∧ o.first = some ⟨1, 0⟩ ∧ s.planner.openGroup = none
    ∧ 1 ≤ (1 : Byte).toNat ∧ (64 : Byte).toNat ≤ 64 ∧ s.admissionCheck o ⟨1, 0⟩ = .ok granted
    ∧ s.GroupsAgree ∧ (∀ a ∈ s.stacker.allowances, a.group ≠ s.groups.nextKey) :=
  ⟨rfl, rfl, rfl, by decide +kernel, by decide +kernel, by cases last <;> decide +kernel, groups_of_base, of_nil (by cases last <;> decide +kernel)⟩

theorem witness_BrokenFromTheStart :
    let o := order 70 (some ⟨65, 0⟩) true 0
    let s := withHead (.order o) (withReports 57 base)
    s.link.orders = .order o :: [] ∧ o.first = some ⟨65, 0⟩ ∧ s.planner.openGroup = none ∧ s.ctl.state = .running
    ∧ s.groups.entries.length < 16 ∧ s.link.reports.length + (s.groups.entries.length + 1) + 6 ≤ 64
    ∧ 64 < (65 : Byte).toNat ∧ (0 : Byte).toNat < 1 ∧ s.media? (15 : BitVec 4).toNat = none := by decide +kernel

/-- Three places of the open group: within its declared count, at it, and the 65th order of one that declared 64. -/
theorem witness_FurtherOrdersArePicked :
    let o := order 70 none false 1
    let s := withHead (.order o) busy
    let full := withHead (.order o) (entry { open0 with accepted := 64, declared := 64 })
    s.link.orders = .order o :: [] ∧ o.first = none ∧ s.openGroup? = some open0 ∧ open0.id = o.group
    ∧ open0.state = .admitting ∧ open0.accepted ≠ open0.declared ∧ s.media? o.media.toNat = some media1
    ∧ s.ctl.state = .running ∧ (match s.pickCheck media1 with | .ok t => t == .t2 | _ => false) = true
    ∧ s.ctl.state.examines = true
    ∧ (let g := { open0 with accepted := 63, declared := 63 }
       (entry g).openGroup? = some g ∧ g.accepted = g.declared ∧ g.accepted < 64)
    ∧ s.media? (15 : BitVec 4).toNat = none
    ∧ full.openGroup? = some { open0 with accepted := 64, declared := 64 } := by decide +kernel

theorem witness_DiscardedOrders :
    let o := order 70 none false 1
    let g := { open0 with state := .brokenOpen, reason := some .purged, accepted := 63 }
    let s := withHead (.order o) (at' .safe (entry g))
    s.link.orders = .order o :: [] ∧ o.first = none ∧ s.ctl.state.examines = true
    ∧ s.openGroup? = some g ∧ g.id = o.group ∧ g.state = .brokenOpen
    ∧ (withHead (.order o) base).openGroup? = none ∧ (withHead (.order { o with group := 71 }) busy).openGroup? = some open0
    ∧ open0.id ≠ 71 ∧ open0.accepted < 64 ∧ s.link.taken < 31 ∧ s.queuedOf .streamFault = 0
    ∧ s.link.held.slots.streamFault = none ∧ s.link.reports.length < 64 := by decide +kernel

theorem witness_StopAndPurgeAreTaken :
    (withHead .stop busy).link.orders = .stop :: [] ∧ busy.ctl.state = .running ∧ busy.openGroup? = some open0
    ∧ open0.state = .admitting ∧ (at' .safe busy).ctl.state = .safe ∧ (at' .draining busy).ctl.state = .draining
    ∧ (withHead .purge busy).link.orders = .purge :: [] ∧ busy.ctl.state.examines = true
    ∧ (let g := { open0 with state := .brokenOpen, reason := some .count }
       (entry g).openGroup? = some g ∧ g.state = .brokenOpen) := by decide +kernel

/-- A FIRST order that comes to an empty queue while a group is open. -/
theorem witness_StopAndPurgeAreTaken_first : busy.GroupsAgree ∧ busy.link.orders = []
    ∧ (order 71 (some ⟨1, 0⟩) true 0).first = some ⟨1, 0⟩ ∧ busy.ctl.state.examines = true
    ∧ busy.planner.openGroup = some 0 ∧ busy.group? 0 = some open0 ∧ open0.state = .admitting :=
  ⟨groups_of_busy, by decide +kernel⟩

def routingRun (bin : Byte) : List Byte := [0x80, 0x20, 0, 0xF0, 0, bin, 1]

theorem witness_LiveLoadsTakeEffectAtOnce :
    (withReports 63 base).link.reports.length < 64 ∧ (withReports 63 base).anyHeld = false
    ∧ (withHead (.load .routing 31 (routingRun 7)) base).link.orders = .load .routing 31 (routingRun 7) :: []
    ∧ (routingEntries []).length = 0 ∧ 32 < 32 + (routingEntries (routingRun 7)).length
    ∧ 31 + (routingEntries (routingRun 7)).length ≤ 32 ∧ (∃ e ∈ routingEntries (routingRun 8), 7 < e.bin)
    ∧ (∀ e ∈ routingEntries (routingRun 7), e.bin ≤ 7 ∧ e.jog ≤ 1) ∧ base.link.taken < 31
    ∧ (withHead (.load .binMap 14 [0, 1, 0, 0]) base).link.orders = .load .binMap 14 [0, 1, 0, 0] :: []
    ∧ (base.checkBinMap 14 (binMapEntries 14 [0, 1, 0, 0])).isOk = true
    ∧ (base.checkBinMap 14 (binMapEntries 14 [0, 0, 0, 0])).isOk = false := by decide +kernel

/-- Bin 4 goes from ON_NOTICE to ON_DOOR, its door open or closed, held or not; every cause of a refused Bin Map. -/
theorem witness_LiveLoadsTakeEffectAtOnce_binMap :
    let loaded (first : Nat) (l : List Byte) := base.checkBinMap first (binMapEntries first l)
    base.tables.binMap = some bins ∧ bins.mode .b4 = .onNotice ∧ bins.mode .b1 = .onDoor
    ∧ (match loaded 11 [5, 220, 0, 0] with
       | .ok c => BinMap.mode ⟨c⟩ .b4 == .onDoor
       | .error _ => false) = true
    ∧ ({ readyBin with doorOpen := true } : Bin).doorOpen = true ∧ readyBin.doorOpen = false
    ∧ ({ readyBin with hold := true } : Bin).hold = true ∧ readyBin.hold = false
    ∧ loaded 15 [5, 220, 0, 0] = .error .extent ∧ loaded 0 [] = .error .extent
    ∧ State.reset.checkBinMap 14 (binMapEntries 14 [0, 1, 0, 0]) = .error .incomplete
    ∧ loaded 7 [7, 0, 0, 0] = .error .range ∧ loaded 7 [6, 6, 0, 0] = .error .conflict
    ∧ ({ base with stacker := { base.stacker with purgeStacked := 2 } } : State).checkBinMap 14
        (binMapEntries 14 [0, 1, 0, 0]) = .error .cross := by decide +kernel

theorem witness_LockedLoadsWaitForAnEmptyPath :
    let l : Queued := .load .geometry 0 [0x0F, 0xFF]
    (withHead l base).link.orders = l :: [] ∧ TableId.geometry ≠ .routing ∧ TableId.geometry ≠ .binMap
    ∧ base.link.reports.length < 64 ∧ base.anyHeld = false ∧ base.link.pendingLoad = none ∧ base.link.taken < 31
    ∧ (base.checkLocked .geometry 0 [0x0F, 0xFF]).isOk = true ∧ (base.checkLocked .geometry 0 [0x10, 0]).isOk = false
    ∧ base.toPart.pathEmpty = true ∧ busy.toPart.pathEmpty = false ∧ busy.ctl.state = .running
    ∧ (at' .draining busy).ctl.state = .draining
    ∧ ({ base with link := { base.link with pendingLoad := some (.geometry geo.entries) } } : State).link.pendingLoad
        = some (.geometry geo.entries) := by decide +kernel

/-- The group open at a load that waits, ADMITTING or BROKEN_OPEN; every cause of a refused locked load. -/
theorem witness_LockedLoadsWaitForAnEmptyPath_causes :
    busy.openGroup? = some open0 ∧ open0.state = .admitting
    ∧ (let g := { open0 with state := .brokenOpen, reason := some .count }
       (entry g).openGroup? = some g)
    ∧ (base.checkLocked .geometry 8 [1, 0]).isOk = false ∧ (State.reset.checkLocked .geometry 1 [1, 0]).isOk = false
    ∧ base.checkLocked .geometry 7 [0, 49] = .error .range ∧ (base.checkLocked .geometry 7 [0, 50]).isOk = true
    ∧ base.checkLocked .parameters 21 [0, 8] = .error .range
    ∧ base.checkLocked .parameters 9 [2, 89] = .error .conflict ∧ (base.checkLocked .parameters 9 [2, 88]).isOk = true
    ∧ base.checkLocked .parameters 2 [6, 113] = .error .cross ∧ (base.checkLocked .parameters 2 [6, 114]).isOk = true
    ∧ base.checkLocked .media 15 [0x80, 3, 231, 1, 0, 40] = .error .range
    ∧ base.checkLocked .media 15 [0x80, 4, 176, 1, 1, 40] = .error .conflict
    ∧ base.checkLocked .media 15 [0x80, 4, 106, 1, 0, 40] = .error .cross
    ∧ (base.checkLocked .media 15 [0x80, 4, 107, 1, 0, 40]).isOk = true := by decide +kernel

theorem witness_StagingEdges :
    (let s : State := { busy with feeders := { busy.feeders with t1 := { held 0 with request := true } } }
     (s.feeders.get .t1).request = true ∧ (s.feeders.get .t1).holder = some 0)
    ∧ (let s : State := { base with feeders := { base.feeders with t1 := { base.feeders.t1 with abandoned := true } } }
       (s.feeders.get .t1).request = false ∧ (s.feeders.get .t1).abandoned = true)
    ∧ ((base.feeders.get .t4).request = false ∧ (base.feeders.get .t4).abandoned = false ∧ base.ctl.state.matching = true
      ∧ base.ctl.locked = false ∧ (at' .recovery base).ctl.state = .recovery ∧ (at' .safe base).ctl.state.moving = false)
    ∧ (busy.toPart.covering (.st .t1) = none ∧ (busy.feeders.get .t1).holder.bind busy.toPart.sheet? = some staged0
      ∧ staged0.state = .staged ∧ busy.ctl.state.matching = true)
    ∧ base.toPart.covering (.st .t2) = none ∧ (base.feeders.get .t2).holder.bind base.toPart.sheet? = none := by
  decide +kernel

/-- R57: an uncovered edge at a stop that no record holds, in RECOVERY. -/
theorem test_uncovered_in_recovery :
    (after (.stagingUncoveredEdge .t2) (at' .recovery base)).track.anomalies = base.track.anomalies + 1
    ∧ (after (.stagingUncoveredEdge .t2) (at' .recovery base)).sensors.staging.get .t2 = false := by decide +kernel

/-- A good trail at a staging stop, met at its short limit. -/
theorem witness_StagingEdges_trail :
    let r : Sheet := { moving0 .mg [.rg] (win .mg) with covered := [cover (.st .t1)] }
    (withSheet open0 r base).toPart.Clears r (.st .t1) := ⟨by decide +kernel, by decide +kernel, by decide +kernel⟩

/-- The same trail one tick too soon. -/
theorem witness_StagingEdges_short :
    let r : Sheet := { moving0 .mg [.rg] (win .mg) with covered := [{ cover (.st .t1) with short := 100001 }] }
    let s := withSheet open0 r base
    s.toPart.covering (.st .t1) = some r ∧ s.toPart.tooSoon r (.st .t1) = true ∧ s.ctl.state.matching = true
    ∧ s.ctl.locked = false := by decide +kernel

theorem witness_LeadArrivals (q : PathSensor) :
    (dueAt q []).toPart.Arrives (moving0 q [] (win q)) q ∧ (dueAt q []).toPart.collides 0 = false := by
  cases q <;> exact ⟨⟨by decide +kernel, by decide +kernel, _, rfl, by decide +kernel⟩, by decide +kernel⟩

theorem witness_LeadArrivals_tables : base.toPart.tables.geometry = some geo ∧ base.toPart.tables.parameters = some par
    ∧ geometryOk geo.entries = true ∧ parametersOk par.entries = true ∧ 1000 ≤ 1000 ∧ 6000 ≤ 6000
    ∧ geometryOk [100, 50, 16383, 50, 50, 50, 50, 50] = true := by decide +kernel

def manyCues : List Cue := [⟨9, .a⟩, ⟨9, .b⟩, ⟨8, .a⟩, ⟨8, .b⟩]

theorem witness_CuesAndSettlement :
    (dueAt .rg [.tr]).toPart.Arrives (moving0 .rg [.tr] (win .rg)) .rg
    ∧ cued.toPart.Arrives { moving0 .tr [.fx, .xs] (win .tr) with cueA := .cued } .tr
    ∧ ((dueAt .rg [.tr]).track.sheets.map Sheet.seq).Nodup
    ∧ ((moving0 .rg [.tr] (win .rg)).image .a = true ∧ (moving0 .rg [.tr] (win .rg)).destination = .stack
      ∧ (moving0 .rg [.tr] (win .rg)).cueState .a = .none)
    ∧ (manyCues.take 3).length < 4 ∧ 4 ≤ manyCues.length
    ∧ ({ moving0 .tr [.fx, .xs] (win .tr) with cueA := .cued } : Sheet).cueState .a = .cued :=
  ⟨⟨by decide +kernel, by decide +kernel, _, rfl, by decide +kernel⟩,
    ⟨by decide +kernel, by decide +kernel, _, rfl, by decide +kernel⟩, by decide +kernel⟩

/-- The sheet due at FX or XS with the gate held by another in the position it does not need: GATE_CONFLICT. -/
def conflict (q : PathSensor) (rest : List PathSensor) : State := { dueAt q rest with
  gates := { gd := .loop, gx := .purge, gdOccupants := [{ seq := 9, release := none }]
             gxOccupants := [{ seq := 9, release := some 100000 }] } }

/-- GD is free or held otherwise, GX held otherwise; a release tick met exactly. -/
theorem witness_GateDecisions :
    (dueAt .fx [.xs]).toPart.Arrives (moving0 .fx [.xs] (win .fx)) .fx
    ∧ (dueAt .xs [.ac]).toPart.Arrives (moving0 .xs [.ac] (win .xs)) .xs
    ∧ (conflict .fx [.xs]).toPart.Arrives (moving0 .fx [.xs] (win .fx)) .fx
    ∧ (conflict .xs [.ac]).toPart.Arrives (moving0 .xs [.ac] (win .xs)) .xs
    ∧ (dueAt .fx [.xs]).gates.gdOccupants = []
    ∧ (conflict .fx [.xs]).gates.gdOccupants ≠ [] ∧ (conflict .fx [.xs]).gates.gd ≠ .exit
    ∧ (conflict .fx [.xs]).ctl.locked = false
    ∧ (conflict .xs [.ac]).gates.gxOccupants ≠ [] ∧ (conflict .xs [.ac]).gates.gx ≠ .stack
    ∧ (conflict .xs [.ac]).ctl.locked = false ∧ (conflict .xs [.ac]).ctl.state.moving = true
    ∧ { seq := 9, release := some 100000 : Occupant } ∈ (conflict .xs [.ac]).gates.gxOccupants
    ∧ (conflict .xs [.ac]).toPart.reachedBy (some 100000) = true := by
  refine ⟨?_, ?_, ?_, ?_, by decide +kernel⟩
  all_goals exact ⟨by decide +kernel, by decide +kernel, _, rfl, by decide +kernel⟩

theorem witness_GoodTrails (q : PathSensor) :
    ∃ r, (leaving q).toPart.Clears r (.path q) ∧ (leaving q).toPart.collides r.group = false
      ∧ (leaving q).group? r.group = some open0 := by
  cases q <;> exact ⟨_, ⟨by decide +kernel, rfl, by decide +kernel⟩, by decide +kernel, by decide +kernel⟩

/-- A sheet that leaves at AC with its staging stop still covered, and so still the holder of its position. -/
theorem witness_GoodTrails_holder (q : PathSensor) :
    let s : State := { leaving q with feeders := { base.feeders with t1 := held 0 } }
    (∃ r, s.toPart.Clears r (.path q) ∧ (s.feeders.get .t1).holder = some r.seq) := by
  cases q <;> exact ⟨_, ⟨by decide +kernel, rfl, by decide +kernel⟩, by decide +kernel⟩

theorem witness_GoodTrails_other :
    base.ctl.state.matching = true ∧ base.toPart.covering (.path .dl) = none ∧ (at' .standby base).ctl.state.moving = false
    ∧ (at' .recovery base).ctl.state = .recovery := by decide +kernel

theorem witness_PathFaultsStopTheTransport :
    base.ctl.locked = false ∧ base.toPart.expectedAt .mg = []
    ∧ (let w := { win .mg with early := 100001 }
       let s := { withSheet open0 (moving0 .mg [] w) base with feeders := base.feeders }
       lowestLaunch (s.toPart.expectedAt .mg) = some (moving0 .mg [] w) ∧ lower s.clock.tick w.early = true)
    ∧ (let e := { cover (.path .mg) with short := 100001 }
       let s : State := { dueAt .rg [] with track := { (dueAt .rg []).track with
         sheets := [{ moving0 .rg [] (win .rg) with covered := [e] }] } }
       (s.toPart.covering (.path .mg)).any (fun r => s.toPart.tooSoon r (.path .mg)) = true)
    ∧ (at' .recovery base).ctl.state = .recovery
    ∧ (let s := { dueAt .ac [] with acc := { setGroup := some 1, sheets := [{ seq := 9, tag := 1 }], eject := none } }
       s.toPart.collides 0 = true)
    ∧ lower (100082 : Tick) (win .tr).late = false ∧ lower (100169 : Tick) (cover (.path .tr)).long = false
    ∧ lower base.clock.tick (100000 : Tick) = false
    ∧ (looped .inbound (some 100000)).loop = { seq := 0, state := .inbound, handOver := 98000, deadline := some 100000 } :: []
    ∧ ((looped .inbound (some 100000)).toPart.sheet? 0).isSome = true
    ∧ (setOf closed0 (some (flying (.bin .b1) .active))).acc.eject = some (flying (.bin .b1) .active) := by decide +kernel

/-- An INBOUND sheet behind a PARKED one, its park deadline reached. -/
theorem witness_PathFaultsStopTheTransport_behind :
    let e : LoopEntry := { seq := 0, state := .inbound, handOver := 98000, deadline := some 100000 }
    let s : State := { looped .inbound none with loop := [{ e with seq := 9, state := .parked, deadline := none }, e] }
    s.loop = [{ e with seq := 9, state := .parked, deadline := none }] ++ e :: []
    ∧ (∀ x ∈ [{ e with seq := 9, state := .parked, deadline := none }], x.state = .parked)
    ∧ (s.toPart.sheet? e.seq).isSome = true ∧ (s.loop.map LoopEntry.seq).Nodup := by decide +kernel

theorem witness_DeadlinesWaitOutsideTheirStates : (at' .jammed base).ctl.state.moving = false
    ∧ (at' .draining base).ctl.state ≠ .warmup ∧ (at' .draining base).ctl.state ≠ .running := by decide +kernel

/-- The states in which a deadline is met in a path tick: a late limit, a long limit, a park deadline, an eject
deadline, a gate release, a conversion start, a pick deadline, a warm-up end, a run end and the cadence deadline. -/
def dueTick : List State :=
  let late : State := { dueAt .tr [.fx, .xs] with clock := { base.clock with tick := 100082 } }
  let long : State := { leaving .tr with clock := { base.clock with tick := 100169 } }
  let release : State := { leaving .xs with gates := (conflict .xs [.ac]).gates }
  let sampling : State := { sampled [] [100000, 100300, 100600] with
    track := { (sampled [] [100000, 100300, 100600]).track with gauge := none } }
  let pick : State := { busy with
    track := { busy.track with sheets := [{ staged0 with state := .picking }] }
    feeders := { busy.feeders with t1 := { held 0 with request := true, deadline := some 100000 } } }
  [late, long, looped .inbound (some 100000), setOf closed0 (some (flying (.bin .b1) .active)), release, sampling, pick,
   { base with ctl := { ctlIn .warmup with warmupEnd := some 100000 } },
   { base with ctl := { ctlIn .recovery with runEnd := some 100000 } }, locked]

/-- Each meets the premises on the queue, the tables and the places of the records. -/
theorem witness_DeadlinesWait_premises : ∀ s ∈ dueTick,
    s.pending = [] ∧ (s.track.sheets.map Sheet.seq).Nodup ∧ s.TablesHold ∧ s.TablesLoaded
    ∧ (∀ x ∈ s.track.sheets, x.state ≠ .moving → x.window = none ∧ x.covered = [])
    ∧ s.CaptureAgrees := by
  unfold Part.TablesHold Part.TablesLoaded Part.CaptureAgrees
  decide +kernel

theorem witness_DeadlinesWait_late :
    let s : State := { dueAt .tr [.fx, .xs] with clock := { base.clock with tick := 100082 } }
    s.TransportAgrees ∧ s.SheetsPlaced ∧ moving0 .tr [.fx, .xs] (win .tr) ∈ s.track.sheets
    ∧ lower s.clock.tick (win .tr).late = false ∧ s.ctl.state.moving = true := by
  refine ⟨transport_of _ (by decide +kernel), ⟨by decide +kernel, by decide +kernel, of_nil (by decide +kernel),
    fun t => by cases t <;> decide +kernel, by decide +kernel⟩, by decide +kernel⟩

/-- Each of them is taken in the tick. -/
theorem witness_DeadlinesWait_taken :
    (dueTick.take 4).all (fun s => !s.idle.ctl.state.moving) = true
    ∧ (dueTick.drop 4).map (fun s => (s.idle.ctl.state, s.idle.gates.gxOccupants.length))
        = [(.running, 0), (.running, 0), (.running, 0), (.running, 0), (.standby, 0), (.draining, 0)] := by decide +kernel

theorem witness_TrayLinesGiveTheTrayState : (base.feeders.get .t1).request = false := by decide +kernel

def picking (attempts : Nat) (media : Nat) (f : Feeder) : State := { busy with
  track := { busy.track with sheets := [{ staged0 with state := .picking, attempts := attempts, media := media }] }
  feeders := { busy.feeders with t1 := f } }

/-- A drawer opened under an outstanding request: media 0 has T2 to move to, media 1 no other tray, and in DRAINING the
sheet stays. -/
theorem witness_TrayLinesGiveTheTrayState_request :
    let f := { held 0 with request := true, deadline := some 100000 }
    let s := picking 0 0 f
    (s.feeders.get .t1).request = true ∧ (s.feeders.get .t1).holder = some 0
    ∧ (s.toPart.sheet? 0).any (fun x => x.tray == .t1) = true ∧ s.ctl.state = .running
    ∧ s.media? 0 = some media0 ∧ media0.otherTray .t1 = some .t2 ∧ TrayId.t2 ≠ .t1
    ∧ (s.feeders.get .t2).state = .ready ∧ s.toPart.stagingFree .t2 = true
    ∧ media1.otherTray .t1 = none ∧ media5.otherTray .t4 = some .t3
    ∧ ({ s with feeders := { s.feeders with t2 := held 1 } } : State).toPart.stagingFree .t2 = false
    ∧ (at' .draining s).ctl.state = .draining := by decide +kernel

/-- PICK_RETRIES is 2: one attempt fewer is retried, two are not; media 0 has T2 as its other tray, media 1 has none. -/
theorem witness_MisfeedsAndStalls :
    let f := { held 0 with request := true, deadline := some 100000 }
    let s := picking 1 0 f
    s.ctl.state = .running ∧ f.request = true ∧ f.deadline = some 100000 ∧ lower s.clock.tick 100000 = false
    ∧ f.holder = some 0 ∧ (s.toPart.sheet? 0).any (fun x => x.tray == .t1 && x.attempts == 1) = true ∧ f.state = .ready
    ∧ 1 < s.params.pickRetries ∧ s.params.pickRetries ≤ 2
    ∧ s.media? 1 = some media1 ∧ media1.otherTray .t1 = none
    ∧ s.media? 0 = some media0 ∧ media0.otherTray .t1 = some .t2 ∧ (s.feeders.get .t2).state = .ready
    ∧ s.toPart.stagingFree .t2 = true
    ∧ (let e := picking 0 1 { f with state := .empty }
       (e.feeders.get .t1).state = .empty)
    ∧ (let e := picking 0 0 { f with state := .empty }
       (e.feeders.get .t1).state = .empty ∧ (e.feeders.get .t2).state = .ready ∧ e.toPart.stagingFree .t2 = true)
    ∧ (let e : State := { s with feeders := { s.feeders with t2 := { held 1 with holder := none, state := .empty } } }
       (e.feeders.get .t2).state = .empty)
    ∧ ({ s with feeders := { s.feeders with t2 := held 1 } } : State).toPart.stagingFree .t2 = false
    ∧ (let e := picking 2 0 (held 0)
       (lowestSeq (e.track.sheets.filter fun y => e.toPart.stalled y && (e.toPart.stallTray y).isSome)).isSome = true
         ∧ e.sensors.staging.get .t1 = false)
    ∧ (let e := picking 2 0 { held 0 with state := .fault }
       (lowestSeq (e.track.sheets.filter fun y => e.toPart.stalled y && (e.toPart.stallTray y).isSome)).any
         (fun x => e.toPart.moveTarget x == some .t2) = true) := by decide +kernel

theorem witness_BoundariesAndCadence :
    (base.params.locked && !base.clock.cadenceLost) = false ∧ (locked.params.locked && !locked.clock.cadenceLost) = true
    ∧ locked.clock.watchArmed = true
    ∧ lower locked.clock.tick (locked.clock.watchReference + BitVec.ofNat 32 (2 * locked.params.pitch)) = false
    ∧ ({ base with arbiter := { base.arbiter with expiryDue := true } } : State).arbiter.expiryDue = true
    ∧ base.arbiter.expiryDue = false ∧ locked.openGroup? = some open0
    ∧ ({ base with arbiter := { base.arbiter with block := 1 } } : State).arbiter.block = 1
    ∧ base.toPart.ffCandidate = none ∧ base.toPart.drCandidate = none ∧ base.toPart.arbiter.block = 0
    ∧ (let s : State := { picking 0 0 (held 0) with arbiter := { base.arbiter with cadenceGroup := some 0 } }
       s.toPart.ffCandidate.any (fun f => s.toPart.ffEligible 1 f) = false ∧ s.toPart.drCandidate = none
       ∧ s.arbiter.cadenceGroup = some 0
       ∧ (lowestSeq (s.track.sheets.filter fun x => x.group == 0 && x.fresh)).any (fun x => x.state == .staged) = false) := by
  decide +kernel

/-- A STAGED sheet alone, with three sheets owed at the most, and a PARKED loop head alone. -/
theorem witness_LaunchesAtOpenBoundaries :
    busy.toPart.arbiter.block = 0 ∧ busy.toPart.ffCandidate = some staged0 ∧ busy.ctl.state = .running
    ∧ staged0.state = .staged ∧ staged0.plex = .simplex ∧ busy.arbiter.pendingSecond = 0 ∧ busy.arbiter.lastExit = none
    ∧ busy.toPart.drCandidate = none ∧ (3 : Nat) < 4
    ∧ ((looped .parked none).toPart.drCandidate).isSome = true ∧ (looped .parked none).toPart.ffCandidate = none
    ∧ (looped .parked none).arbiter.lastExit = none ∧ (at' .runout base).ctl.state = .runout := by decide +kernel

/-- The last fresh sheet of a CLOSED group, and the one sheet of a group that is still ADMITTING. -/
theorem witness_LaunchesAtOpenBoundaries_cadence :
    (let s := withSheet { open0 with state := .closed } staged0 base
     (s.toPart.group? staged0.group).any (fun g => g.state == .closed) = true
     ∧ ∀ x ∈ s.track.sheets, x.group = staged0.group → x.state = .picking ∨ x.state = .staged → x.seq = staged0.seq)
    ∧ busy.toPart.group? staged0.group = some open0 ∧ open0.state ≠ .closed ∧ staged0.destination = .stack := by
  decide +kernel

theorem witness_GaugeMeasuresEachSheet :
    (let s := sampled [] [100000, 100300, 100600]
     s.ctl.state.moving = true ∧ (s.toPart.sheet? 0).any (fun r => r.sampling == .sampling [] [100000, 100300, 100600]) = true
     ∧ lower s.clock.tick 100000 = false ∧ s.track.gauge.isSome = true)
    ∧ base.track.gauge = none
    ∧ (let s := sampled [40, 90] []
       s.track.gauge = some (0, 3) ∧ (s.toPart.sheet? 0).any (fun r => r.sampling == .sampling [40, 90] []) = true)
    ∧ (let s := sampled [40] [100000]
       s.track.gauge = some (0, 2) ∧ [(40 : Byte)].length < 2
         ∧ (s.toPart.sheet? 0).any (fun r => r.sampling == .sampling [40] [100000]) = true)
    ∧ ((72 : Byte) ∈ [40, 90, (72 : Byte)]
      ∧ 2 ≤ ([40, 90, (72 : Byte)].filter fun x => x.toNat ≤ (72 : Byte).toNat).length
      ∧ 2 ≤ ([40, 90, (72 : Byte)].filter fun x => (72 : Byte).toNat ≤ x.toNat).length)
    ∧ min 255 (max (40 + 1) (2 * 40 - 8)) ≤ (72 : Byte).toNat ∧ (19 : Byte).toNat < 40 / 2 ∧ 40 / 2 ≤ (20 : Byte).toNat
    ∧ (71 : Byte).toNat < min 255 (max (40 + 1) (2 * 40 - 8)) ∧ base.ctl.locked = false := by decide +kernel

theorem witness_AnswersAndParkReports :
    ({ seq := 0, side := .b : Cue } ∉ cued.cue.outstanding) ∧ ({ seq := 0, side := .a : Cue } ∈ cued.cue.outstanding)
    ∧ (cued.toPart.sheet? 0).isSome = true
    ∧ (looped .inbound (some 102000)).loop = [] ++ { seq := 0, state := .inbound, handOver := 98000, deadline := some 102000 } :: []
    ∧ (∀ x ∈ (looped .parked none).loop, x.state = .parked) := by decide +kernel

theorem witness_SetsAreEjected_none : base.acc.eject = none ∧ base.acc.sheets = [] := by decide +kernel

theorem witness_SetsAreEjected :
    (let s := setOf closed0 none
     s.acc.setGroup = some closed0.key ∧ s.group? closed0.key = some closed0 ∧ s.acc.sheets ≠ []
     ∧ s.ctl.state.moving = true ∧ s.acc.eject = none ∧ closed0.state = .closed ∧ closed0.inSet = closed0.accepted
     ∧ closed0.bin = some .b1 ∧ (s.stacker.bins.get .b1).state = .ready ∧ (s.stacker.bins.get .b2).state = .ready
     ∧ (s.toPart.allowance? closed0.key).any (fun a => a.alternate == some .b2) = true ∧ 1 ≤ s.freeRoom .b2)
    ∧ (let s : State := { setOf closed0 none with stacker := { (setOf closed0 none).stacker with
         bins := base.stacker.bins.set .b1 { readyBin with doorOpen := true, state := .offline } } }
       (s.stacker.bins.get .b1).state ≠ .ready)
    ∧ (let g := { closed0 with state := .brokenClosed, reason := some .jam }
       (setOf g none).acc.setGroup = some g.key ∧ g.state.broken = true ∧ (setOf g none).track.sheets = [])
    ∧ (setOf closed0 (some (flying (.bin .b1) .active))).acc.eject = some (flying (.bin .b1) .active)
    ∧ (setOf closed0 (some (flying .purge .active))).acc.eject = some (flying .purge .active)
    ∧ (flying (.bin .b1) .active).status = .active ∧ (flying .purge .expired).status = .expired := by decide +kernel

theorem witness_BinsFollowDoorsAndNotices :
    base.tables.binMap = some bins ∧ bins.mode .b1 = .onDoor ∧ bins.mode .b4 = .onNotice ∧ State.reset.tables.binMap = none
    ∧ ({ readyBin with remembered := true } : Bin).remembered = true ∧ readyBin.remembered = false
    ∧ binOf? (1 : Byte).toNat = some .b1 ∧ binOf? (6 : Byte).toNat = some .b6 ∧ binOf? (4 : Byte).toNat = some .b4
    ∧ (setOf closed0 (some (flying (.bin .b4) .active))).acc.eject.any (fun e => e.target == .bin .b4) = true
    ∧ readyBin.doorOpen = false ∧ readyBin.hold = false ∧ ({ readyBin with hold := true } : Bin).hold = true
    ∧ ({ readyBin with doorOpen := true } : Bin).doorOpen = true := by decide +kernel

/-- A delivered bill of 64 sheets, and the premises of its account. -/
def resolvedBill : Group := { closed0 with declared := 64, accepted := 64, inSet := 0, delivered := 64, jog := some .left }

def resolved (n : Nat) : State := { withReports n base with groups := { entries := [resolvedBill], nextKey := 1 } }

theorem witness_GroupResolutionReportsTheBill :
    (resolved 63).groups.entries.find? (resolved 63).toPart.resolvable = some resolvedBill
    ∧ (resolved 63).link.reports.length < 64 ∧ 64 ≤ (resolved 64).link.reports.length ∧ resolvedBill.state = .closed
    ∧ (resolved 63).GroupsAgree ∧ (resolved 63).BillsAccounted ∧ (resolved 63).BillsWhole := by
  have e : (resolved 63).groups.entries = [resolvedBill] := by decide +kernel
  have only {P : Group → Prop} (h : P resolvedBill) : ∀ g ∈ (resolved 63).groups.entries, P g := fun g m => by
    rw [e, List.mem_singleton] at m
    exact m ▸ h
  unfold Part.GroupsAgree Part.BillsAccounted Part.BillsWhole
  and_intros
  all_goals first
    | decide +kernel
    | exact of_none (by decide +kernel)
    | exact of_nil (by decide +kernel)
    | exact only (by unfold Group.Agrees; decide +kernel)
    | exact only (by decide +kernel)
    | exact only fun h => absurd h (by decide +kernel)
    | exact only fun _ => ⟨by decide +kernel, by decide +kernel, by decide +kernel, .inr (by decide +kernel),
        of_nil (by decide +kernel)⟩

/-- The other clauses: a broken bill resolved, and the bill whose result is held. -/
theorem witness_GroupResolution_broken :
    let g := { closed0 with state := .brokenClosed, reason := some .jam, inSet := 0, removed := 1 }
    let s : State := { base with groups := { entries := [g], nextKey := 1 } }
    s.groups.entries.find? s.toPart.resolvable = some g ∧ g.state = .brokenClosed := by decide +kernel

end Sys2Proof.Tests
end

namespace Sys2Proof.Machine

/-! ### The machine right after reset (R6, R26, R105, R150, R174) -/

theorem reset_bounded : State.reset.Bounded := by unfold Part.Bounded; decide

theorem perBin_get_all {α : Type} (x : α) (b : BinId) : (PerBin.all x).get b = x := by cases b <;> rfl
theorem perTray_get_all {α : Type} (x : α) (t : TrayId) : (PerTray.all x).get t = x := by cases t <;> rfl

/-- Settles O7: State.reset is one state, so each promise is evaluated, tray by tray and bin by bin where it
speaks of each. -/
theorem resetKeepsThePromises : Obligations.ResetKeepsThePromises := by
  unfold Obligations.ResetKeepsThePromises
  refine ⟨?_, ?_, ?_, ?_, ?_, ?_, ?_, ?_, ?_, ?_, ?_, ?_, ?_, ?_, ?_, ?_⟩
  · exact reset_bounded
  · simp [Part.Ranged, State.reset, perBin_get_all]
  · simp [Part.TransportAgrees, Part.CaptureAgrees, Part.TimedAgrees, State.reset, perTray_get_all,
      TransportState.stopped, FaultKind.faultClass]
  · simp [Part.TablesHold, State.reset, Part.mediaInForce]; decide
  · simp [Part.PitchInRange, State.reset]
  · simp [Part.TablesLoaded, State.reset]
  · refine ⟨fun k => ?_, fun k => ?_, fun k r => ?_, fun k r => ?_, ?_, ?_, ?_⟩
    · cases k <;> decide
    · cases k <;> simp [State.reset, Slots.none, Slots.get]
    · cases k <;> simp [State.reset, Slots.none, Slots.get]
    · cases k <;> simp [State.reset, Slots.none, Slots.get]
    · decide
    · decide
    · simp [State.reset]
  · simp [Part.GroupsAgree, State.reset]
  · simp [Part.BillsAccounted, State.reset]
  · simp [Part.SeqsFree, Part.SeqsFreeFor, State.reset]
  · simp [Part.SheetsPlaced, State.reset, perTray_get_all]
  · simp [Part.BillsWhole, State.reset]
  · intro b; cases b <;> decide
  · rfl
  · simp [Part.RoomKept, State.reset, perBin_get_all, Part.reservedIn, Part.capacity, Part.purgeCapacity]
  · simp [Part.LoopCounted, State.reset]
end Sys2Proof.Machine

namespace Sys2Proof.Machine

/-! ### What a reset leaves (R174) -/

/-- A part at whose event's end nothing more follows and whose waiting reasons are current: only a transmission may
begin. -/
theorem close_eq_beginSending {p : Part} (hi : p.internal = none) (hw : p.updateWaits = p)
    (ha : p.attentionDue = false) :
    p.close = p.beginSending := by
  have hs : p.settle = p := by
    unfold Part.settle
    cases p.fuel with
    | zero => rfl
    | succ n => rw [Part.settleIn, hi]
  have hat : p.attend = p := by
    unfold Part.attend
    dsimp only
    rw [hw, ha]
    exact if_neg (by decide)
  rw [Part.close, hs, Part.finish, hat, hat]

variable (p : Part) (l : Lines) (clock : Clock) (tables : Tables) (bins : PerBin Bin) (n : Nat)

theorem afterReset_internal : (p.afterReset l clock tables bins n).internal = none := rfl

theorem afterReset_updateWaits :
    (p.afterReset l clock tables bins n).updateWaits = p.afterReset l clock tables bins n := rfl

/-- After a reset nothing more follows but the begin of a transmission, when the line is ready (R191). -/
theorem afterReset_close :
    (p.afterReset l clock tables bins n).close = (p.afterReset l clock tables bins n).beginSending :=
  close_eq_beginSending (afterReset_internal ..) (afterReset_updateWaits ..) rfl

theorem afterReset_close_eq :
    ∃ sent, (p.afterReset l clock tables bins n).close
      = { p.afterReset l clock tables bins n with
          sent := sent
          link := { (p.afterReset l clock tables bins n).link with transmitting := l.returnReady } } := by
  rw [afterReset_close]
  unfold Part.beginSending
  cases h : l.returnReady <;> simp [Part.afterReset, h, Part.send]

theorem afterReset_freshFrom : (p.afterReset l clock tables bins n).close.FreshFrom l := by
  obtain ⟨sent, h⟩ := afterReset_close_eq p l clock tables bins n
  rw [h]
  refine ⟨rfl, rfl, rfl, rfl, fun t => ?_, rfl, rfl, rfl, rfl, rfl, rfl, rfl, rfl, rfl, rfl, rfl⟩
  cases t <;> rfl

theorem powerOn_freshFrom : (p.powerOn l).close.FreshFrom l := afterReset_freshFrom ..

theorem controllerReset_freshFrom : (p.controllerReset l).close.FreshFrom l := afterReset_freshFrom ..

theorem binsFromLines_get (b : BinId) :
    (p.binsFromLines l bins).get b = (bins.get b).fromLines (l.bins.get b) (p.capacity b) := by
  cases b <;> rfl

/-- A factory bin with the levels of its lines, its capacity 0 while no Bin Map is loaded (R139, R146). -/
theorem factoryBin_fromLines (b : BinId) (x : BinLines) :
    (State.reset.stacker.bins.get b).fromLines x 0 =
      { stacked := 0, doorOpen := x.doorOpen, full := x.full, hold := false, remembered := false, jog := .left,
        state := if x.doorOpen then .offline else .full } := by
  obtain ⟨door, full⟩ := x
  cases b <;> cases door <;> cases full <;> rfl

/-- Settles O27: nothing follows a reset in its event but a transmission, so its own effect is what it leaves; a bin's
state is formed again from its lines. -/
theorem resetsLeaveTheirValues : Obligations.ResetsLeaveTheirValues := by
  intro l s
  refine ⟨⟨_, exec_powerOnReset s l, after_pending s _, ?_, ?_⟩,
    ⟨_, exec_controllerReset s l, after_pending s _, ?_, ?_⟩⟩
  · rw [after_toPart]; exact powerOn_freshFrom ..
  · obtain ⟨sent, h⟩ := afterReset_close_eq s.toPart.start l State.reset.clock State.reset.tables
      State.reset.stacker.bins 0
    rw [after_toPart, Part.powerOn, h]
    refine ⟨rfl, rfl, rfl, rfl, rfl, rfl, fun b => ?_⟩
    dsimp only [Part.afterReset]
    rw [binsFromLines_get]
    exact factoryBin_fromLines b _
  · rw [after_toPart]; exact controllerReset_freshFrom ..
  · obtain ⟨sent, h⟩ := afterReset_close_eq s.toPart.start l s.clock s.tables s.stacker.bins s.stacker.purgeStacked
    rw [after_toPart, Part.controllerReset]
    dsimp only [start_clock, start_tables, start_stacker]
    rw [h]
    refine ⟨rfl, rfl, rfl, rfl, rfl, rfl, rfl, fun b => ⟨_, rfl, ?_⟩⟩
    dsimp only [Part.afterReset]
    rw [binsFromLines_get]
    rfl
end Sys2Proof.Machine

namespace Sys2Proof.Machine

variable (p : Part)

/-! ### Entries to a transport state -/

/-- The entry to STANDBY, block by block (R14, R99, R151). -/
theorem enterStandby_eq :
    p.enterStandby = { p with
      ctl := { p.ctl with
        state := .standby, drainReason := none, warmupEnd := none, runEnd := none, runEndReached := false }
      clock := { p.clock with watchArmed := false, cadenceLost := false }
      feeders := p.feeders.map fun f => { f with deadline := none }
      track := { p.track with sheets := p.track.sheets.map Sheet.discardSampling }
      sent := p.sent ++ [.motorStop]
      attentionDue := p.attentionDue || p.clock.cadenceLost } := by
  unfold Part.enterStandby
  dsimp only
  split
  · rename_i h
    have hl : p.clock.cadenceLost = true := h
    rw [hl, Bool.or_true]
    rfl
  · rename_i h
    have hl : p.clock.cadenceLost = false := Bool.eq_false_iff.2 h
    have e : ({ p.clock with watchArmed := false, cadenceLost := false } : Clock)
        = { p.clock with watchArmed := false } :=
      congrArg (fun x => { p.clock with watchArmed := false, cadenceLost := x }) hl.symm
    rw [hl, Bool.or_false, e]
    rfl

/-- The cadence watch at an entry to RUNNING (R12). -/
theorem armWatch_eq :
    p.armWatch = { p with clock := { p.clock with
      watchArmed := p.sourceIsLine
      watchReference := if p.sourceIsLine then p.clock.tick else p.clock.watchReference } } := by
  unfold Part.armWatch
  split
  · rename_i h; rw [h]
  · rename_i h; rw [Bool.eq_false_iff.2 h]; rfl

theorem warmupEnd_some (hs : p.ctl.state = .warmup) (hd : p.reachedBy p.ctl.warmupEnd = true) :
    p.warmupEnd = some (p.setTransport .running).dropTimed.armWatch := by
  unfold Part.warmupEnd
  rw [hs, hd]
  rfl

theorem runEndReached_some (hs : p.ctl.state = .recovery) (hd : p.reachedBy p.ctl.runEnd = true) :
    p.runEndReached = some (Part.attempt { p with ctl := { p.ctl with runEndReached := true } } Part.recoveryEnd) := by
  unfold Part.runEndReached
  rw [hs, hd]
  rfl

/-- In STANDBY the rest of the event leaves Transport Control as it was. -/
theorem enterStandby_close_ctl : p.enterStandby.close.ctl = p.enterStandby.ctl :=
  close_ctl_of_still (by rw [enterStandby_eq]; rfl)

theorem enterSafe_close_ctl : p.enterSafe.close.ctl = p.enterSafe.ctl := close_ctl_of_still rfl

/-- Settles O33: each end is its operation's one branch, and a still state keeps Transport Control to the end. -/
theorem timedStatesEnd : Obligations.TimedStatesEnd := by
  intro s
  refine ⟨fun hs hd => ?warmup, fun hs hd hsheets heject => ?recovery, fun hs hd heject => ?waiting,
    fun hs he => ?drain, fun hs he => ?runout⟩
  case warmup =>
    refine ⟨_, by rw [exec_warmupEnd, attempt_some (warmupEnd_some s.toPart.start hs hd)], ?_⟩
    rw [armWatch_eq]
    exact ⟨rfl, rfl, rfl, rfl, rfl⟩
  case recovery =>
    have e : Part.recoveryEnd { s.toPart.start with ctl := { s.ctl with runEndReached := true } }
        = some (Part.dropSweepClass { s.toPart.start with ctl := { s.ctl with runEndReached := true } }).enterStandby :=
      if_pos ⟨hs, rfl, hsheets, heject⟩
    refine ⟨_, by rw [exec_runEnd, attempt_some ((runEndReached_some s.toPart.start hs hd).trans
      (congrArg some (attempt_some e)))], ?_⟩
    rw [after_toPart, enterStandby_close_ctl, enterStandby_eq]
    exact ⟨rfl, rfl, rfl, rfl, rfl, rfl⟩
  case waiting =>
    have e : Part.recoveryEnd { s.toPart.start with ctl := { s.ctl with runEndReached := true } } = none :=
      if_neg fun h => by
        rw [show s.acc.eject = none from h.2.2.2] at heject
        cases heject
    exact ⟨{ s.toPart.start with ctl := { s.ctl with runEndReached := true } }, by
      rw [exec_runEnd, attempt_some ((runEndReached_some s.toPart.start hs hd).trans (congrArg some (attempt_none e)))]
      rfl, rfl, rfl, rfl, rfl⟩
  case drain =>
    refine ⟨_, by rw [exec_drainEnd, attempt_some (if_pos ⟨hs, he⟩)], ?_⟩
    by_cases hl : s.ctl.drainReason = some .load
    · rw [if_pos (show s.toPart.start.ctl.drainReason = some .load from hl), Part.resumeRunning, armWatch_eq]
      exact ⟨rfl, fun _ => ⟨rfl, rfl⟩, fun h => absurd hl h⟩
    · rw [if_neg (show ¬ s.toPart.start.ctl.drainReason = some .load from hl), after_toPart, enterStandby_close_ctl,
        enterStandby_eq]
      exact ⟨rfl, fun h => absurd h hl, fun _ => ⟨rfl, rfl, rfl, rfl⟩⟩
  case runout =>
    refine ⟨_, by rw [exec_runoutEnd, attempt_some (if_pos ⟨hs, he⟩)], ?_⟩
    by_cases hw : s.ctl.powerWarn = true
    · rw [if_pos (show s.toPart.start.ctl.powerWarn = true from hw), after_toPart, enterSafe_close_ctl]
      exact ⟨rfl, fun _ => ⟨rfl, rfl⟩, fun h => by rw [hw] at h; cases h⟩
    · rw [if_neg (show ¬ s.toPart.start.ctl.powerWarn = true from hw), after_toPart, enterStandby_close_ctl,
        enterStandby_eq]
      exact ⟨rfl, fun h => absurd h hw, fun _ => ⟨rfl, rfl⟩⟩
end Sys2Proof.Machine

namespace Sys2Proof.Machine

/-! ### The judgement of a load (R4, R15, R16, R44) -/

section
variable {α : Type} (size : Nat) (current : Option (List α)) (first : Nat) (run : List α)

/-- The three tests after one another, of a candidate that stands. -/
theorem alsoCheck_ok (range conflict cross : List α → Bool) (c : List α) (r : Except LoadCause (List α))
    (h : r = alsoCheck (alsoCheck (alsoCheck (.ok c) .range range) .conflict conflict) .cross cross) :
    (¬ range c = true → r = .error .range)
    ∧ (range c = true → ¬ conflict c = true → r = .error .conflict)
    ∧ (range c = true → conflict c = true → ¬ cross c = true → r = .error .cross)
    ∧ (range c = true → conflict c = true → cross c = true → r = .ok c) := by
  subst h
  cases hr : range c <;> cases hc : conflict c <;> cases hx : cross c <;> simp [alsoCheck, hr, hc, hx]

/-- The checks of a load, made one after the other, judge it as R4 says. -/
theorem alsoCheck_judged (range conflict cross : List α → Bool) :
    Judged size current first run (range · = true) (conflict · = true) (cross · = true)
      (alsoCheck (alsoCheck (alsoCheck (candidate size current first run) .range range) .conflict conflict)
        .cross cross) := by
  have hextent : (run.length = 0 ∨ size < first + run.length) ↔ ¬ (1 ≤ run.length ∧ first + run.length ≤ size) := by
    omega
  generalize hcand : candidate size current first run = cand
  generalize hr : alsoCheck _ _ _ = r
  have hok : ∀ c, cand = .ok c → _ := fun c hc => alsoCheck_ok range conflict cross c r (by rw [← hr, hc])
  have herror : ∀ e, cand = .error e → r = .error e := fun e he => by rw [← hr, he]; rfl
  unfold candidate at hcand
  unfold Judged
  dsimp only
  by_cases he : 1 ≤ run.length ∧ first + run.length ≤ size
  · rw [if_neg (fun h => hextent.1 h he)] at hcand
    cases current with
    | none =>
      by_cases hw : first = 0 ∧ run.length = size
      · obtain ⟨h1, h2, h3, h4⟩ := hok run (by rw [← hcand]; exact if_pos hw)
        exact ⟨fun h => absurd he h, fun _ h => absurd (.inr hw) h, fun _ _ => h1, fun _ _ => h2, fun _ _ => h3,
          fun _ _ => h4⟩
      · have hwhole : ¬ ((none : Option (List α)).isSome = true ∨ first = 0 ∧ run.length = size) := by simpa using hw
        have hi := herror .incomplete (by rw [← hcand]; exact if_neg hw)
        exact ⟨fun h => absurd he h, fun _ _ => hi, fun _ h => absurd h hwhole, fun _ h => absurd h hwhole,
          fun _ h => absurd h hwhole, fun _ h => absurd h hwhole⟩
    | some old =>
      obtain ⟨h1, h2, h3, h4⟩ := hok _ hcand.symm
      exact ⟨fun h => absurd he h, fun _ h => absurd (.inl rfl) h, fun _ _ => h1, fun _ _ => h2, fun _ _ => h3,
        fun _ _ => h4⟩
  · have hi := herror .extent (by rw [← hcand]; exact if_pos (hextent.2 he))
    exact ⟨fun _ => hi, fun h => absurd h he, fun h => absurd h he, fun h => absurd h he, fun h => absurd h he,
      fun h => absurd h he⟩

/-- The judgement speaks of the candidate's tests only through what they accept. -/
theorem Judged.congr {range conflict cross range' conflict' cross' : List α → Prop} {r : Except LoadCause (List α)}
    (h : Judged size current first run range conflict cross r) (hr : ∀ c, range c ↔ range' c)
    (hc : ∀ c, conflict c ↔ conflict' c) (hx : ∀ c, cross c ↔ cross' c) :
    Judged size current first run range' conflict' cross' r := by
  rw [← funext fun c => propext (hr c), ← funext fun c => propext (hc c), ← funext fun c => propext (hx c)]
  exact h

theorem alsoCheck_true (r : Except LoadCause (List α)) (e : LoadCause) : alsoCheck r e (fun _ => true) = r := by
  cases r <;> rfl

end

theorem inRanges_iff (ranges : List (Nat × Nat)) (values : List Nat) :
    inRanges ranges values = true ↔ Within ranges values := by
  simp only [inRanges, Within, List.all_eq_true, Bool.and_eq_true, decide_eq_true_eq]

/-- A slot count is within 1 to 4 exactly when the length and the gap fill at most four pitches (R16, R43). -/
theorem slotCount_within (s : ParameterSet) (length : Nat) :
    (1 ≤ s.slotCount length ∧ s.slotCount length ≤ 4) ↔ (1 ≤ length + s.gapMin ∧ length + s.gapMin ≤ 4 * s.pitch) := by
  unfold ParameterSet.slotCount
  rcases Nat.eq_zero_or_pos s.pitch with h | h
  · simp only [h, Nat.div_zero]
    omega
  · rw [Nat.le_div_iff_mul_le h, ← Nat.lt_succ_iff (n := 4), Nat.div_lt_iff_lt_mul h]
    omega

theorem crossChecks_iff (s : ParameterSet) (entries : List MediaEntry) :
    crossChecks s entries = true ↔ Fits s entries := by
  simp only [crossChecks, Fits, List.all_eq_true, List.mem_filter, Bool.and_eq_true, decide_eq_true_eq, and_imp,
    slotCount_within, and_assoc]

variable (p : Part)

theorem checkGeometry_judged (first : Nat) (run : List Nat) :
    Judged 8 (p.tables.geometry.map Geometry.entries) first run (Within geometryRanges) (fun _ => True)
      (fun _ => True) (p.checkGeometry first run) := by
  have h := alsoCheck_judged 8 (p.tables.geometry.map Geometry.entries) first run (inRanges geometryRanges)
    (fun _ => true) (fun _ => true)
  rw [alsoCheck_true, alsoCheck_true] at h
  exact h.congr _ _ _ _ (inRanges_iff _) (fun _ => eq_self_iff_true _) fun _ => eq_self_iff_true _

theorem checkParameters_judged (first : Nat) (run : List Nat) :
    Judged 22 (p.tables.parameters.map ParameterSet.entries) first run (Within parameterRanges)
      (fun c => (ParameterSet.mk c).gateClear ≤ (ParameterSet.mk c).gapMin) (fun c => Fits ⟨c⟩ p.mediaInForce)
      (p.checkParameters first run) :=
  (alsoCheck_judged 22 (p.tables.parameters.map ParameterSet.entries) first run _ _ _).congr _ _ _ _ (inRanges_iff _)
    (fun _ => decide_eq_true_iff) fun _ => crossChecks_iff _ _

theorem checkMedia_judged (first : Nat) (run : List MediaEntry) :
    Judged 16 (p.tables.media.map MediaTable.entries) first run
      (fun c => ∀ m ∈ c, m.valid = true → 1000 ≤ m.length ∧ m.length ≤ 6000 ∧ 1 ≤ m.primary ∧ m.primary ≤ 4
        ∧ m.alternate ≤ 4 ∧ 4 ≤ m.nominal ∧ m.nominal ≤ 200)
      (fun c => ∀ m ∈ c, m.valid = true → m.alternate ≠ m.primary)
      (fun c => ∀ x, p.tables.parameters = some x → Fits x c) (p.checkMedia first run) := by
  refine (alsoCheck_judged 16 (p.tables.media.map MediaTable.entries) first run _ _ _).congr _ _ _ _ (fun c => ?_)
    (fun c => ?_) fun c => ?_
  · simp only [List.all_eq_true, List.mem_filter, MediaEntry.inRange, Bool.and_eq_true, decide_eq_true_eq, and_imp,
      and_assoc]
  · simp only [List.all_eq_true, List.mem_filter, Bool.not_eq_true', beq_eq_false_iff_ne, and_imp]
  · cases p.tables.parameters with
    | none => simp
    | some x => simp [crossChecks_iff]

/-! ### What an applied load leaves -/

/-- A Parameter Set applied, block by block (R6, R7, R9, R12, R17, R43). -/
theorem applyParameters_eq (c : List Nat) :
    p.applyParameters c = { p with
      tables := { p.tables with
        parameters := some ⟨c⟩, media := p.tables.media.map fun t => t.withSlots (some ⟨c⟩) }
      clock := { p.clock with
        spdInt := ParameterSet.spdInt ⟨c⟩, spdFrac := ParameterSet.spdFrac ⟨c⟩, fraction := 0
        watchArmed :=
          if p.ctl.state = .running then ParameterSet.locked ⟨c⟩ && !p.clock.cadenceLost else p.clock.watchArmed
        watchReference := if p.ctl.state = .running ∧ (ParameterSet.locked ⟨c⟩ && !p.clock.cadenceLost) = true
          then p.clock.tick else p.clock.watchReference }
      arbiter := { p.arbiter with pitch := 0, expiryDue := false }
      sent := p.sent
        ++ if p.ctl.state.motors then [.divider (ParameterSet.spdInt ⟨c⟩) (ParameterSet.spdFrac ⟨c⟩)] else [] } := by
  unfold Part.applyParameters
  dsimp only
  by_cases hr : p.ctl.state = .running
  · rw [if_pos hr, armWatch_eq]
    simp only [hr, true_and, if_true, TransportState.motors]
    rfl
  · rw [if_neg hr]
    simp only [hr, false_and, if_false]
    split
    · rfl
    · rw [List.append_nil]

theorem applyLocked_appliedAs (c : PendingLoad) : p.AppliedAs (p.applyLocked c) c := by
  cases c with
  | geometry c => exact ⟨rfl, rfl, rfl⟩
  | media c => exact ⟨rfl, rfl, rfl⟩
  | parameters c =>
    rw [Part.applyLocked, applyParameters_eq]
    exact ⟨rfl, rfl, rfl, rfl, rfl, rfl, rfl, rfl,
      fun hr => ⟨if_pos hr, fun ha => if_pos ⟨hr, (if_pos hr).symm.trans ha⟩⟩, fun hr => if_neg hr⟩

theorem applyLocked_ctl (c : PendingLoad) : (p.applyLocked c).ctl = p.ctl := by
  cases c with
  | parameters c => rw [Part.applyLocked, applyParameters_eq]
  | _ => rfl

theorem applyLocked_link (c : PendingLoad) : (p.applyLocked c).link = p.link := by
  cases c with
  | parameters c => rw [Part.applyLocked, applyParameters_eq]
  | _ => rfl

/-- Below the thirty-second record a load dealt with leaves its LOAD RESULT and counts one (R179, R184). -/
theorem loadResult_below (t : TableId) (cause : Option LoadCause) (h : p.link.taken < 31) :
    p.loadResult t cause = { p with link := { p.link with
      orders := p.link.orders.tail, taken := p.link.taken + 1, 
        reports := p.link.reports ++ [.loadResult t cause] } } := by
  unfold Part.loadResult Part.countTaken
  exact if_pos (show p.link.taken + 1 < 32 from Nat.succ_lt_succ h)

/-! ### Truncation (R37) -/

/-- After a truncation no group is open. -/
theorem truncate_openGroup : p.truncate.planner.openGroup = none := by
  unfold Part.truncate
  split
  · assumption
  · split
    · rfl
    · split <;> rfl

/-- The open group's entry after a truncation, closed, and broken with TRUNCATED when it was ADMITTING. -/
theorem truncate_group? {g : Group} (h : p.openGroup? = some g) :
    (g.state = .admitting → p.truncate.group? g.key = some { g with state := .brokenClosed, reason := some .truncated })
    ∧ (g.state = .brokenOpen → p.truncate.group? g.key = some { g with state := .brokenClosed }) := by
  unfold Part.openGroup? at h
  cases ho : p.planner.openGroup with
  | none => rw [ho] at h; cases h
  | some k =>
    rw [ho] at h
    have hg : p.group? k = some g := h
    obtain rfl := group?_key hg
    unfold Part.truncate
    rw [ho]
    dsimp only
    rw [hg]
    dsimp only
    refine ⟨fun hs => ?_, fun hs => ?_⟩ <;> rw [hs]
    · exact (mapGroup_group? p _ (by intro; rfl)).trans (by rw [hg]; rfl)
    · exact (mapGroup_group? p _ (by intro; rfl)).trans (by rw [hg]; rfl)

/-- A truncation changes the groups, the records' spoiling, the allowances, the cadence group and the open group. -/
theorem truncate_leaves :
    p.truncate.link = p.link ∧ p.truncate.tables = p.tables ∧ p.truncate.ctl = p.ctl := by
  unfold Part.truncate
  split
  · exact ⟨rfl, rfl, rfl⟩
  · split
    · exact ⟨rfl, rfl, rfl⟩
    · split <;> exact ⟨rfl, rfl, rfl⟩

/-! ### The statement -/

section
variable {p} {t : TableId} {first : Nat} {body : List Byte} {rest : List Queued}

/-- What a LOAD of a locked table that waits for nothing comes to (R182). -/
def Part.dealtWith (p : Part) (t : TableId) : Except LoadCause PendingLoad → Part
  | .error e => p.loadResult t (some e)
  | .ok c =>
    if p.pathEmpty then (p.loadResult t none).applyLocked c
    else if p.ctl.state = .running then
      (((p.loadResult t none).setPendingLoad (some c)).truncate).enterDraining .load
    else ((p.loadResult t none).setPendingLoad (some c)).truncate

theorem lockedLoadTaken_eq (ho : p.link.orders = .load t first body :: rest) (hr : t ≠ .routing) (hb : t ≠ .binMap)
    (hroom : p.link.reports.length < 64) (hheld : p.anyHeld = false) (hp : p.link.pendingLoad = none)
    (hs : p.pathEmpty = true ∨ p.ctl.state = .running ∨ p.ctl.state = .draining) :
    p.lockedLoadTaken = some (p.dealtWith t (p.checkLocked t first body)) := by
  have hlive : TableId.live t = false := by cases t <;> first | rfl | exact absurd rfl hr | exact absurd rfl hb
  have hload : p.loadRoom = true := by rw [Part.loadRoom, (reportRoom_iff p).2 hroom, hheld]; rfl
  have hstate : (p.pathEmpty || p.ctl.state == .running || p.ctl.state == .draining) = true := by
    simpa [or_assoc] using hs
  unfold Part.lockedLoadTaken
  rw [ho]
  dsimp only
  rw [if_pos (by rw [hlive, hload, hp, hstate]; rfl)]
  cases p.checkLocked t first body with
  | error e => rfl
  | ok c =>
    dsimp only [Part.dealtWith]
    split
    · rfl
    · split <;> rfl

end

/-- Settles O44: the judgement is the three tests after one another, and a load that passes has two cases, the path
empty or not. -/
theorem lockedLoadsWaitForAnEmptyPath : Obligations.LockedLoadsWaitForAnEmptyPath := by
  intro s t first body rest
  refine ⟨fun ho hr hb hroom hheld hp ht => ⟨fun e he hs => ?refused, fun c hc hempty => ?applied,
      fun c hc hempty hs => ?pending⟩, fun c hp hempty => ?late,
    ⟨_, rfl, checkGeometry_judged s.toPart first _⟩, ⟨_, rfl, checkParameters_judged s.toPart first _⟩,
    ⟨_, rfl, checkMedia_judged s.toPart first _⟩⟩
  case refused =>
    rw [exec_lockedLoadTaken,
      attempt_some (lockedLoadTaken_eq (p := s.toPart.start) ho hr hb hroom hheld hp hs),
      show s.toPart.start.checkLocked t first body = .error e from he, Part.dealtWith,
      loadResult_below s.toPart.start t _ ht]
    simp only [start_link, ho, List.tail_cons]
  case applied =>
    refine ⟨_, by rw [exec_lockedLoadTaken,
      attempt_some (lockedLoadTaken_eq (p := s.toPart.start) ho hr hb hroom hheld hp (.inl hempty)),
      show s.toPart.start.checkLocked t first body = .ok c from hc, Part.dealtWith,
      if_pos (show s.toPart.start.pathEmpty = true from hempty), loadResult_below s.toPart.start t _ ht], ?_, ?_⟩
    · have ha := applyLocked_appliedAs { s.toPart.start with link := { s.link with
        orders := s.link.orders.tail, taken := s.link.taken + 1, reports := s.link.reports ++ [.loadResult t none] } } c
      cases c <;> exact ha
    · rw [applyLocked_link, applyLocked_ctl]
      exact ⟨congrArg List.tail ho, rfl, hp, rfl⟩
  case pending =>
    refine ⟨_, by rw [exec_lockedLoadTaken,
      attempt_some (lockedLoadTaken_eq (p := s.toPart.start) ho hr hb hroom hheld hp (.inr hs)),
      show s.toPart.start.checkLocked t first body = .ok c from hc, Part.dealtWith,
      if_neg (show ¬ s.toPart.start.pathEmpty = true from Bool.eq_false_iff.1 hempty),
      loadResult_below s.toPart.start t _ ht], ?_⟩
    generalize hq : Part.setPendingLoad _ _ = q
    obtain ⟨hlink, htables, hctl⟩ := truncate_leaves q
    generalize hr : (if s.toPart.start.ctl.state = .running then q.truncate.enterDraining .load else q.truncate) = r
    have hsame : r.link = q.link ∧ r.tables = q.tables ∧ r.planner = q.truncate.planner
        ∧ r.groups = q.truncate.groups := by
      rw [← hr]
      split
      · exact ⟨hlink, htables, rfl, rfl⟩
      · exact ⟨hlink, htables, rfl, rfl⟩
    obtain ⟨h1, h2, h3, h4⟩ := hsame
    have hqctl : q.ctl = s.ctl := by rw [← hq]; rfl
    refine ⟨by rw [h1, ← hq]; exact congrArg List.tail ho, by rw [h1, ← hq]; rfl, by rw [h1, ← hq]; rfl,
      by rw [h2, ← hq]; rfl, by rw [h3]; exact truncate_openGroup q, fun g hg => ?_, fun hs => ?_, fun hs => ?_⟩
    · have hg' := truncate_group? q (g := g) (by rw [← hq]; exact hg)
      unfold Part.group? at hg' ⊢
      rw [h4]
      exact hg'
    · rw [← hr, if_pos (show s.toPart.start.ctl.state = .running from hs), ← hqctl, ← hctl]
      rfl
    · rw [← hr, if_neg (by rw [start_ctl, hs]; decide), hctl, hqctl]
  case late =>
    have h : s.toPart.start.pendingLoadApplied = some ((s.toPart.start.setPendingLoad none).applyLocked c) := by
      unfold Part.pendingLoadApplied
      rw [show s.toPart.start.link.pendingLoad = some c from hp]
      exact if_pos hempty
    refine ⟨_, by rw [exec_pendingLoadApplied, attempt_some h], ?_, ?_⟩
    · have ha := applyLocked_appliedAs (s.toPart.start.setPendingLoad none) c
      cases c <;> exact ha
    · rw [applyLocked_link, applyLocked_ctl]
      exact ⟨rfl, rfl, rfl, rfl⟩

end Sys2Proof.Machine

namespace Sys2Proof.Machine

/-! ### The staging sensors (R56, R57, R91, R168, R169) -/

theorem PerTray.get_map {α β : Type} (f : α → β) (v : PerTray α) (t : TrayId) : (v.map f).get t = f (v.get t) := by
  cases t <;> rfl

theorem discardSampling_covered (x : Sheet) : x.discardSampling.covered = x.covered := by
  unfold Sheet.discardSampling
  split <;> rfl

theorem TransportState.not_moving {x : TransportState} (h : x.moving = false) : x.matching = false ∧ x ≠ .recovery := by
  revert h
  cases x <;> decide

section
variable {p : Part} {t : TrayId}

/-! ### A covered edge at a staging stop (R51, R57, R169) -/

theorem stagingCovered_requested {seq : Half} (hr : (p.feeders.get t).request = true)
    (hh : (p.feeders.get t).holder = some seq) :
    p.stagingCovered t = { p with
      sensors := { p.sensors with staging := p.sensors.staging.set t true }
      feeders := p.feeders.set t { p.feeders.get t with request := false, deadline := none }
      track := { p.track with sheets := p.sheetsWith seq fun x => { x with state := .staged } } } := by
  unfold Part.stagingCovered
  rw [if_pos hr, hh]
  exact mapSheet_eq ..

theorem stagingCovered_abandoned (hr : (p.feeders.get t).request = false) (ha : (p.feeders.get t).abandoned = true) :
    p.stagingCovered t = ((p.setStagingLevel t true).mapFeeder t fun f => { f with abandoned := false }).anomaly := by
  unfold Part.stagingCovered
  rw [if_neg (Bool.eq_false_iff.1 hr), if_pos ha]

section
variable (hr : (p.feeders.get t).request = false) (ha : (p.feeders.get t).abandoned = false)
include hr ha

theorem stagingCovered_matching (hm : p.ctl.state.matching = true) :
    p.stagingCovered t = (p.setStagingLevel t true).raise .unexpected (some (.st t)) none none := by
  unfold Part.stagingCovered
  rw [if_neg (Bool.eq_false_iff.1 hr), if_neg (Bool.eq_false_iff.1 ha), if_pos hm]

theorem stagingCovered_recovery (hs : p.ctl.state = .recovery) :
    p.stagingCovered t = (p.setStagingLevel t true).raise .residue (some (.st t)) none none := by
  unfold Part.stagingCovered
  rw [if_neg (Bool.eq_false_iff.1 hr), if_neg (Bool.eq_false_iff.1 ha), if_neg (by rw [hs]; decide), if_pos hs]

theorem stagingCovered_still (hm : p.ctl.state.moving = false) :
    p.stagingCovered t = (p.setStagingLevel t true).anomaly := by
  obtain ⟨hmatching, hrecovery⟩ := TransportState.not_moving hm
  unfold Part.stagingCovered
  rw [if_neg (Bool.eq_false_iff.1 hr), if_neg (Bool.eq_false_iff.1 ha), if_neg (Bool.eq_false_iff.1 hmatching),
    if_neg hrecovery]

end

/-! ### An uncovered edge at a staging stop (R57, R89, R101) -/

theorem uncover_eq (p : Part) (seq : Half) (q : Sensor) :
    p.uncover seq q = { p with track := { p.track with sheets := p.sheetsWith seq fun x => x.uncovered q } } := by
  have e : (fun s : Sheet => { s with covered := s.covered.filter fun e => !(e.station == q) })
      = fun x => x.uncovered q := by
    funext x
    unfold Sheet.uncovered
    congr 1
    apply List.filter_congr
    intro c _
    by_cases h : c.station = q <;> simp [h]
  unfold Part.uncover
  rw [e, mapSheet_eq]

theorem stagingUncovered_clears {r : Sheet} (h : p.Clears r (.st t)) :
    p.stagingUncovered t = (p.setStagingLevel t false).releaseStaging r t := by
  obtain ⟨hm, hc, hs⟩ := h
  unfold Part.stagingUncovered
  rw [hc]
  dsimp only
  rw [if_pos hm, if_neg (Bool.eq_false_iff.1 hs)]

theorem stagingUncovered_tooSoon {r : Sheet} (hc : p.covering (.st t) = some r) (hs : p.tooSoon r (.st t) = true)
    (hm : p.ctl.state.matching = true) :
    p.stagingUncovered t = (p.setStagingLevel t false).raiseFor .short (.st t) r := by
  unfold Part.stagingUncovered
  rw [hc]
  dsimp only
  rw [if_pos hm, if_pos hs]

theorem stagingUncovered_staged {r : Sheet} (hc : p.covering (.st t) = none)
    (hh : (p.feeders.get t).holder.bind p.sheet? = some r) (hr : r.state = .staged)
    (hs : p.ctl.state.matching = true ∨ p.ctl.state = .warmup) :
    p.stagingUncovered t = (p.setStagingLevel t false).raiseFor .short (.st t) r := by
  unfold Part.stagingUncovered
  rw [hc]
  dsimp only
  rw [hh]
  exact if_pos ⟨hr, by rcases hs with hs | hs <;> simp [hs]⟩

/-- Every other uncovered edge is a sensor anomaly. -/
theorem stagingUncovered_anomaly (h : p.covering (.st t) = none ∨ p.ctl.state.matching = false)
    (hr : p.covering (.st t) = none → ∀ r, (p.feeders.get t).holder.bind p.sheet? = some r → r.state = .staged →
      p.ctl.state.matching = false ∧ p.ctl.state ≠ .warmup) :
    p.stagingUncovered t = (p.setStagingLevel t false).anomaly := by
  unfold Part.stagingUncovered
  cases hc : p.covering (.st t) with
  | some r =>
    have hm : p.ctl.state.matching = false := h.resolve_left (by rw [hc]; exact fun e => nomatch e)
    exact if_neg (Bool.eq_false_iff.1 hm)
  | none =>
    dsimp only
    cases hh : (p.feeders.get t).holder.bind p.sheet? with
    | none => rfl
    | some r =>
      refine if_neg fun hstaged => ?_
      obtain ⟨hm, hw⟩ := hr hc r hh hstaged.1
      have := hstaged.2
      rw [hm, beq_false_of_ne hw] at this
      cases this

/-! ### Faults and the rest of the event -/

theorem close_sensors (p : Part) : p.close.sensors = p.sensors := congrArg Steady.sensors (close_steady p)

/-- A fault that stops the transport in a command: the levels it found and Transport Control stopped by it. -/
theorem close_raise (k : FaultKind) (x : Option Station) (a b : Option Half) (h : p.ctl.locked = false) :
    (p.raise k x a b).close.sensors = p.sensors
    ∧ (p.raise k x a b).close.ctl = p.ctl.stoppedBy (p.faultOf k x a b) :=
  ⟨(close_sensors _).trans (raise_leaves p k x a b).1, close_ctl_of_raise k x a b h⟩

end

/-- Settles O45: one equation per case of an edge; what follows in the event keeps the levels, and a fault that stops
the transport leaves Transport Control stopped to its end. -/
theorem stagingEdges : Obligations.StagingEdges := by
  intro s t
  dsimp only
  refine ⟨fun seq hr hh => ?_, fun hr ha => ?_, fun hr ha => ⟨fun hm hl => ?_, fun hs hl => ?_, fun hm => ?_⟩,
    fun r hc => ?_, fun r hc hs hm hl => ?_, fun r hc hh hr hs hl => ?_, fun hs => ?_, fun h hr => ?_⟩
  · rw [exec_stagingCoveredEdge, stagingCovered_requested (p := s.toPart.start) hr hh]
    rfl
  · rw [exec_stagingCoveredEdge, stagingCovered_abandoned (p := s.toPart.start) hr ha]
    rfl
  · rw [exec_stagingCoveredEdge, stagingCovered_matching (p := s.toPart.start) hr ha hm]
    exact ⟨_, rfl, close_raise (p := s.toPart.start.setStagingLevel t true) _ _ _ _ hl⟩
  · rw [exec_stagingCoveredEdge, stagingCovered_recovery (p := s.toPart.start) hr ha hs]
    exact ⟨_, rfl, close_raise (p := s.toPart.start.setStagingLevel t true) _ _ _ _ hl⟩
  · rw [exec_stagingCoveredEdge, stagingCovered_still (p := s.toPart.start) hr ha hm]
    rfl
  · rw [exec_stagingUncoveredEdge, stagingUncovered_clears (p := s.toPart.start) hc, Part.releaseStaging, uncover_eq]
    rfl
  · obtain ⟨-, -, hfeeders, htrack, -, -⟩ := raise_unlocked (p := s.toPart.start.setStagingLevel t false) .short
      (some (.st t)) (some r.tag) (s.toPart.groupId? r.group) hl
    refine ⟨_, by rw [exec_stagingUncoveredEdge, stagingUncovered_tooSoon (p := s.toPart.start) hc hs hm]; rfl,
      (raise_leaves ..).1, fun u => ?_, ?_, close_ctl_of_raise (p := s.toPart.start.setStagingLevel t false) _ _ _ _ hl⟩
    · exact (congrArg (fun v => (PerTray.get v u).holder) hfeeders).trans (by rw [PerTray.get_map])
    · refine (congrArg (fun x => (Track.sheets x).map Sheet.covered) htrack).trans ?_
      simp only [List.map_map, Function.comp_def, discardSampling_covered]
      rfl
  · rw [exec_stagingUncoveredEdge, stagingUncovered_staged (p := s.toPart.start) hc hh hr hs]
    exact ⟨_, rfl, close_raise (p := s.toPart.start.setStagingLevel t false) _ _ _ _ hl⟩
  · have hm : s.ctl.state.matching = false := by rw [hs]; rfl
    rw [exec_stagingUncoveredEdge, stagingUncovered_anomaly (p := s.toPart.start) (.inr hm)
      fun _ _ _ _ => ⟨hm, by rw [start_ctl, hs]; decide⟩]
    rfl
  · rw [exec_stagingUncoveredEdge, stagingUncovered_anomaly (p := s.toPart.start) h hr]
    rfl
end Sys2Proof.Machine

namespace Sys2Proof.Machine

/-! ### The gates (R2, R93 to R95) -/

/-- A record of the name changed is one of that name before, changed. -/
theorem mem_mapSheet {p : Part} {n : Half} {f : Sheet → Sheet} {x : Sheet}
    (hx : x ∈ (p.mapSheet n f).track.sheets) (hn : x.seq = n) : ∃ y ∈ p.track.sheets, y.seq = n ∧ x = f y := by
  rw [mapSheet_track_sheets] at hx
  obtain ⟨y, hy, rfl⟩ := List.mem_map.1 hx
  by_cases h : y.seq = n
  · exact ⟨y, hy, h, if_pos (beq_iff_eq.2 h)⟩
  · rw [if_neg (mt beq_iff_eq.1 h)] at hn
    exact absurd hn h

theorem faultOf_mapSheet (p : Part) (n : Half) (f : Sheet → Sheet) (k : FaultKind) (x : Option Station)
    (a b : Option Half) : (p.mapSheet n f).faultOf k x a b = p.faultOf k x a b := by
  simp [Part.faultOf]

section
variable {p : Part} {s : Sheet} {q : PathSensor}

/-- A covered edge that is a record's lead arrival (R85, R86). -/
theorem pathCovered_arrives (h : p.Arrives s q) : p.pathCovered q = (p.setPathLevel q true).leadArrival s q := by
  obtain ⟨hm, hs, w, hw, he⟩ := h
  unfold Part.pathCovered
  dsimp only
  rw [if_pos hm, Part.matchArrival, show (p.setPathLevel q true).expectedAt q = p.expectedAt q from rfl, hs]
  dsimp only
  rw [hw]
  exact if_neg (Bool.eq_false_iff.1 he)

/-! ### The decision at FX (R93, R95) -/

/-- An unspoiled DUPLEX sheet on its first pass goes to the loop (R93). -/
def Sheet.loops (s : Sheet) : Bool := !s.spoiled && s.pass == .first && s.plex == .duplex

def Sheet.gdNeed (s : Sheet) : GdPosition := if s.loops then .loop else .exit

theorem gdNeed_eq (s : Sheet) :
    s.gdNeed = if s.destination = .stack ∧ s.pass = .first ∧ s.plex = .duplex then .loop else .exit := by
  have h : s.loops = true ↔ s.destination = .stack ∧ s.pass = .first ∧ s.plex = .duplex := by
    unfold Sheet.loops Sheet.spoiled
    cases s.destination <;> simp
  unfold Sheet.gdNeed
  simp only [h]

theorem gdNeed_loop_iff (s : Sheet) : s.gdNeed = .loop ↔ s.loops = true := by
  unfold Sheet.gdNeed
  cases s.loops <;> decide

theorem gdNeed_exit_iff (s : Sheet) : s.gdNeed = .exit ↔ s.loops = false := by
  unfold Sheet.gdNeed
  cases s.loops <;> decide

/-- A loop-bound sheet that must exit (R93). -/
def Sheet.rerouted (s : Sheet) : Bool := s.route == some .freshLoop && !s.loops

theorem rerouted_iff (s : Sheet) : s.rerouted = true ↔ s.route = some .freshLoop ∧ s.gdNeed = .exit := by
  rw [gdNeed_exit_iff, Sheet.rerouted, Bool.and_eq_true, beq_iff_eq, Bool.not_eq_true']

/-- What the decision at FX leaves of a record. -/
def Sheet.decidedGD (s x : Sheet) : Sheet :=
  { x with
    itinerary := [if s.loops then .dl else .xs], route := if s.rerouted then some .freshExit else x.route }

/-- GD is free, or held in the position the sheet needs. -/
theorem decideGD_taken (h : p.gates.gdOccupants = [] ∨ p.gates.gd = s.gdNeed) :
    p.decideGD s =
      (Part.mapSheet { p with
        gates := { p.gates with gd := s.gdNeed, gdOccupants := p.gates.gdOccupants ++ [⟨s.seq, none⟩] }
        sent := p.sent ++ if p.gates.gd = s.gdNeed then [] else [.gateGd s.gdNeed]
        arbiter := { p.arbiter with
          pendingSecond := if s.rerouted then p.arbiter.pendingSecond - 1 else p.arbiter.pendingSecond } }
        s.seq s.decidedGD, true) := by
  have hc : ¬ (!p.gates.gdOccupants.isEmpty && !(p.gates.gd == s.gdNeed)) = true := by
    rcases h with h | h <;> simp [h]
  unfold Part.decideGD
  dsimp only
  rw [show (if (!s.spoiled && s.pass == .first && s.plex == .duplex) = true then GdPosition.loop else .exit) = s.gdNeed
    from rfl, if_neg hc, setGd_eq]
  rfl

/-- GD is held in the other position (R95). -/
theorem decideGD_conflict (h : p.gates.gdOccupants ≠ []) (hn : p.gates.gd ≠ s.gdNeed) :
    p.decideGD s = (p.raiseFor .gateConflict .gd s, false) := by
  have hc : (!p.gates.gdOccupants.isEmpty && !(p.gates.gd == s.gdNeed)) = true := by simp [h, hn]
  exact if_pos hc

/-! ### The decision at XS (R94, R95) -/

/-- The station beyond XS of a destination. -/
def Destination.station : Destination → PathSensor
  | .stack => .ac
  | .purge => .pg

/-- What the decision at XS leaves of a record. -/
def Sheet.decidedGX (s x : Sheet) : Sheet :=
  { x with itinerary := [s.destination.station], exitDecision := some s.destination }

theorem decideGX_taken (h : p.gates.gxOccupants = [] ∨ p.gates.gx = s.destination) :
    p.decideGX s =
      (Part.mapSheet { p with
        gates := { p.gates with gx := s.destination, gxOccupants := p.gates.gxOccupants ++ [⟨s.seq, none⟩] }
        sent := p.sent ++ if p.gates.gx = s.destination then [] else [.gateGx s.destination] }
        s.seq s.decidedGX, true) := by
  have hc : ¬ (!p.gates.gxOccupants.isEmpty && !(p.gates.gx == s.destination)) = true := by
    rcases h with h | h <;> simp [h]
  unfold Part.decideGX
  dsimp only
  rw [if_neg hc, setGx_eq]
  rfl

theorem decideGX_conflict (h : p.gates.gxOccupants ≠ []) (hn : p.gates.gx ≠ s.destination) :
    p.decideGX s = (p.raiseFor .gateConflict .gx s, false) := by
  have hc : (!p.gates.gxOccupants.isEmpty && !(p.gates.gx == s.destination)) = true := by simp [h, hn]
  exact if_pos hc

/-! ### Lead arrivals at a gate -/

/-- The record that arrived, before the station's work. -/
theorem leadArrival_eq (p : Part) (s : Sheet) (q : PathSensor) :
    p.leadArrival s q =
      if (Part.stationWork (p.mapSheet s.seq (p.arrivedAt q)) s q).2
      then (Part.stationWork (p.mapSheet s.seq (p.arrivedAt q)) s q).1.openWindow s.seq
      else (Part.stationWork (p.mapSheet s.seq (p.arrivedAt q)) s q).1 := rfl

/-- A lead arrival whose station raises no fault: the record arrived, the station's work, the next window. -/
theorem leadArrival_passed {r : Part} (h : Part.stationWork (p.mapSheet s.seq (p.arrivedAt q)) s q = (r, true)) :
    p.leadArrival s q = r.openWindow s.seq := by
  rw [leadArrival_eq, h]
  rfl

theorem leadArrival_stopped {r : Part} (h : Part.stationWork (p.mapSheet s.seq (p.arrivedAt q)) s q = (r, false)) :
    p.leadArrival s q = r := by
  rw [leadArrival_eq, h]
  rfl

end

/-- A fault raised at a lead arrival: the gates, the pending-second-pass count and Transport Control (R162, R165). -/
theorem close_raiseFor_arrived (p : Part) (s : Sheet) (q : PathSensor) (k : FaultKind) (x : Station)
    (h : p.ctl.locked = false) :
    (Part.raiseFor (p.mapSheet s.seq (p.arrivedAt q)) k x s).close.gates = p.gates
    ∧ (Part.raiseFor (p.mapSheet s.seq (p.arrivedAt q)) k x s).close.arbiter.pendingSecond = p.arbiter.pendingSecond
    ∧ (Part.raiseFor (p.mapSheet s.seq (p.arrivedAt q)) k x s).close.ctl
        = p.ctl.stoppedBy (p.faultOf k (some x) (some s.tag) (p.groupId? s.group)) := by
  generalize hr : p.mapSheet s.seq (p.arrivedAt q) = r
  obtain ⟨-, hgates, -, -, -, harbiter, -⟩ := raise_leaves r k (some x) (some s.tag) (r.groupId? s.group)
  have hsteady := close_steady (r.raiseFor k x s)
  refine ⟨(congrArg Steady.gates hsteady).trans (hgates.trans (by rw [← hr]; rfl)),
    (congrArg Steady.pendingSecond hsteady).trans ((congrArg Arbiter.pendingSecond harbiter).trans
      (by rw [← hr]; rfl)), ?_⟩
  refine (close_ctl_of_raise (p := r) k (some x) (some s.tag) (r.groupId? s.group) (by rw [← hr]; exact h)).trans ?_
  rw [← hr, faultOf_mapSheet]
  rfl

/-- A release tick that is reached takes its occupants (R95). -/
theorem gateRelease_some {p : Part} {g : Gate} {seq : Half} {o : Occupant} (hm : p.ctl.state.moving = true)
    (ho : o ∈ p.gates.occupants g) (hs : o.seq = seq) (hr : p.reachedBy o.release = true) :
    Part.gateRelease g seq p = some { p with
      gates := p.gates.setOccupants g
        (List.filter (fun x => decide (¬ (x.seq = seq ∧ p.reachedBy x.release = true))) (p.gates.occupants g)) } := by
  have hany : (p.gates.occupants g).any (fun x => x.seq == seq && p.reachedBy x.release) = true :=
    List.any_eq_true.2 ⟨o, ho, by simp [hs, hr]⟩
  have hf : ∀ x : Occupant, (!(x.seq == seq && p.reachedBy x.release))
      = decide (¬ (x.seq = seq ∧ p.reachedBy x.release = true)) := by
    intro x
    by_cases h : x.seq = seq <;> simp [h]
  unfold Part.gateRelease
  dsimp only
  rw [if_pos (by rw [hm, hany]; rfl)]
  simp only [hf]

/-- Settles O48: the arrival at FX or XS comes down to one gate decision, taken or in conflict; a record named after it
is one named before it, changed. -/
theorem gateDecisions : Obligations.GateDecisions := by
  refine ⟨fun s r ha need hneed => ⟨fun hfree => ?fx, fun hocc hgd hl => ?fxConflict⟩,
    fun s r ha => ⟨fun hfree => ?xs, fun hocc hgx hl => ?xsConflict⟩, fun s seq o hm ho hr =>
      ⟨fun hgd => ?gd, fun hgx => ?gx⟩⟩
  case fx =>
    have hn : need = r.gdNeed := hneed.trans (gdNeed_eq r).symm
    subst hn
    have e := decideGD_taken (p := Part.mapSheet (s.toPart.start.setPathLevel .fx true) r.seq
      ((s.toPart.start.setPathLevel .fx true).arrivedAt .fx)) (s := r) hfree
    refine ⟨_, by rw [exec_pathCoveredEdge, pathCovered_arrives (p := s.toPart.start) ha,
      leadArrival_passed (q := .fx) e], ?_⟩
    refine ⟨rfl, rfl, List.nil_append _, fun hre => ?_, fun hre => ?_, fun x hx hseq => ?_⟩
    · exact congrArg (fun n => { s.arbiter with pendingSecond := n }) (if_pos ((rerouted_iff r).2 hre))
    · exact congrArg (fun n => { s.arbiter with pendingSecond := n }) (if_neg (mt (rerouted_iff r).1 hre))
    · obtain ⟨y, hy, hys, rfl⟩ := mem_mapSheet hx hseq
      obtain ⟨z, -, -, rfl⟩ := mem_mapSheet hy hys
      have hnext : (if r.loops then PathSensor.dl else .xs) = if r.gdNeed = .loop then .dl else .xs := by
        simp only [gdNeed_loop_iff]
      rw [← hnext]
      exact ⟨rfl, rfl, fun hre => if_pos ((rerouted_iff r).2 hre)⟩
  case fxConflict =>
    have hn : need = r.gdNeed := hneed.trans (gdNeed_eq r).symm
    subst hn
    have e := decideGD_conflict (p := Part.mapSheet (s.toPart.start.setPathLevel .fx true) r.seq
      ((s.toPart.start.setPathLevel .fx true).arrivedAt .fx)) (s := r) hocc hgd
    refine ⟨_, by rw [exec_pathCoveredEdge, pathCovered_arrives (p := s.toPart.start) ha,
      leadArrival_stopped (q := .fx) e], ?_⟩
    exact close_raiseFor_arrived (s.toPart.start.setPathLevel .fx true) r .fx .gateConflict .gd hl
  case xs =>
    have e := decideGX_taken (p := Part.mapSheet (s.toPart.start.setPathLevel .xs true) r.seq
      ((s.toPart.start.setPathLevel .xs true).arrivedAt .xs)) (s := r) hfree
    refine ⟨_, by rw [exec_pathCoveredEdge, pathCovered_arrives (p := s.toPart.start) ha,
      leadArrival_passed (q := .xs) e], ?_⟩
    refine ⟨rfl, rfl, rfl, List.nil_append _, fun x hx hseq => ?_⟩
    obtain ⟨y, hy, hys, rfl⟩ := mem_mapSheet hx hseq
    obtain ⟨z, -, -, rfl⟩ := mem_mapSheet hy hys
    refine ⟨rfl, fun hd => ?_, fun hd => ?_⟩ <;>
    · have hst : [r.destination.station] = _ := congrArg (fun d => [Destination.station d]) hd
      exact ⟨hst, congrArg (fun i => (List.head? i).map fun q => s.toPart.windowFor q s.clock.tick) hst⟩
  case xsConflict =>
    have e := decideGX_conflict (p := Part.mapSheet (s.toPart.start.setPathLevel .xs true) r.seq
      ((s.toPart.start.setPathLevel .xs true).arrivedAt .xs)) (s := r) hocc hgx
    refine ⟨_, by rw [exec_pathCoveredEdge, pathCovered_arrives (p := s.toPart.start) ha,
      leadArrival_stopped (q := .xs) e], ?_⟩
    obtain ⟨hgates, -, hctl⟩ := close_raiseFor_arrived (s.toPart.start.setPathLevel .xs true) r .xs .gateConflict .gx hl
    exact ⟨hgates, hctl⟩
  case gd =>
    rw [exec_gateRelease, attempt_some (gateRelease_some (p := s.toPart.start) (g := .gd) hm hgd ho hr)]
    rfl
  case gx =>
    rw [exec_gateRelease, attempt_some (gateRelease_some (p := s.toPart.start) (g := .gx) hm hgx ho hr)]
    rfl
end Sys2Proof.Machine

namespace Sys2Proof.Machine

variable (p : Part)

/-! ### Boundaries (R60, R66, R72) -/

/-- The part with its slot index raised, as a boundary finds it. -/
def Part.raiseSlot (p : Part) : Part := { p with arbiter := { p.arbiter with slotIndex := p.arbiter.slotIndex + 1 } }

theorem boundary_blocked (line : Bool) (h : 0 < p.arbiter.block) :
    p.boundary line = { p with arbiter := { p.arbiter with
      slotIndex := p.arbiter.slotIndex + 1, block := p.arbiter.block - 1 } } := if_pos h

/-- What a boundary does: it counts the block down, launches a sheet, starves, or leaves an empty slot. -/
theorem boundary_cases (line : Bool) :
    (0 < p.arbiter.block ∧ p.boundary line = { p with arbiter := { p.arbiter with
      slotIndex := p.arbiter.slotIndex + 1, block := p.arbiter.block - 1 } })
    ∨ (p.raiseSlot.choice (p.arbiter.slotIndex + 1) = some (p.boundary line))
    ∨ (p.raiseSlot.choice (p.arbiter.slotIndex + 1) = none
        ∧ p.boundary line = if line then p.raiseSlot.starve else p.raiseSlot) := by
  by_cases hb : 0 < p.arbiter.block
  · exact .inl ⟨hb, boundary_blocked p line hb⟩
  · have e : p.boundary line = match p.raiseSlot.choice (p.arbiter.slotIndex + 1) with
        | some r => r
        | none => if line then p.raiseSlot.starve else p.raiseSlot := if_neg hb
    cases hc : p.raiseSlot.choice (p.arbiter.slotIndex + 1) with
    | some r => rw [hc] at e; exact .inr (.inl (congrArg some e.symm))
    | none => rw [hc] at e; exact .inr (.inr ⟨rfl, e⟩)

/-- With no block and no sheet to launch the slot stays empty. -/
theorem boundary_empty (line : Bool) (hb : p.arbiter.block = 0)
    (hf : ∀ f, p.ffCandidate = some f → p.ffEligible (p.arbiter.slotIndex + 1) f = false)
    (hd : ∀ d, p.drCandidate = some d → p.drEligible (p.arbiter.slotIndex + 1) d = false) :
    p.boundary line = if line then p.raiseSlot.starve else p.raiseSlot := by
  have hff : p.raiseSlot.ffCandidate.filter (p.raiseSlot.ffEligible (p.arbiter.slotIndex + 1)) = none := by
    rw [Option.filter_eq_none_iff]
    exact fun f h => Bool.eq_false_iff.1 (hf f h)
  have hdr : p.raiseSlot.drCandidate.filter (p.raiseSlot.drEligible (p.arbiter.slotIndex + 1)) = none := by
    rw [Option.filter_eq_none_iff]
    exact fun d h => Bool.eq_false_iff.1 (hd d h)
  have hc : p.raiseSlot.choice (p.arbiter.slotIndex + 1) = none := by
    unfold Part.choice
    rw [hff, hdr]
  rcases boundary_cases p line with ⟨h, -⟩ | h | ⟨-, h⟩
  · omega
  · rw [hc] at h; cases h
  · exact h

/-- An open slot that starves (R72): the cadence group's next fresh sheet is not STAGED in a state that launches. -/
theorem starve_eq {k : GroupKey} (hk : p.arbiter.cadenceGroup = some k) (hs : p.ctl.state.allowsFF = true) :
    p.starve =
      if (lowestSeq (p.track.sheets.filter fun x => x.group == k && x.fresh)).any (fun x => x.state == .staged) then p
      else p.breakGroup k .starved := by
  unfold Part.starve
  rw [hk]
  dsimp only
  rw [if_pos hs]
  cases lowestSeq (p.track.sheets.filter fun x => x.group == k && x.fresh) with
  | none => rfl
  | some x => simp

theorem starve_no_group (hk : p.arbiter.cadenceGroup = none) : p.starve = p := by
  unfold Part.starve
  rw [hk]

theorem starve_no_launch (hs : p.ctl.state.allowsFF = false) : p.starve = p := by
  unfold Part.starve
  split
  · rfl
  · exact if_neg (Bool.eq_false_iff.1 hs)

theorem allowsFF_iff (x : TransportState) : x.allowsFF = true ↔ x = .running ∨ x = .draining := by
  cases x <;> decide

/-- A starvation does nothing or breaks a group. -/
theorem starve_cases : p.starve = p ∨ ∃ k, p.arbiter.cadenceGroup = some k ∧ p.starve = p.breakGroup k .starved := by
  cases hk : p.arbiter.cadenceGroup with
  | none => exact .inl (starve_no_group p hk)
  | some k =>
    cases hs : p.ctl.state.allowsFF with
    | false => exact .inl (starve_no_launch p hs)
    | true =>
      rw [starve_eq p hk hs]
      split
      · exact .inl rfl
      · exact .inr ⟨k, rfl, rfl⟩

/-- The launch that a choice makes. -/
theorem choice_cases {k : BitVec 32} {q : Part} (h : p.choice k = some q) :
    (∃ f, p.ffCandidate = some f ∧ p.ffEligible k f = true ∧ q = p.launchFF f)
    ∨ ∃ d, p.drCandidate = some d ∧ p.drEligible k d = true ∧ q = p.launchDR d := by
  have hff : ∀ f, p.ffCandidate.filter (p.ffEligible k) = some f → p.ffCandidate = some f ∧ p.ffEligible k f = true :=
    fun f h => Option.filter_eq_some_iff.1 h
  have hdr : ∀ d, p.drCandidate.filter (p.drEligible k) = some d → p.drCandidate = some d ∧ p.drEligible k d = true :=
    fun d h => Option.filter_eq_some_iff.1 h
  unfold Part.choice at h
  split at h
  · rename_i f e _
    cases h
    exact .inl ⟨f, (hff f e).1, (hff f e).2, rfl⟩
  · rename_i d _ e
    cases h
    exact .inr ⟨d, (hdr d e).1, (hdr d e).2, rfl⟩
  · rename_i f d e e'
    cases h
    split
    · exact .inr ⟨d, (hdr d e').1, (hdr d e').2, rfl⟩
    · exact .inl ⟨f, (hff f e).1, (hff f e).2, rfl⟩
  · cases h

theorem followCadence_eq (s : Sheet) :
    ∃ c, p.followCadence s = { p with arbiter := { p.arbiter with cadenceGroup := c } } := by
  unfold Part.followCadence
  split
  · exact ⟨p.arbiter.cadenceGroup, rfl⟩
  · exact ⟨_, rfl⟩

theorem boundary_clock (line : Bool) : (p.boundary line).clock = p.clock := by
  rcases boundary_cases p line with ⟨-, h⟩ | h | ⟨-, h⟩
  · rw [h]
  · rcases choice_cases _ h with ⟨f, -, -, e⟩ | ⟨d, -, -, e⟩
    · rw [e]
      unfold Part.launchFF
      dsimp only
      obtain ⟨c, hc⟩ := followCadence_eq { p.raiseSlot.mapSheet f.seq _ with arbiter := _ } f
      rw [hc]
      rfl
    · rw [e]; rfl
  · rw [h]
    split
    · rcases starve_cases p.raiseSlot with e | ⟨k, -, e⟩ <;> rw [e]
      · rfl
      · exact (breakGroup_leaves p.raiseSlot k .starved).clock
    · rfl

/-! ### Breaks of the open group -/

/-- A break request below 64 orders leaves an ADMITTING group BROKEN_OPEN with the reason (R34). -/
theorem breakGroup_admitting {k : GroupKey} {g : Group} (x : BreakReason) (hg : p.group? k = some g)
    (hs : g.state = .admitting) (ha : g.accepted < 64) :
    p.breakGroup k x = (p.mapGroup k fun g => { g with state := .brokenOpen, reason := some x }).breakEffects k := by
  have hm : ((p.mapGroup k fun g => { g with state := .brokenOpen, reason := some x }).breakEffects k).group? k
      = some { g with state := .brokenOpen, reason := some x } :=
    (mapGroup_group? p k (by intro; rfl)).trans (by rw [hg]; rfl)
  unfold Part.breakGroup
  rw [hg]
  dsimp only
  rw [hs]
  dsimp only
  unfold Part.closeAtCap
  rw [hm]
  exact if_neg fun h => absurd h.2 (Nat.not_le.2 ha)

theorem breakOpen_admitting {g : Group} (x : BreakReason) (hg : p.openGroup? = some g) (hs : g.state = .admitting)
    (ha : g.accepted < 64) :
    (p.breakOpen x).group? g.key = some { g with state := .brokenOpen, reason := some x } := by
  unfold Part.openGroup? at hg
  unfold Part.breakOpen
  cases ho : p.planner.openGroup with
  | none => rw [ho] at hg; cases hg
  | some k =>
    rw [ho] at hg
    have hk : p.group? k = some g := hg
    obtain rfl := group?_key hk
    dsimp only
    rw [breakGroup_admitting p x hk hs ha]
    exact (mapGroup_group? p g.key (by intro; rfl)).trans (by rw [hk]; rfl)

theorem breakOpen_leaves (x : BreakReason) : BreakLeaves p (p.breakOpen x) := by
  unfold Part.breakOpen
  split
  · constructor <;> rfl
  · exact breakGroup_leaves p _ x

/-! ### The cadence line (R11, R13, R73, R157) -/

/-- The drain of a lost cadence: Transport Control, and the pick deadlines when RUNNING ends. -/
theorem drainForCadence_leaves :
    (p.ctl.state = .running →
      p.drainForCadence.ctl = { p.ctl with state := .draining, drainReason := some .cadence })
    ∧ (p.ctl.state = .draining → p.drainForCadence.ctl =
        { p.ctl with drainReason := if p.ctl.drainReason = some .load then some .cadence else p.ctl.drainReason })
    ∧ p.drainForCadence.clock = p.clock ∧ p.drainForCadence.groups = p.groups
    ∧ p.drainForCadence.arbiter = p.arbiter := by
  unfold Part.drainForCadence
  refine ⟨fun h => by rw [h]; rfl, fun h => ?_, ?_⟩
  · rw [h]
    dsimp only
    split
    · rw [h]
    · rfl
  · split
    · exact ⟨rfl, rfl, rfl⟩
    · split <;> exact ⟨rfl, rfl, rfl⟩
    · exact ⟨rfl, rfl, rfl⟩

/-- The part with cadence lost and the watch disarmed, as the loss finds it. -/
def Part.loseCadence (p : Part) : Part := { p with clock := { p.clock with cadenceLost := true, watchArmed := false } }

theorem cadenceLoss_some (ha : p.clock.watchArmed = true)
    (hd : lower p.clock.tick (p.clock.watchReference + BitVec.ofNat 32 (2 * p.params.pitch)) = false) :
    p.cadenceLoss = some (p.loseCadence.breakOpen .cadence).drainForCadence.notice := by
  unfold Part.cadenceLoss
  exact if_pos (by rw [ha, Part.reached, hd]; rfl)

/-- Settles O54: each source is a guard before the one boundary operation, whose own cases are the block count, a launch
and an empty slot. -/
theorem boundariesAndCadence : Obligations.BoundariesAndCadence := by
  refine ⟨fun s => ⟨fun hl => ?_, fun hl => ?_, fun he hl => ?_, fun he hl => ?_, fun he => ?_, fun ha hd => ?_⟩,
    fun p line => ⟨boundary_blocked p line, fun hb hf hd => ?_⟩⟩
  · rw [exec_cadencePulse, Part.cadencePulse,
      if_neg (show ¬ s.toPart.start.sourceIsLine = true from Bool.eq_false_iff.1 hl)]
  · rw [exec_cadencePulse, Part.cadencePulse, if_pos (show s.toPart.start.sourceIsLine = true from hl)]
    refine ⟨_, rfl, ?_⟩
    have hclock := boundary_clock s.toPart.start true
    dsimp only
    split
    · rename_i hw
      exact ⟨rfl, rfl, rfl, rfl, fun _ => rfl, fun h => absurd (hw.symm.trans h) (by decide)⟩
    · rename_i hw
      exact ⟨rfl, rfl, rfl, rfl, fun h => absurd h hw, fun _ => hclock⟩
  · rw [exec_pitchExpiry, attempt_some (if_pos he), if_pos (show s.toPart.start.sourceIsLine = true from hl)]
    rfl
  · rw [exec_pitchExpiry, attempt_some (if_pos he),
      if_neg (show ¬ s.toPart.start.sourceIsLine = true from Bool.eq_false_iff.1 hl)]
    rfl
  · rw [exec_pitchExpiry, attempt_none (if_neg (Bool.eq_false_iff.1 he))]
  · refine ⟨_, by rw [exec_cadenceLoss, attempt_some (cadenceLoss_some s.toPart.start ha hd)], ?_⟩
    have hb := breakOpen_leaves s.toPart.start.loseCadence .cadence
    obtain ⟨hrun, hdrain, hclock, hgroups, harb⟩ :=
      drainForCadence_leaves (s.toPart.start.loseCadence.breakOpen .cadence)
    rw [hb.ctl] at hrun hdrain
    rw [hb.clock] at hclock
    rw [hb.arbiter] at harb
    refine ⟨congrArg Clock.cadenceLost hclock, congrArg Clock.watchArmed hclock, rfl, hrun, hdrain,
      fun g hg hs hacc => ?_,
      (congrArg Arbiter.slotIndex harb :), (congrArg Arbiter.block harb :), (congrArg Arbiter.pendingSecond harb :),
      (congrArg Arbiter.lastExit harb :)⟩
    have hg' := breakOpen_admitting s.toPart.start.loseCadence .cadence hg hs hacc
    unfold Part.group? at hg' ⊢
    rw [notice_groups, hgroups]
    exact hg'
  · have he := boundary_empty p line hb hf hd
    refine ⟨fun hl => by rw [he, hl]; rfl, fun hc => ?_, fun hr hdr => ?_, fun hl hs k hk =>
      ⟨fun hn => ?_, fun hn => ?_⟩⟩
    · rw [he, starve_no_group p.raiseSlot hc, ite_self]; rfl
    · rw [he, starve_no_launch p.raiseSlot (Bool.eq_false_iff.2 fun h => ((allowsFF_iff _).1 h).elim hr hdr),
        ite_self]; rfl
    · rw [he, hl, if_pos rfl, starve_eq p.raiseSlot hk ((allowsFF_iff _).2 hs)]
      exact if_pos hn
    · rw [he, hl, if_pos rfl, starve_eq p.raiseSlot hk ((allowsFF_iff _).2 hs)]
      exact if_neg (Bool.eq_false_iff.1 hn)
end Sys2Proof.Machine

namespace Sys2Proof.Machine

/-! ### The own effect of a command, and the events of the clock -/

/-- The own effect of a command on the part, before everything that follows in the same event. -/
def ownEffect (c : Instr) (p : Part) : Part :=
  match c with
  | .powerOnReset l => p.powerOn l
  | .controllerReset l => p.controllerReset l
  | .sheetOrder o => p.toHunt.enqueue (.order o)
  | .stop => p.toHunt.enqueue .stop
  | .purge => p.toHunt.enqueue .purge
  | .load l => p.takeLoad l
  | .start => p.toHunt.startControl
  | .halt => p.toHunt.haltControl
  | .clearFault => p.toHunt.clearFaultControl
  | .binEmptied n => p.toHunt.binEmptied n
  | .query => p.toHunt.status
  | .droppedRecord c => p.toHunt.drop c
  | .groupAdmission => p.attempt Part.groupAdmission
  | .brokenFromStart => p.attempt Part.brokenFromStart
  | .furtherOrderPick => p.attempt Part.furtherOrderPick
  | .discardedAsUnfed => p.attempt Part.discardedAsUnfed
  | .orphan => p.attempt Part.orphanTaken
  | .stopTaken => p.attempt Part.stopTaken
  | .purgeTaken => p.attempt Part.purgeTaken
  | .liveLoadTaken => p.attempt Part.liveLoadTaken
  | .lockedLoadTaken => p.attempt Part.lockedLoadTaken
  | .pendingLoadApplied => p.attempt Part.pendingLoadApplied
  | .stagingCoveredEdge t => p.stagingCovered t
  | .stagingUncoveredEdge t => p.stagingUncovered t
  | .pathCoveredEdge q => p.pathCovered q
  | .pathUncoveredEdge q => p.pathUncovered q
  | .drawerOpening t => p.openDrawer t
  | .drawerClosing t => p.closeDrawer t
  | .paperSensorEdge t which active => p.paperEdge t which active
  | .pickDeadline t => p.attempt (Part.pickDeadline t)
  | .stallEnd => p.attempt Part.stallEnd
  | .pitchExpiry => p.attempt Part.pitchExpiry
  | .cadencePulse => p.cadencePulse
  | .cadenceLoss => p.attempt Part.cadenceLoss
  | .lateLimitReached seq => p.attempt (Part.lateLimit seq)
  | .stall seq q => p.attempt (Part.stallAt seq q)
  | .gateRelease g seq => p.attempt (Part.gateRelease g seq)
  | .conversionStart seq => p.attempt (Part.conversionStart seq)
  | .conversionCompletion v => p.conversionDone v
  | .readyAnswer seq side => p.readyAnswer seq side
  | .declineAnswer seq side => p.declineAnswer seq side
  | .parked => p.parked
  | .parkDeadline => p.attempt Part.parkDeadline
  | .setEjectStart => p.attempt Part.setEjectStart
  | .ejectDone => p.ejectDone
  | .ejectTimeout => p.attempt Part.ejectTimeout
  | .binDoorOpening b => p.openBin b
  | .binDoorClosing b => p.closeBin b
  | .fullSensorEdge b active => p.fullEdge b active
  | .purgeDoorOpening => p.openPurge
  | .purgeDoorClosing => p.closePurge
  | .coverOpening => p.openCover
  | .coverClosing => p.closeCover
  | .powerWarnAsserted => p.assertPowerWarn
  | .powerWarnCleared => p.clearPowerWarn
  | .warmupEnd => p.attempt Part.warmupEnd
  | .drainEnd => p.attempt Part.drainEnd
  | .runoutEnd => p.attempt Part.runoutEnd
  | .runEnd => p.attempt Part.runEndReached
  | .groupResolution => p.attempt Part.groupResolution
  | .returnReadyAsserted => p.setReturnReady true
  | .returnReadyCleared => p.setReturnReady false
  | .transmissionComplete => p.attempt Part.transmissionDone
  | .startDelimiter b => p.takeByte b

theorem exec_ownEffect (c : Instr) (s : State) : exec c s = .next (s.after (ownEffect c s.toPart.start)) := by
  cases c <;> rfl

/-- The events that the clock brings about (notes/assumptions/5.md). -/
inductive ClockEvent : (Part → Option Part) → Prop where
  | pitchExpiry : ClockEvent Part.pitchExpiry
  | pickDeadline (t : TrayId) : ClockEvent (Part.pickDeadline t)
  | lateLimit (seq : Half) : ClockEvent (Part.lateLimit seq)
  | stallAt (seq : Half) (q : Sensor) : ClockEvent (Part.stallAt seq q)
  | gateRelease (g : Gate) (seq : Half) : ClockEvent (Part.gateRelease g seq)
  | conversionStart (seq : Half) : ClockEvent (Part.conversionStart seq)
  | parkDeadline : ClockEvent Part.parkDeadline
  | ejectTimeout : ClockEvent Part.ejectTimeout
  | cadenceLoss : ClockEvent Part.cadenceLoss
  | warmupEnd : ClockEvent Part.warmupEnd
  | runEndReached : ClockEvent Part.runEndReached

theorem clockEvent_of_mem {p : Part} {e : Part → Option Part} (h : e ∈ p.clockEvents) : ClockEvent e := by
  simp only [Part.clockEvents, Sheet.stallTests, List.mem_append, List.mem_map, List.mem_flatMap, List.mem_cons,
    List.not_mem_nil, or_false] at h
  rcases h with ((((((((rfl | ⟨t, -, rfl⟩) | ⟨x, -, rfl⟩) | ⟨x, -, c, -, rfl⟩) | ⟨o, -, rfl⟩) | ⟨o, -, rfl⟩)
    | ⟨x, -, rfl⟩)
    | ⟨x, -, rfl⟩) | rfl | rfl | rfl | rfl) <;> constructor

/-- A step is a command with all that follows, or a path tick. -/
theorem step_cases {s t : State} (h : step s = .next t) :
    (∃ c, t.toPart = (ownEffect c s.toPart.start).close) ∨ s.pending = [] ∧ t = s.idle := by
  unfold step at h
  split at h
  · rename_i c rest _
    rw [exec_ownEffect] at h
    cases h
    exact .inl ⟨c, rfl⟩
  · rename_i hp
    cases h
    exact .inr ⟨hp, rfl⟩

end Sys2Proof.Machine

namespace Sys2Proof.Machine

/-! ### What the promises about the transport, the tables and the sizes read

`Core` gathers the fields of the transport and of the tables, `Counts` the counts of Part.Ranged. Most of what the
machine does leaves both as they were; `Mild` and `Calm` say what such a change keeps. -/

/-- The fields that the promises about the transport and the tables read, beside the records and the trays. -/
structure Core where
  tables : Tables
  pendingLoad : Option PendingLoad
  pitch : Nat
  expiryDue : Bool
  tick : Tick
  spdInt : Nat
  fraction : Nat
  spdFrac : Nat
  state : TransportState
  drainReason : Option DrainReason
  warmupEnd : Option Tick
  runEnd : Option Tick
  runEndReached : Bool
  firstFault : Option FaultRecord
  locked : Bool
  further : Nat
  watchArmed : Bool
  cadenceLost : Bool

def Part.core (p : Part) : Core :=
  { tables := p.tables
    pendingLoad := p.link.pendingLoad
    pitch := p.arbiter.pitch
    expiryDue := p.arbiter.expiryDue
    tick := p.clock.tick
    spdInt := p.clock.spdInt
    fraction := p.clock.fraction
    spdFrac := p.clock.spdFrac
    state := p.ctl.state
    drainReason := p.ctl.drainReason
    warmupEnd := p.ctl.warmupEnd
    runEnd := p.ctl.runEnd
    runEndReached := p.ctl.runEndReached
    firstFault := p.ctl.firstFault
    locked := p.ctl.locked
    further := p.ctl.further
    watchArmed := p.clock.watchArmed
    cadenceLost := p.clock.cadenceLost }

/-- The counts that Part.Ranged speaks of. -/
structure Counts where
  loop : Nat
  pendingSecond : Nat
  set : Nat
  stacked : PerBin Nat
  purgeStacked : Nat

def Part.counts (p : Part) : Counts :=
  { loop := p.loop.length
    pendingSecond := p.arbiter.pendingSecond
    set := p.acc.sheets.length
    stacked := PerBin.map Bin.stacked p.stacker.bins
    purgeStacked := p.stacker.purgeStacked }

/-- The sizes and counts that rest on nothing but themselves. -/
def Part.Small (p : Part) : Prop :=
  p.link.orders.length ≤ 64 ∧ p.link.reports.length ≤ 64 ∧ p.link.taken < 32 ∧ p.cue.outstanding.length ≤ 4
  ∧ p.track.anomalies ≤ 65535 ∧ p.cue.late ≤ 65535 ∧ (p.link.transmitting = true → p.link.reports ≠ [])

theorem bounded_iff (p : Part) :
    p.Bounded ↔ p.Small ∧ p.groups.entries.length ≤ 16 ∧ p.track.sheets.length ≤ 16 ∧ p.ctl.further ≤ 255 := by
  unfold Part.Bounded Part.Small
  constructor
  · rintro ⟨ho, hr, ht, hg, hs, hc, hf, ha, hl, hx⟩
    exact ⟨⟨ho, hr, ht, hc, ha, hl, hx⟩, hg, hs, hf⟩
  · rintro ⟨⟨ho, hr, ht, hc, ha, hl, hx⟩, hg, hs, hf⟩
    exact ⟨ho, hr, ht, hg, hs, hc, hf, ha, hl, hx⟩

/-- No record is SAMPLING, unless the transport moves (R99). -/
def Part.SamplingRests (p : Part) : Prop := p.ctl.state.moving = false → ∀ s ∈ p.track.sheets, s.isSampling = false

/-- A pick deadline runs exactly for a request outstanding in WARMUP or RUNNING (R55). -/
def Part.PicksTimed (p : Part) : Prop :=
  ∀ t, (p.feeders.get t).deadline.isSome = ((p.feeders.get t).request && p.ctl.state.picking)

/-- The promises about the transport hold with the same core. -/
theorem transportAgrees_of_core {p q : Part} (h : q.core = p.core) (hs : p.SamplingRests → q.SamplingRests)
    (hd : p.PicksTimed → q.PicksTimed) (hp : p.TransportAgrees) : q.TransportAgrees := by
  obtain ⟨hcap, hdrain, hwarm, hrun, hreached, hwatch, hsampling, hpick⟩ := hp
  unfold Part.TransportAgrees Part.CaptureAgrees Part.TimedAgrees at *
  rw [show q.ctl.state = p.ctl.state from congrArg Core.state h,
    show q.ctl.locked = p.ctl.locked from congrArg Core.locked h,
    show q.ctl.firstFault = p.ctl.firstFault from congrArg Core.firstFault h,
    show q.ctl.further = p.ctl.further from congrArg Core.further h,
    show q.ctl.drainReason = p.ctl.drainReason from congrArg Core.drainReason h,
    show q.ctl.warmupEnd = p.ctl.warmupEnd from congrArg Core.warmupEnd h,
    show q.ctl.runEnd = p.ctl.runEnd from congrArg Core.runEnd h,
    show q.ctl.runEndReached = p.ctl.runEndReached from congrArg Core.runEndReached h,
    show q.clock.watchArmed = p.clock.watchArmed from congrArg Core.watchArmed h,
    show q.clock.cadenceLost = p.clock.cadenceLost from congrArg Core.cadenceLost h]
  have hstate : q.ctl.state = p.ctl.state := congrArg Core.state h
  have hs' := hs hsampling
  have hd' := hd hpick
  unfold Part.SamplingRests at hs'
  unfold Part.PicksTimed at hd'
  rw [hstate] at hs' hd'
  exact ⟨hcap, hdrain, hwarm, hrun, hreached, hwatch, hs', hd'⟩

theorem tablesLoaded_congr {p q : Part} (ht : q.tables = p.tables) (hs : q.ctl.state = p.ctl.state)
    (h : p.TablesLoaded) : q.TablesLoaded := by
  unfold Part.TablesLoaded at *
  rw [ht, hs]
  exact h

/-! ### Rooms and their groups -/

/-- An ADMITTING group's accepted count does not pass its declared one, at most 64 (R21, R30). -/
def Group.Capped (g : Group) : Prop := g.state = .admitting → g.accepted ≤ g.declared ∧ g.declared ≤ 64

/-- An unbroken group with every sheet still in the part (R29, R144). -/
def Group.Owed (g : Group) : Prop := g.state.broken = false ∧ g.accepted = g.inPath + g.inSet ∧ 1 ≤ g.accepted

/-- Every allowance entry is an unbroken group's, of 1 to 64 sheets and one to a group, and its group has every sheet
still in the part unless it is one of `hurt`; the entries are told apart. -/
def Part.RoomsOwnedBut (p : Part) (hurt : List GroupKey) : Prop :=
  (p.groups.entries.map Group.key).Nodup
  ∧ (∀ g ∈ p.groups.entries, g.key < p.groups.nextKey ∧ g.Capped)
  ∧ (p.stacker.allowances.map Allowance.group).Nodup
  ∧ ∀ a ∈ p.stacker.allowances, (1 ≤ a.count ∧ a.count ≤ 64)
      ∧ ∃ g ∈ p.groups.entries, g.key = a.group ∧ g.state.broken = false ∧ (a.group ∉ hurt → g.Owed)

def Part.RoomsOwned (p : Part) : Prop := p.RoomsOwnedBut []

theorem roomsOwnedBut_congr {p q : Part} {l : List GroupKey} (hg : q.groups = p.groups)
    (ha : q.stacker.allowances = p.stacker.allowances) (h : p.RoomsOwnedBut l) : q.RoomsOwnedBut l := by
  unfold Part.RoomsOwnedBut at *
  rw [hg, ha]
  exact h

/-! ### Changes that leave the core alone, or move the transport -/

/-- What keeps the promises about the transport, the tables and the sizes. -/
structure Mild (p q : Part) : Prop where
  tables : q.tables = p.tables
  pendingLoad : q.link.pendingLoad = p.link.pendingLoad
  pitch : q.arbiter.pitch = p.arbiter.pitch
  expiry : q.arbiter.expiryDue = true → p.arbiter.expiryDue = true
  tick : q.clock.tick = p.clock.tick
  spdInt : q.clock.spdInt = p.clock.spdInt
  fraction : q.clock.fraction = p.clock.fraction
  spdFrac : q.clock.spdFrac = p.clock.spdFrac
  bounded : p.Bounded → q.Bounded
  agrees : p.TransportAgrees → q.TransportAgrees
  loaded : p.TransportAgrees → p.TablesLoaded → q.TablesLoaded

/-- What keeps the counts of Part.Ranged and the rooms too. -/
structure Calm (p q : Part) : Prop extends Mild p q where
  loop : q.loop.length ≤ p.loop.length
  second : p.arbiter.pendingSecond ≤ 4 → q.arbiter.pendingSecond ≤ 4
  set : q.acc.sheets.length ≤ p.acc.sheets.length
  stacked : ∀ b, (q.stacker.bins.get b).stacked ≤ (p.stacker.bins.get b).stacked
  purgeStacked : q.stacker.purgeStacked ≤ p.stacker.purgeStacked
  rooms : p.RoomsOwned → q.RoomsOwned

theorem Mild.refl (p : Part) : Mild p p := ⟨rfl, rfl, rfl, id, rfl, rfl, rfl, rfl, id, id, fun _ => id⟩

theorem Mild.trans {p q r : Part} (h : Mild p q) (k : Mild q r) : Mild p r where
  tables := k.tables.trans h.tables
  pendingLoad := k.pendingLoad.trans h.pendingLoad
  pitch := k.pitch.trans h.pitch
  expiry := h.expiry ∘ k.expiry
  tick := k.tick.trans h.tick
  spdInt := k.spdInt.trans h.spdInt
  fraction := k.fraction.trans h.fraction
  spdFrac := k.spdFrac.trans h.spdFrac
  bounded := k.bounded ∘ h.bounded
  agrees := k.agrees ∘ h.agrees
  loaded ha := k.loaded (h.agrees ha) ∘ h.loaded ha

theorem Calm.refl (p : Part) : Calm p p where
  toMild := .refl p
  loop := Nat.le_refl _
  second := id
  set := Nat.le_refl _
  stacked _ := Nat.le_refl _
  purgeStacked := Nat.le_refl _
  rooms := id

theorem Calm.trans {p q r : Part} (h : Calm p q) (k : Calm q r) : Calm p r where
  toMild := h.toMild.trans k.toMild
  loop := k.loop.trans h.loop
  second := k.second ∘ h.second
  set := k.set.trans h.set
  stacked b := (k.stacked b).trans (h.stacked b)
  purgeStacked := k.purgeStacked.trans h.purgeStacked
  rooms := k.rooms ∘ h.rooms

section
variable {p q : Part}

theorem Mild.of_core (h : q.core = p.core) (hsmall : p.Small → q.Small)
    (hg : q.groups.entries.length ≤ p.groups.entries.length) (hl : q.track.sheets.length ≤ p.track.sheets.length)
    (hs : p.SamplingRests → q.SamplingRests) (hd : p.PicksTimed → q.PicksTimed) : Mild p q where
  tables := congrArg Core.tables h
  pendingLoad := congrArg Core.pendingLoad h
  pitch := congrArg Core.pitch h
  expiry := fun e => (show q.arbiter.expiryDue = p.arbiter.expiryDue from congrArg Core.expiryDue h) ▸ e
  tick := congrArg Core.tick h
  spdInt := congrArg Core.spdInt h
  fraction := congrArg Core.fraction h
  spdFrac := congrArg Core.spdFrac h
  bounded := by
    rw [bounded_iff, bounded_iff, show q.ctl.further = p.ctl.further from congrArg Core.further h]
    rintro ⟨hsm, hgl, hsl, hf⟩
    exact ⟨hsmall hsm, hg.trans hgl, hl.trans hsl, hf⟩
  agrees := transportAgrees_of_core h hs hd
  loaded _ := tablesLoaded_congr (congrArg Core.tables h) (congrArg Core.state h)

theorem PerBin.get_map {α β : Type} (f : α → β) (v : PerBin α) (b : BinId) : (PerBin.map f v).get b = f (v.get b) := by
  cases b <;> rfl

theorem Mild.calm (h : Mild p q) (hc : q.counts = p.counts) (hr : p.RoomsOwned → q.RoomsOwned) : Calm p q where
  toMild := h
  loop := Nat.le_of_eq (congrArg Counts.loop hc)
  second := fun e => (show q.arbiter.pendingSecond = p.arbiter.pendingSecond from congrArg Counts.pendingSecond hc) ▸ e
  set := Nat.le_of_eq (congrArg Counts.set hc)
  stacked b := by
    have := congrArg (fun c => PerBin.get (Counts.stacked c) b) hc
    simp only [Part.counts, PerBin.get_map] at this
    exact Nat.le_of_eq this
  purgeStacked := Nat.le_of_eq (congrArg Counts.purgeStacked hc)
  rooms := hr

theorem samplingRests_congr (hst : q.ctl.state = p.ctl.state) (h : q.track.sheets = p.track.sheets)
    (hs : p.SamplingRests) : q.SamplingRests := by
  unfold Part.SamplingRests at *
  rw [hst, h]
  exact hs

theorem picksTimed_congr (hst : q.ctl.state = p.ctl.state) (h : q.feeders = p.feeders) (hs : p.PicksTimed) :
    q.PicksTimed := by
  unfold Part.PicksTimed at *
  rw [hst, h]
  exact hs

/-- An update that reaches none of the fields. -/
theorem Calm.of_same (h : q.core = p.core) (hc : q.counts = p.counts) (hs : q.track.sheets = p.track.sheets)
    (hf : q.feeders = p.feeders) (hg : q.groups = p.groups) (ha : q.stacker.allowances = p.stacker.allowances)
    (hsmall : p.Small → q.Small) : Calm p q :=
  Mild.calm
    (.of_core h hsmall (Nat.le_of_eq (by rw [hg])) (Nat.le_of_eq (by rw [hs]))
      (samplingRests_congr (congrArg Core.state h) hs) (picksTimed_congr (congrArg Core.state h) hf))
    hc (roomsOwnedBut_congr hg ha)

/-- An update of the link that keeps the pending load. -/
theorem Calm.of_link (l : Link) (hp : l.pendingLoad = p.link.pendingLoad)
    (hs : p.Small → Part.Small { p with link := l }) : Calm p { p with link := l } :=
  .of_same (by unfold Part.core; dsimp only; rw [hp]) rfl rfl rfl rfl rfl hs

/-- A change of the records that brings no sampling and adds none. -/
theorem Calm.of_sheets (f : List Sheet → List Sheet) (hl : (f p.track.sheets).length ≤ p.track.sheets.length)
    (hs : p.ctl.state.moving = true
      ∨ ∀ s ∈ f p.track.sheets, s.isSampling = true → ∃ x ∈ p.track.sheets, x.isSampling = true) :
    Calm p { p with track := { p.track with sheets := f p.track.sheets } } :=
  Mild.calm
    (.of_core rfl id (Nat.le_refl _) hl
      (fun h hm s hmem => by
        rcases hs with hs | hs
        · exact absurd hs (Bool.eq_false_iff.1 hm)
        · refine Bool.eq_false_iff.2 fun e => ?_
          obtain ⟨x, hx, hxs⟩ := hs s hmem e
          exact absurd hxs (Bool.eq_false_iff.1 (h hm x hx)))
      id)
    rfl id

/-- A change of the trays that keeps a deadline with every request in WARMUP and RUNNING. -/
theorem Calm.of_feeders (v : PerTray Feeder) (hd : p.PicksTimed → Part.PicksTimed { p with feeders := v }) :
    Calm p { p with feeders := v } :=
  Mild.calm (.of_core rfl id (Nat.le_refl _) (Nat.le_refl _) id hd) rfl id

end

theorem PerTray.get_set {α : Type} (v : PerTray α) (t u : TrayId) (x : α) :
    (v.set t x).get u = if u = t then x else v.get u := by
  cases t <;> cases u <;> rfl

theorem PerBin.get_set {α : Type} (v : PerBin α) (b c : BinId) (x : α) :
    (v.set b x).get c = if c = b then x else v.get c := by
  cases b <;> cases c <;> rfl

/-! ### Elementary updates -/

section
variable (p : Part)

theorem send_calm (m : Message) : Calm p (p.send m) := .of_same rfl rfl rfl rfl rfl rfl id

theorem notice_calm : Calm p p.notice := .of_same rfl rfl rfl rfl rfl rfl id

theorem noticed_calm : Calm p p.noticed := .of_same rfl rfl rfl rfl rfl rfl id

theorem start_calm : Calm p p.start := .of_same rfl rfl rfl rfl rfl rfl id

theorem setPathLevel_calm (q : PathSensor) (x : Bool) : Calm p (p.setPathLevel q x) :=
  .of_same rfl rfl rfl rfl rfl rfl id

theorem setStagingLevel_calm (t : TrayId) (x : Bool) : Calm p (p.setStagingLevel t x) :=
  .of_same rfl rfl rfl rfl rfl rfl id

theorem setFramer_calm (f : Framer) : Calm p (p.setFramer f) := .of_same rfl rfl rfl rfl rfl rfl id

theorem setReturnReady_calm (x : Bool) : Calm p (p.setReturnReady x) := .of_same rfl rfl rfl rfl rfl rfl id

theorem gates_calm (g : Gates) : Calm p { p with gates := g } := .of_same rfl rfl rfl rfl rfl rfl id

theorem gauge_calm (g : Option (Half × Nat)) : Calm p { p with track := { p.track with gauge := g } } :=
  .of_same rfl rfl rfl rfl rfl rfl id

theorem openGroup_calm (k : Option GroupKey) : Calm p { p with planner := { p.planner with openGroup := k } } :=
  .of_same rfl rfl rfl rfl rfl rfl id

theorem setOpen_calm (k : GroupKey) : Calm p (p.setOpen k) := openGroup_calm p _

theorem anomaly_calm : Calm p p.anomaly :=
  .of_same rfl rfl rfl rfl rfl rfl fun ⟨ho, hr, ht, hc, _, hl, hs⟩ => ⟨ho, hr, ht, hc, Nat.min_le_left _ _, hl, hs⟩

theorem lateAnswer_calm : Calm p p.lateAnswer :=
  .of_same rfl rfl rfl rfl rfl rfl fun ⟨ho, hr, ht, hc, ha, _, hs⟩ => ⟨ho, hr, ht, hc, ha, Nat.min_le_left _ _, hs⟩

theorem dropCue_calm (seq : Half) (side : Side) : Calm p (p.dropCue seq side) :=
  .of_same rfl rfl rfl rfl rfl rfl fun ⟨ho, hr, ht, hc, ha, hl, hs⟩ =>
    ⟨ho, hr, ht, (List.length_filter_le ..).trans hc, ha, hl, hs⟩

/-- A change of the arbiter that keeps the pitch counter and the pending-second-pass count. -/
theorem arbiter_calm (a : Arbiter) (hp : a.pitch = p.arbiter.pitch) (he : a.expiryDue = p.arbiter.expiryDue)
    (hs : a.pendingSecond = p.arbiter.pendingSecond) : Calm p { p with arbiter := a } :=
  .of_same (by unfold Part.core; dsimp only; rw [hp, he]) (by unfold Part.counts; dsimp only; rw [hs])
    rfl rfl rfl rfl id

/-- A pending-second-pass count of at most 4, or no higher than it was (R70). -/
theorem pendingSecond_calm (n : Nat) (h : p.arbiter.pendingSecond ≤ 4 → n ≤ 4) :
    Calm p { p with arbiter := { p.arbiter with pendingSecond := n } } :=
  { Calm.refl p with
    toMild := .of_core rfl id (Nat.le_refl _) (Nat.le_refl _) id id
    second := h
    rooms := id }

theorem clearExpiry_calm : Calm p { p with arbiter := { p.arbiter with expiryDue := false } } :=
  { Calm.refl p with expiry := fun h => nomatch h }

/-- A loop with no more entries. -/
theorem loop_calm (l : List LoopEntry) (h : l.length ≤ p.loop.length) : Calm p { p with loop := l } :=
  { Calm.refl p with loop := h }

/-- A change of the eject record. -/
theorem eject_calm (e : Option Eject) : Calm p { p with acc := { p.acc with eject := e } } :=
  .of_same rfl rfl rfl rfl rfl rfl id

/-- A change of one record. -/
theorem mapSheet_calm (n : Half) {f : Sheet → Sheet}
    (hs : p.ctl.state.moving = true ∨ ∀ s, (f s).isSampling = true → s.isSampling = true) : Calm p (p.mapSheet n f) :=
  .of_sheets (fun l => l.map fun s : Sheet => if s.seq == n then f s else s) (Nat.le_of_eq (List.length_map ..))
    (hs.imp id fun hs s hmem e => by
      obtain ⟨x, hx, rfl⟩ := List.mem_map.1 hmem
      refine ⟨x, hx, ?_⟩
      split at e
      · exact hs x e
      · exact e)

/-- A change of one tray that keeps a deadline with every request in WARMUP and RUNNING. -/
theorem mapFeeder_calm (t : TrayId) {f : Feeder → Feeder}
    (hf : ∀ x, x.deadline.isSome = (x.request && p.ctl.state.picking) →
      (f x).deadline.isSome = ((f x).request && p.ctl.state.picking)) : Calm p (p.mapFeeder t f) :=
  .of_feeders _ fun h u => by
    dsimp only
    rw [PerTray.get_set]
    split
    · exact hf _ (h t)
    · exact h u

/-- A change of a tray that leaves its pick alone. -/
theorem mapFeeder_calm_same (t : TrayId) {f : Feeder → Feeder} (hr : ∀ x, (f x).request = x.request)
    (hd : ∀ x, (f x).deadline = x.deadline) : Calm p (p.mapFeeder t f) :=
  mapFeeder_calm p t fun x hx => by rw [hr, hd]; exact hx

theorem setTrayState_calm (t : TrayId) (x : TrayState) : Calm p (p.setTrayState t x) := by
  unfold Part.setTrayState
  split
  · exact .refl p
  · exact (mapFeeder_calm_same p t (f := fun f => { f with state := x }) (fun _ => rfl) fun _ => rfl).trans
      (notice_calm _)

/-- A new bin whose stacked count does not rise. -/
theorem setBin_calm (b : BinId) (x : Bin) (h : x.stacked ≤ (p.stacker.bins.get b).stacked) : Calm p (p.setBin b x) := by
  rw [setBin_eq]
  refine { Calm.refl p with
    toMild := .of_core rfl id (Nat.le_refl _) (Nat.le_refl _) id id
    stacked := fun c => ?_
    rooms := id }
  dsimp only
  rw [PerBin.get_set]
  split
  · rename_i hc
    rw [hc]
    exact h
  · exact Nat.le_refl _

/-! ### Reports and records taken (R179, R185 to R187) -/

theorem appendReport_small (r : Report) (h : p.link.reports.length < 64) (hs : p.Small) : (p.appendReport r).Small := by
  obtain ⟨ho, -, ht, hc, ha, hl, -⟩ := hs
  exact ⟨ho, by simpa using h, ht, hc, ha, hl, fun _ => by simp⟩

theorem appendReport_calm (r : Report) (h : p.link.reports.length < 64) : Calm p (p.appendReport r) :=
  .of_link _ rfl (appendReport_small p r h)

theorem held_calm (x : Held) : Calm p { p with link := { p.link with held := x } } := .of_link _ rfl id

theorem occur_calm (k : CoalescedKind) (x : Report) (f : Report → Report) : Calm p (p.occur k x f) := by
  unfold Part.occur
  split
  · exact .of_link _ rfl id
  · split
    · exact .of_link _ rfl fun ⟨ho, hr, ht, hc, ha, hl, hs⟩ =>
        ⟨ho, by simpa using hr, ht, hc, ha, hl, fun h => by simpa using hs h⟩
    · split
      · exact held_calm p _
      · split
        · rename_i h
          exact appendReport_calm p x ((reportRoom_iff p).1 h)
        · exact held_calm p _

theorem streamFault_calm (d : StreamFault) : Calm p (p.streamFault d) := occur_calm p _ _ _

theorem refuse_calm (k : ControlKind) : Calm p (p.refuse k) := streamFault_calm p _

theorem status_calm : Calm p p.status := occur_calm p _ _ _

theorem dropHead_calm : Calm p p.dropHead :=
  .of_link _ rfl fun ⟨ho, hr, ht, hc, ha, hl, hs⟩ =>
    ⟨(by simp : p.link.orders.tail.length ≤ p.link.orders.length).trans ho, hr, ht, hc, ha, hl, hs⟩

theorem setTaken_calm (n : Nat) (h : n < 32) : Calm p (p.setTaken n) :=
  .of_link _ rfl fun ⟨ho, hr, _, hc, ha, hl, hs⟩ => ⟨ho, hr, h, hc, ha, hl, hs⟩

theorem countTaken_calm : Calm p p.countTaken := by
  unfold Part.countTaken
  split
  · rename_i h
    exact setTaken_calm p _ h
  · exact (setTaken_calm p 0 (by decide)).trans (occur_calm _ _ _ _)

theorem takeHead_calm : Calm p p.takeHead := (dropHead_calm p).trans (countTaken_calm _)

theorem loadResult_calm (t : TableId) (c : Option LoadCause) (h : p.link.reports.length < 64) :
    Calm p (p.loadResult t c) :=
  ((dropHead_calm p).trans (appendReport_calm _ _ h)).trans (countTaken_calm _)

theorem reportFault_small (r : FaultRecord) (hs : p.Small) : (p.reportFault r).Small := by
  unfold Part.reportFault
  split
  · rename_i h
    exact appendReport_small p _ ((reportRoom_iff p).1 h) hs
  · exact hs

/-! ### The end of an event -/

theorem updateWaits_calm : Calm p p.updateWaits := by
  unfold Part.updateWaits
  dsimp only
  split
  · exact .refl p
  · exact .of_same rfl rfl rfl rfl rfl rfl id

theorem attend_calm : Calm p p.attend := by
  unfold Part.attend
  dsimp only
  split
  · exact ((updateWaits_calm p).trans (noticed_calm _)).trans (occur_calm _ _ _ _)
  · exact updateWaits_calm p

theorem beginSending_calm : Calm p p.beginSending := by
  unfold Part.beginSending
  split
  · rename_i r rest h
    split
    · exact (Calm.of_link { p.link with transmitting := true } rfl fun ⟨ho, hr, ht, hc, ha, hl, _⟩ =>
        ⟨ho, hr, ht, hc, ha, hl, fun _ => by rw [h]; exact List.cons_ne_nil _ _⟩).trans (send_calm _ _)
    · exact .refl p
  · exact .refl p

theorem finish_calm : Calm p p.finish := ((attend_calm p).trans (attend_calm _)).trans (beginSending_calm _)

end
end Sys2Proof.Machine

namespace Sys2Proof.Machine

/-! ### Moves of the transport -/

/-- The transport stands in `x` with every timed item dropped (R12, R55, R99, R165). -/
structure Part.AtRest (p : Part) (x : TransportState) : Prop where
  state : p.ctl.state = x
  drainReason : p.ctl.drainReason = none
  warmupEnd : p.ctl.warmupEnd = none
  runEnd : p.ctl.runEnd = none
  runEndReached : p.ctl.runEndReached = false
  watchArmed : p.clock.watchArmed = false
  sampling : ∀ s ∈ p.track.sheets, s.isSampling = false
  deadlines : ∀ t, (p.feeders.get t).deadline = none

theorem Part.AtRest.timedAgrees {p : Part} {x : TransportState} (h : p.AtRest x) (hm : x.moving = false)
    (hp : x.picking = false) : p.TimedAgrees := by
  refine ⟨?_, ?_, ?_, ?_, ?_, fun _ => h.sampling, fun t => ?_⟩
  · rw [h.state, h.drainReason]; cases x <;> first | rfl | cases hm
  · rw [h.state, h.warmupEnd]; cases x <;> first | rfl | cases hp
  · rw [h.state, h.runEnd]; cases x <;> first | rfl | cases hm
  · rw [h.runEndReached]; exact fun e => nomatch e
  · rw [h.watchArmed]; exact fun e => nomatch e
  · rw [h.state, h.deadlines, hp, Bool.and_false]; rfl

theorem isSampling_discardSampling (s : Sheet) : s.discardSampling.isSampling = false := by
  unfold Sheet.discardSampling Sheet.isSampling
  cases h : s.sampling <;> simp [h]

/-- The records of a part after their gauge sampling was discarded. -/
theorem not_sampling_of_discarded {p q : Part} (h : q.track.sheets = p.track.sheets.map Sheet.discardSampling) :
    ∀ s ∈ q.track.sheets, s.isSampling = false := by
  intro s hs
  rw [h] at hs
  obtain ⟨x, -, rfl⟩ := List.mem_map.1 hs
  exact isSampling_discardSampling x

section
variable {p : Part}

/-- A move of the transport: Transport Control, the cadence watch, the trays and the records' sampling. -/
theorem Calm.of_transport (c : Control) (k : Clock) (v : PerTray Feeder) (l : List Sheet) (m : List Message) (a : Bool)
    (hk : k.tick = p.clock.tick ∧ k.spdInt = p.clock.spdInt ∧ k.fraction = p.clock.fraction
      ∧ k.spdFrac = p.clock.spdFrac) (hl : l.length ≤ p.track.sheets.length)
    (hf : p.ctl.further ≤ 255 → c.further ≤ 255)
    (ha : p.TransportAgrees → Part.TransportAgrees { p with
      ctl := c, clock := k, feeders := v, track := { p.track with sheets := l }, sent := m, attentionDue := a })
    (ht : p.TransportAgrees → p.TablesLoaded → Part.TablesLoaded { p with ctl := c }) :
    Calm p { p with
      ctl := c, clock := k, feeders := v, track := { p.track with sheets := l }, sent := m, attentionDue := a } :=
  Mild.calm
    { tables := rfl, pendingLoad := rfl, pitch := rfl, expiry := id, tick := hk.1, spdInt := hk.2.1
      fraction := hk.2.2.1, spdFrac := hk.2.2.2
      bounded := by
        rw [bounded_iff, bounded_iff]
        rintro ⟨hsm, hgl, hsl, hfl⟩
        exact ⟨hsm, hgl, hl.trans hsl, hf hfl⟩
      agrees := ha
      loaded := ht }
    rfl id

/-- A move of the transport that leaves the sampling and the trays alone. -/
theorem Calm.of_ctl (c : Control) (k : Clock)
    (hk : k.tick = p.clock.tick ∧ k.spdInt = p.clock.spdInt ∧ k.fraction = p.clock.fraction
      ∧ k.spdFrac = p.clock.spdFrac)
    (hf : p.ctl.further ≤ 255 → c.further ≤ 255)
    (ha : p.TransportAgrees → Part.TransportAgrees { p with ctl := c, clock := k })
    (ht : p.TransportAgrees → p.TablesLoaded → Part.TablesLoaded { p with ctl := c }) :
    Calm p { p with ctl := c, clock := k } :=
  .of_transport c k p.feeders p.track.sheets p.sent p.attentionDue hk (Nat.le_refl _) hf ha ht

/-- A move of the transport from a state that is not stopped to one that is not. -/
theorem captureAgrees_of_moved {q : Part} (h : p.CaptureAgrees) (hp : p.ctl.state.stopped = false)
    (hq : q.ctl.state.stopped = false) (hl : q.ctl.locked = p.ctl.locked) (hf : q.ctl.firstFault = p.ctl.firstFault)
    (hn : q.ctl.further = p.ctl.further) : q.CaptureAgrees := by
  obtain ⟨hlocked, hfirst, -, hfurther⟩ := h
  have hnone : q.ctl.firstFault = none := by rw [hf, ← Option.not_isSome_iff_eq_none, hfirst, hp]; decide
  refine ⟨?_, ?_, fun r hr => ?_, fun _ => ?_⟩
  · rw [hl, hq, hlocked, hp]
  · rw [hnone, hq]; rfl
  · rw [hnone] at hr; cases hr
  · rw [hn, hfurther hp]

/-- Tables stay loaded when the transport moves on between states that need them. -/
theorem tablesLoaded_of_ctl {c : Control} (h : p.TablesLoaded) (hh : c.state ≠ .halted → p.ctl.state ≠ .halted)
    (hr : c.state = .warmup ∨ c.state = .running ∨ c.state = .draining ∨ c.state = .runout →
      p.ctl.state = .warmup ∨ p.ctl.state = .running ∨ p.ctl.state = .draining ∨ p.ctl.state = .runout) :
    Part.TablesLoaded { p with ctl := c } :=
  ⟨fun e => h.1 (hh e), fun e => h.2 (hr e)⟩

/-! #### Faults (R162 to R165) -/

theorem enterStopped_small (q : Part) (x : TransportState) (h : q.Small) : (q.enterStopped x).Small := by
  unfold Part.Small at *
  exact h

theorem raise_small (k : FaultKind) (x : Option Station) (a b : Option Half) (h : p.Small) :
    (p.raise k x a b).Small := by
  unfold Part.raise
  split
  · exact h
  · refine enterStopped_small _ _ (reportFault_small _ _ ?_)
    exact h

theorem raise_atRest (k : FaultKind) (x : Option Station) (a b : Option Half) (h : p.ctl.locked = false) :
    (p.raise k x a b).AtRest (if k.faultClass = .stop then .halted else .jammed) := by
  obtain ⟨hctl, hclock, hfeeders, htrack, -, -⟩ := raise_unlocked k x a b h
  refine ⟨?_, ?_, ?_, ?_, ?_, ?_, not_sampling_of_discarded (p := p) (by rw [htrack]), fun t => ?_⟩
  · rw [hctl]; rfl
  · rw [hctl]; rfl
  · rw [hctl]; rfl
  · rw [hctl]; rfl
  · rw [hctl]; rfl
  · rw [hclock]
  · rw [hfeeders, PerTray.get_map]

theorem raise_agrees (k : FaultKind) (x : Option Station) (a b : Option Half) (h : p.TransportAgrees) :
    (p.raise k x a b).TransportAgrees := by
  cases hl : p.ctl.locked with
  | true =>
    rw [raise_locked k x a b hl]
    obtain ⟨⟨hlocked, hfirst, hclass, -⟩, ht⟩ := h
    exact ⟨⟨hlocked, hfirst, hclass, fun hs => absurd (hlocked.symm.trans hl) (Bool.eq_false_iff.1 hs)⟩, ht⟩
  | false =>
    have hrest := raise_atRest k x a b hl
    obtain ⟨hctl, -⟩ := raise_unlocked k x a b hl
    refine ⟨⟨?_, ?_, fun r hr => ?_, fun hs => ?_⟩, ?_⟩
    · rw [hrest.state, hctl]; split <;> rfl
    · rw [hrest.state, hctl]; split <;> rfl
    · rw [hctl] at hr
      cases hr
      exact hrest.state
    · rw [hrest.state] at hs
      split at hs <;> cases hs
    · split at hrest
      · exact hrest.timedAgrees rfl rfl
      · exact hrest.timedAgrees rfl rfl

theorem raise_loaded (k : FaultKind) (x : Option Station) (a b : Option Half) (ha : p.TransportAgrees)
    (h : p.TablesLoaded) : (p.raise k x a b).TablesLoaded := by
  have ht : (p.raise k x a b).tables = p.tables := (raise_leaves p k x a b).2.2.1
  cases hl : p.ctl.locked with
  | true => exact tablesLoaded_congr ht (by rw [raise_locked k x a b hl]) h
  | false =>
    have hstate := (raise_atRest k x a b hl).state
    have hne : p.ctl.state ≠ .halted := fun e => by
      have := ha.1.1
      rw [hl, e] at this
      cases this
    unfold Part.TablesLoaded
    rw [ht, hstate]
    refine ⟨fun _ => h.1 hne, fun hs => ?_⟩
    split at hs <;> simp at hs

theorem raise_calm (p : Part) (k : FaultKind) (x : Option Station) (a b : Option Half) : Calm p (p.raise k x a b) := by
  obtain ⟨-, -, htables, -, hgroups, harbiter, -, hloop, hacc, hstacker, -, -, -, -, hsheets⟩ := raise_leaves p k x a b
  have hlen : (p.raise k x a b).track.sheets.length = p.track.sheets.length := by
    simpa using congrArg List.length hsheets
  refine Mild.calm
    { tables := htables, pendingLoad := ?_, pitch := by rw [harbiter], expiry := fun h => by rw [harbiter] at h; exact h
      tick := ?_, spdInt := ?_, fraction := ?_, spdFrac := ?_, bounded := ?_, agrees := raise_agrees k x a b,
        loaded := raise_loaded k x a b }
    (by unfold Part.counts; rw [hloop, hacc, hstacker, harbiter]) (roomsOwnedBut_congr hgroups (by rw [hstacker]))
  · cases h : p.ctl.locked with
    | true => rw [raise_locked k x a b h]
    | false => rw [(raise_unlocked k x a b h).2.2.2.2.2]; split <;> rfl
  · cases h : p.ctl.locked with
    | true => rw [raise_locked k x a b h]
    | false => rw [(raise_unlocked k x a b h).2.1]
  · cases h : p.ctl.locked with
    | true => rw [raise_locked k x a b h]
    | false => rw [(raise_unlocked k x a b h).2.1]
  · cases h : p.ctl.locked with
    | true => rw [raise_locked k x a b h]
    | false => rw [(raise_unlocked k x a b h).2.1]
  · cases h : p.ctl.locked with
    | true => rw [raise_locked k x a b h]
    | false => rw [(raise_unlocked k x a b h).2.1]
  · rw [bounded_iff, bounded_iff, hgroups, hlen]
    rintro ⟨hsm, hg, hs, hf⟩
    refine ⟨raise_small k x a b hsm, hg, hs, ?_⟩
    cases h : p.ctl.locked with
    | true => rw [raise_locked k x a b h]; exact Nat.min_le_left _ _
    | false => rw [(raise_unlocked k x a b h).1]; exact hf

theorem raiseFor_calm (p : Part) (k : FaultKind) (x : Station) (s : Sheet) : Calm p (p.raiseFor k x s) := raise_calm ..

/-! #### Entries to the other states -/

/-- A rest that is no stop, after a state that was none (R14, R165). -/
theorem agrees_of_rest {q : Part} {x : TransportState} (h : p.TransportAgrees) (hs : p.ctl.state.stopped = false)
    (hq : q.AtRest x) (hm : x.moving = false) (hp : x.picking = false) (hx : x.stopped = false)
    (hl : q.ctl.locked = p.ctl.locked) (hf : q.ctl.firstFault = p.ctl.firstFault)
    (hn : q.ctl.further = p.ctl.further) : q.TransportAgrees :=
  ⟨captureAgrees_of_moved h.1 hs (by rw [hq.state]; exact hx) hl hf hn, hq.timedAgrees hm hp⟩

theorem enterStandby_calm (h : p.ctl.state.stopped = false) : Calm p p.enterStandby := by
  rw [enterStandby_eq]
  refine .of_transport _ _ _ _ _ _ ⟨rfl, rfl, rfl, rfl⟩ (Nat.le_of_eq (List.length_map ..)) id (fun ha => ?_)
    fun _ hl => ?_
  · exact agrees_of_rest ha h (x := .standby)
      ⟨rfl, rfl, rfl, rfl, rfl, rfl, not_sampling_of_discarded (p := p) rfl, fun t => by rw [PerTray.get_map]⟩
        rfl rfl rfl
      rfl rfl rfl
  · refine tablesLoaded_of_ctl hl (fun _ e => ?_) fun e => ?_
    · rw [e] at h; cases h
    · rcases e with e | e | e | e <;> cases e

theorem enterSafe_calm (h : p.ctl.state.stopped = false) : Calm p p.enterSafe := by
  refine .of_transport _ _ _ _ _ _ ⟨rfl, rfl, rfl, rfl⟩ (Nat.le_of_eq (List.length_map ..)) id (fun ha => ?_)
    fun _ hl => ?_
  · exact agrees_of_rest ha h (x := .safe)
      ⟨rfl, rfl, rfl, rfl, rfl, rfl, not_sampling_of_discarded (p := p) rfl, fun t =>
        congrArg Feeder.deadline (PerTray.get_map _ p.feeders t)⟩ rfl rfl rfl rfl rfl rfl
  · refine tablesLoaded_of_ctl hl (fun _ e => ?_) fun e => ?_
    · rw [e] at h; cases h
    · rcases e with e | e | e | e <;> cases e

end
end Sys2Proof.Machine

namespace Sys2Proof.Machine

/-! #### The timed states (R12, R55, R156 to R158, R170, R172) -/

section
variable {p : Part}

/-- No request has a deadline in a state that makes no picks (R55). -/
theorem Part.TransportAgrees.no_deadline (h : p.TransportAgrees) (hp : p.ctl.state.picking = false) (t : TrayId) :
    (p.feeders.get t).deadline = none := by
  have := h.2.2.2.2.2.2.2 t
  rwa [hp, Bool.and_false, Option.isSome_eq_false_iff, Option.isNone_iff_eq_none] at this

theorem Part.TransportAgrees.picks (h : p.TransportAgrees) : p.PicksTimed := h.2.2.2.2.2.2.2

/-- The promises about the timed items in a state that needs none but the watch, entered from a state that is not
stopped. -/
theorem agrees_of_moving {q : Part} (h : p.TransportAgrees) (hp : p.ctl.state.stopped = false)
    (hq : q.ctl.state = .running ∨ q.ctl.state = .runout)
    (hl : q.ctl.locked = p.ctl.locked) (hf : q.ctl.firstFault = p.ctl.firstFault) (hn : q.ctl.further = p.ctl.further)
    (hd : q.ctl.drainReason = none) (hw : q.ctl.warmupEnd = none) (hr : q.ctl.runEnd = none)
    (he : q.ctl.runEndReached = false)
    (ha : q.clock.watchArmed = true → q.ctl.state = .running ∧ q.clock.cadenceLost = false)
    (hpick : q.PicksTimed) : q.TransportAgrees := by
  refine ⟨captureAgrees_of_moved h.1 hp ?_ hl hf hn, ?_, ?_, ?_, ?_, fun e => ⟨.inl (ha e).1, (ha e).2⟩, ?_, hpick⟩
  · rcases hq with e | e <;> rw [e] <;> rfl
  · rw [hd]; rcases hq with e | e <;> rw [e] <;> rfl
  · rw [hw]; rcases hq with e | e <;> rw [e] <;> rfl
  · rw [hr]; rcases hq with e | e <;> rw [e] <;> rfl
  · rw [he]; exact fun e => nomatch e
  · rcases hq with e | e <;> rw [e] <;> exact fun e => nomatch e

theorem picksTimed_dropped {q : Part} (h : q.feeders = p.feeders.map fun f => { f with deadline := none })
    (hs : q.ctl.state.picking = false) : q.PicksTimed := by
  intro t
  rw [h, hs, PerTray.get_map, Bool.and_false]
  rfl

theorem picksTimed_renewed {q : Part} {d : Tick} (hn : ∀ t, (p.feeders.get t).deadline = none)
    (h : q.feeders = p.feeders.map fun f => if f.request then { f with deadline := some d } else f)
    (hs : q.ctl.state.picking = true) : q.PicksTimed := by
  intro t
  rw [h, hs, PerTray.get_map, Bool.and_true]
  cases hr : (p.feeders.get t).request with
  | true => rfl
  | false => rw [if_neg (by decide), hn, hr]; rfl

theorem enterDraining_calm (x : DrainReason) (h : p.ctl.state = .running) : Calm p (p.enterDraining x) := by
  refine .of_transport _ _ _ _ _ _ ⟨rfl, rfl, rfl, rfl⟩ (Nat.le_refl _) id (fun ha => ?_) fun _ hl => ?_
  · obtain ⟨hcap, hdrain, hwarm, hrun, hreached, hwatch, -, hpick⟩ := ha
    rw [h] at hdrain hwarm hrun hreached
    exact ⟨captureAgrees_of_moved hcap (by rw [h]; rfl) rfl rfl rfl rfl, rfl, hwarm, hrun,
      fun e => (nomatch hreached e), fun e => ⟨.inr rfl, (hwatch e).2⟩, fun e => (nomatch e),
      picksTimed_dropped (p := p) rfl rfl⟩
  · exact tablesLoaded_of_ctl hl (fun _ e => by rw [h] at e; cases e) fun _ => .inr (.inl h)

/-- A drain goes on for another reason (R155, R157). -/
theorem drainReason_calm (x : DrainReason) (h : p.ctl.state = .draining) :
    Calm p { p with ctl := { p.ctl with drainReason := some x } } := by
  refine .of_ctl _ _ ⟨rfl, rfl, rfl, rfl⟩ id (fun ha => ?_) fun _ hl => hl
  obtain ⟨hcap, -, hrest⟩ := ha
  exact ⟨hcap, by rw [h]; rfl, hrest⟩

theorem armWatch_agrees_watch (q : Part) (h : q.armWatch.clock.watchArmed = true) :
    q.armWatch.clock.cadenceLost = false := by
  rw [armWatch_eq] at h ⊢
  have h' : q.sourceIsLine = true := h
  unfold Part.sourceIsLine at h'
  rw [Bool.and_eq_true] at h'
  simpa using h'.2

theorem resumeRunning_calm (h : p.ctl.state = .draining) : Calm p p.resumeRunning := by
  have harm := armWatch_agrees_watch ((p.setTransport .running).dropTimed.renewPickDeadlines)
  unfold Part.resumeRunning
  rw [armWatch_eq] at harm ⊢
  refine .of_transport _ _ _ _ _ _ ⟨rfl, rfl, rfl, rfl⟩ (Nat.le_refl _) id (fun ha => ?_) fun _ hl => ?_
  · refine agrees_of_moving ha (by rw [h]; rfl) (.inl rfl) rfl rfl rfl rfl rfl rfl rfl (fun e => ⟨rfl, harm e⟩)
      (picksTimed_renewed (p := p) (ha.no_deadline (by rw [h]; rfl)) rfl rfl)
  · exact tablesLoaded_of_ctl hl (fun _ e => by rw [h] at e; cases e) fun _ => .inr (.inr (.inl h))

theorem warmupEnd_calm {q : Part} (h : p.warmupEnd = some q) : Calm p q := by
  unfold Part.warmupEnd at h
  split at h
  · rename_i hw
    have hs : p.ctl.state = .warmup := eq_of_beq (Bool.and_eq_true_iff.1 hw).1
    cases h
    have harm := armWatch_agrees_watch ((p.setTransport .running).dropTimed)
    rw [armWatch_eq] at harm ⊢
    refine .of_ctl _ _ ⟨rfl, rfl, rfl, rfl⟩ id (fun ha => ?_) fun _ hl => ?_
    · refine agrees_of_moving ha (by rw [hs]; rfl) (.inl rfl) rfl rfl rfl rfl rfl rfl rfl (fun e => ⟨rfl, harm e⟩)
        fun t => ?_
      have := ha.picks t
      rw [hs] at this
      exact this
    · exact tablesLoaded_of_ctl hl (fun _ e => by rw [hs] at e; cases e) fun _ => .inl hs
  · cases h

/-- The entry to RUNOUT before the fresh records leave (R172). -/
theorem runout_calm (h : p.ctl.state = .warmup ∨ p.ctl.state = .running ∨ p.ctl.state = .draining) :
    Calm p (p.setTransport .runout).dropTimed.disarmWatch.dropPickDeadlines := by
  have hne : p.ctl.state ≠ .halted ∧ p.ctl.state.stopped = false := by
    rcases h with e | e | e <;> rw [e] <;> decide
  refine .of_transport _ _ _ _ _ _ ⟨rfl, rfl, rfl, rfl⟩ (Nat.le_refl _) id (fun ha => ?_) fun _ hl => ?_
  · refine agrees_of_moving ha hne.2 (.inr rfl) rfl rfl rfl rfl rfl rfl rfl (fun e => nomatch e)
      (picksTimed_dropped (p := p) rfl rfl)
  · exact tablesLoaded_of_ctl hl (fun _ => hne.1) fun _ => h.imp id fun e => e.imp id .inl

/-- The entry to WARMUP before the purge door's test (R152, R156). -/
def Part.warmed (p : Part) : Part :=
  Part.renewPickDeadlines { (p.setTransport .warmup).motorStart with
    ctl := { p.ctl with state := .warmup, warmupEnd := some (p.after p.params.warmup) } }

theorem warmed_calm (h : p.ctl.state = .standby) (hr : p.startReady = true) : Calm p p.warmed := by
  refine .of_transport _ _ _ _ _ _ ⟨rfl, rfl, rfl, rfl⟩ (Nat.le_refl _) id (fun ha => ?_) fun _ _ => ?_
  · have hpick := ha.no_deadline (by rw [h]; rfl)
    obtain ⟨hcap, hdrain, -, hrun, hreached, hwatch, hsampling, -⟩ := ha
    rw [h] at hdrain hrun hreached hwatch hsampling
    refine ⟨captureAgrees_of_moved hcap (by rw [h]; rfl) rfl rfl rfl rfl, hdrain, rfl, hrun,
      fun e => (nomatch hreached e),
      fun e => absurd (hwatch e).1 (by decide), fun _ => hsampling rfl, picksTimed_renewed (p := p) hpick rfl rfl⟩
  · unfold Part.startReady at hr
    simp only [Bool.and_eq_true] at hr
    obtain ⟨⟨⟨⟨⟨hg, hp⟩, hm⟩, hb⟩, -⟩, -⟩ := hr
    exact ⟨fun _ => ⟨hg, hp⟩, fun _ => ⟨hm, hb⟩⟩

theorem testPurgeDoor_calm (p : Part) : Calm p p.testPurgeDoor := by
  unfold Part.testPurgeDoor
  split
  · exact raise_calm p _ _ _ _
  · exact .refl p

theorem testResidue_calm (p : Part) : Calm p p.testResidue := by
  unfold Part.testResidue
  split
  · exact raise_calm p _ _ _ _
  · exact .refl p

theorem enterWarmup_calm (h : p.ctl.state = .standby) (hr : p.startReady = true) : Calm p p.enterWarmup :=
  (warmed_calm h hr).trans (testPurgeDoor_calm _)

/-- A change of the fields of Transport Control that no promise reads: the cover, the power-warn level, the sweep class.
-/
theorem ctl_calm (c : Control) (h : Part.core { p with ctl := c } = p.core) : Calm p { p with ctl := c } :=
  .of_same h rfl rfl rfl rfl rfl id

/-- The run end has been reached in RECOVERY (R170). -/
theorem runEndFlag_calm (h : p.ctl.state = .recovery) :
    Calm p { p with ctl := { p.ctl with runEndReached := true } } := by
  refine .of_ctl _ _ ⟨rfl, rfl, rfl, rfl⟩ id (fun ha => ?_) fun _ hl => hl
  obtain ⟨hcap, hdrain, hwarm, hrun, -, hrest⟩ := ha
  exact ⟨hcap, hdrain, hwarm, hrun, fun _ => h, hrest⟩

theorem recoveryEnd_calm {q : Part} (h : p.recoveryEnd = some q) : Calm p q := by
  unfold Part.recoveryEnd at h
  split at h
  · rename_i hr
    cases h
    have hs : p.dropSweepClass.ctl.state.stopped = false := by rw [show p.dropSweepClass.ctl.state = _ from hr.1]; rfl
    exact (ctl_calm (p := p) { p.ctl with sweepClass := none } rfl).trans (enterStandby_calm hs)
  · cases h

theorem attempt_calm {e : Part → Option Part} (h : ∀ q, e p = some q → Calm p q) : Calm p (p.attempt e) := by
  unfold Part.attempt
  cases he : e p with
  | none => exact .refl p
  | some q => exact h q he

theorem runEndReached_calm {q : Part} (h : p.runEndReached = some q) : Calm p q := by
  unfold Part.runEndReached at h
  split at h
  · rename_i hr
    cases h
    exact (runEndFlag_calm (eq_of_beq (Bool.and_eq_true_iff.1 hr).1)).trans (attempt_calm fun _ => recoveryEnd_calm)
  · cases h

/-- Cadence is lost, and the watch disarmed (R13). -/
theorem loseCadence_calm : Calm p p.loseCadence := by
  refine .of_ctl _ _ ⟨rfl, rfl, rfl, rfl⟩ id (fun ha => ?_) fun _ hl => hl
  obtain ⟨hcap, hdrain, hwarm, hrun, hreached, -, hrest⟩ := ha
  exact ⟨hcap, hdrain, hwarm, hrun, hreached, fun e => (nomatch e), hrest⟩

theorem watchReference_calm (t : Tick) : Calm p { p with clock := { p.clock with watchReference := t } } :=
  .of_same rfl rfl rfl rfl rfl rfl id

theorem drainForCadence_calm : Calm p p.drainForCadence := by
  unfold Part.drainForCadence
  split
  · rename_i h
    exact enterDraining_calm _ h
  · rename_i h
    split
    · exact drainReason_calm _ h
    · exact .refl p
  · exact .refl p

end
end Sys2Proof.Machine

namespace Sys2Proof.Machine

/-! ### Changes that leave the core alone -/

/-- What leaves the core alone, adds no record or entry, and brings no sampling and no request without its deadline. -/
structure Body (p q : Part) : Prop where
  core : q.core = p.core
  small : p.Small → q.Small
  groups : q.groups.entries.length ≤ p.groups.entries.length
  sheets : q.track.sheets.length ≤ p.track.sheets.length
  sampling : p.SamplingRests → q.SamplingRests
  picks : p.PicksTimed → q.PicksTimed

theorem Body.refl (p : Part) : Body p p := ⟨rfl, id, Nat.le_refl _, Nat.le_refl _, id, id⟩

theorem Body.trans {p q r : Part} (h : Body p q) (k : Body q r) : Body p r where
  core := k.core.trans h.core
  small := k.small ∘ h.small
  groups := k.groups.trans h.groups
  sheets := k.sheets.trans h.sheets
  sampling := k.sampling ∘ h.sampling
  picks := k.picks ∘ h.picks

theorem Body.mild {p q : Part} (h : Body p q) : Mild p q := .of_core h.core h.small h.groups h.sheets h.sampling h.picks

theorem Body.foldl {α : Type} {f : Part → α → Part} (hf : ∀ p x, Body p (f p x)) (l : List α) :
    ∀ p, Body p (l.foldl f p) := by
  induction l with
  | nil => exact fun p => .refl p
  | cons x l ih => exact fun p => (hf p x).trans (ih _)

/-! ### Group entries and allowances -/

section
variable {p q : Part} {l l' : List GroupKey}

/-- Entries told apart by their keys (R27). -/
theorem Part.RoomsOwnedBut.entry_unique (h : p.RoomsOwnedBut l) {g g' : Group} (hg : g ∈ p.groups.entries)
    (hg' : g' ∈ p.groups.entries) (hk : g.key = g'.key) : g = g' :=
  List.inj_on_of_nodup_map h.1 hg hg' hk

theorem mem_of_group? {k : GroupKey} {g : Group} (h : p.group? k = some g) : g ∈ p.groups.entries :=
  List.mem_of_find?_eq_some h

theorem group?_eq_none_iff {k : GroupKey} : p.group? k = none ↔ ∀ g ∈ p.groups.entries, g.key ≠ k := by
  unfold Part.group?
  rw [List.find?_eq_none]
  simp

/-- A change of the entries that keeps their keys, with no new allowance entry. -/
theorem Part.RoomsOwnedBut.of_map (h : p.RoomsOwnedBut l) (f : Group → Group)
    (he : q.groups.entries = p.groups.entries.map f) (hk : ∀ g, (f g).key = g.key)
    (hn : q.groups.nextKey = p.groups.nextKey) (hc : ∀ g ∈ p.groups.entries, g.Capped → (f g).Capped)
    (hs : (q.stacker.allowances.map Allowance.group).Sublist (p.stacker.allowances.map Allowance.group))
    (hcount : ∀ a ∈ q.stacker.allowances, 1 ≤ a.count ∧ a.count ≤ 64)
    (ho : ∀ a ∈ q.stacker.allowances, ∀ g ∈ p.groups.entries, g.key = a.group → g.state.broken = false →
      (a.group ∉ l → g.Owed) → (f g).state.broken = false ∧ (a.group ∉ l' → (f g).Owed)) : q.RoomsOwnedBut l' := by
  obtain ⟨hkeys, hentry, hnodup, hallow⟩ := h
  refine ⟨?_, ?_, hs.nodup hnodup, fun a ha => ⟨hcount a ha, ?_⟩⟩
  · rw [he, List.map_map, show Group.key ∘ f = Group.key from funext hk]
    exact hkeys
  · rw [he, hn]
    intro g hg
    obtain ⟨x, hx, rfl⟩ := List.mem_map.1 hg
    rw [hk]
    exact ⟨(hentry x hx).1, hc x hx (hentry x hx).2⟩
  · obtain ⟨b, hb, hba⟩ := List.mem_map.1 (hs.mem (List.mem_map_of_mem ha))
    obtain ⟨-, g, hg, hgk, hgb, hgo⟩ := hallow b hb
    rw [hba] at hgk hgo
    obtain ⟨hb', ho'⟩ := ho a ha g hg hgk hgb hgo
    exact ⟨f g, by rw [he]; exact List.mem_map_of_mem hg, by rw [hk, hgk], hb', ho'⟩

/-- The groups hurt are those that still have an allowance entry. -/
theorem Part.RoomsOwnedBut.shrink (h : p.RoomsOwnedBut l)
    (hl : ∀ a ∈ p.stacker.allowances, a.group ∈ l → a.group ∈ l') : p.RoomsOwnedBut l' := by
  obtain ⟨hkeys, hentry, hnodup, hallow⟩ := h
  refine ⟨hkeys, hentry, hnodup, fun a ha => ?_⟩
  obtain ⟨hcount, g, hg, hgk, hgb, hgo⟩ := hallow a ha
  exact ⟨hcount, g, hg, hgk, hgb, fun hn => hgo fun hm => hn (hl a ha hm)⟩

/-- A broken group holds no room (R35). -/
theorem Part.RoomsOwnedBut.broken_no_room (h : p.RoomsOwnedBut l) {k : GroupKey} {g : Group} (hg : p.group? k = some g)
    (hb : g.state.broken = true) : ∀ a ∈ p.stacker.allowances, a.group ≠ k := by
  intro a ha hak
  obtain ⟨-, x, hx, hxk, hxb, -⟩ := h.2.2.2 a ha
  have e := h.entry_unique hx (mem_of_group? hg) (by rw [hxk, hak, group?_key hg])
  rw [e, hb] at hxb
  cases hxb

/-- A change of one group's entry. -/
theorem Part.RoomsOwnedBut.mapGroup (h : p.RoomsOwnedBut l) (k : GroupKey) {f : Group → Group}
    (hl : ∀ j ∈ l, j = k ∨ j ∈ l') (hk : ∀ g, (f g).key = g.key)
    (hc : ∀ g ∈ p.groups.entries, g.key = k → g.Capped → (f g).Capped)
    (ho : ∀ a ∈ p.stacker.allowances, a.group = k → ∀ g ∈ p.groups.entries, g.key = k → g.state.broken = false →
      (k ∉ l → g.Owed) → (f g).state.broken = false ∧ (k ∉ l' → (f g).Owed)) :
    (p.mapGroup k f).RoomsOwnedBut l' := by
  refine h.of_map (fun g => if g.key == k then f g else g) rfl (fun g => ?_) rfl (fun g hg hcap => ?_) (.refl _)
    (fun a ha => (h.2.2.2 a ha).1) fun a ha g hg hgk hb hown => ?_
  · split
    · exact hk g
    · rfl
  · split
    · rename_i e
      exact hc g hg (eq_of_beq e) hcap
    · exact hcap
  · split
    · rename_i e
      have e' : a.group = k := by rw [← hgk]; exact eq_of_beq e
      rw [e'] at hown ⊢
      exact ho a ha e' g hg (eq_of_beq e) hb hown
    · rename_i e
      exact ⟨hb, fun hn => hown fun hm => (hl _ hm).elim (fun he => e (by rw [hgk, he]; exact beq_self_eq_true k)) hn⟩

/-- A change of the entry of a group that holds no room. -/
theorem Part.RoomsOwnedBut.mapGroup_other (h : p.RoomsOwnedBut l) (k : GroupKey) {f : Group → Group}
    (hk : ∀ g, (f g).key = g.key) (hc : ∀ g, g.Capped → (f g).Capped) (ho : ∀ a ∈ p.stacker.allowances, a.group ≠ k) :
    (p.mapGroup k f).RoomsOwnedBut l :=
  h.mapGroup k (fun _ => .inr) hk (fun g _ _ => hc g) fun a ha e => absurd e (ho a ha)

theorem capped_of_state {g : Group} (h : g.state ≠ .admitting) : g.Capped := fun e => absurd e h

/-- A group taken out of the ADMITTING and CLOSED states with the effects of R35 holds no room. -/
theorem Part.RoomsOwnedBut.breakWith (h : p.RoomsOwnedBut l) {k : GroupKey} {f : Group → Group}
    (hk : ∀ g, (f g).key = g.key) (hf : ∀ g, (f g).state ≠ .admitting) (hl : ∀ j ∈ l, j = k ∨ j ∈ l') :
    ((p.mapGroup k f).breakEffects k).RoomsOwnedBut l' := by
  refine h.of_map (fun g => if g.key == k then f g else g) rfl (fun g => ?_) rfl (fun g hg hcap => ?_)
    (List.filter_sublist.map _) (fun a ha => (h.2.2.2 a (List.mem_of_mem_filter ha)).1) fun a ha g hg hgk hb hown => ?_
  · split
    · exact hk g
    · rfl
  · split
    · exact capped_of_state (hf g)
    · exact hcap
  · have hne : a.group ≠ k := by simpa using (List.mem_filter.1 ha).2
    rw [if_neg (by rw [hgk]; simpa using hne)]
    exact ⟨hb, fun hn => hown fun hm => (hl _ hm).elim hne hn⟩

theorem closeAtCap_rooms (k : GroupKey) (h : p.RoomsOwnedBut l) : (p.closeAtCap k).RoomsOwnedBut l := by
  unfold Part.closeAtCap
  split
  · rename_i g hg
    split
    · rename_i hs
      exact h.mapGroup_other k (fun _ => rfl) (fun _ _ => capped_of_state (by simp))
        (h.broken_no_room hg (by rw [hs.1]; rfl))
    · exact h
  · exact h

/-- After a break request the group holds no room (R35). -/
theorem breakGroup_rooms {k : GroupKey} (r : BreakReason) (h : p.RoomsOwnedBut l) (hl : ∀ j ∈ l, j = k ∨ j ∈ l') :
    (p.breakGroup k r).RoomsOwnedBut l' := by
  unfold Part.breakGroup
  split
  · rename_i hg
    refine h.shrink fun a ha hm => (hl _ hm).elim (fun e => ?_) id
    obtain ⟨-, g, hgm, hgk, -⟩ := h.2.2.2 a ha
    exact absurd (hgk.trans e) (group?_eq_none_iff.1 hg g hgm)
  · rename_i g hg
    have hbroken : g.state.broken = true → p.RoomsOwnedBut l' := fun hb =>
      h.shrink fun a ha hm => (hl _ hm).elim (fun e => absurd e (h.broken_no_room hg hb a ha)) id
    split
    · exact closeAtCap_rooms k (h.breakWith (fun _ => rfl) (fun _ => by simp) hl)
    · exact h.breakWith (fun _ => rfl) (fun _ => by simp) hl
    · rename_i hs
      exact hbroken (by rw [hs]; rfl)
    · rename_i hs
      exact hbroken (by rw [hs]; rfl)

theorem truncate_rooms (h : p.RoomsOwned) : p.truncate.RoomsOwned := by
  unfold Part.truncate
  split
  · exact h
  · rename_i k _
    split
    · exact h
    · rename_i g hg
      split
      · exact h.breakWith (k := k) (fun _ => rfl) (fun _ => by simp) fun j hj => nomatch hj
      · rename_i hs
        exact h.mapGroup_other k (fun _ => rfl) (fun _ _ => capped_of_state (by simp))
          (h.broken_no_room hg (by rw [hs]; rfl))
      · exact h
      · exact h

/-! ### Breaks (R34, R35, R37) -/

theorem mapGroup_body (p : Part) (k : GroupKey) (f : Group → Group) : Body p (p.mapGroup k f) :=
  ⟨rfl, id, Nat.le_of_eq (List.length_map ..), Nat.le_refl _, id, id⟩

theorem samplingRests_of_map {f : Sheet → Sheet} (hst : q.ctl.state = p.ctl.state)
    (h : q.track.sheets = p.track.sheets.map f) (hf : ∀ s, (f s).isSampling = s.isSampling) (hs : p.SamplingRests) :
    q.SamplingRests := by
  intro hm s hmem
  rw [h] at hmem
  obtain ⟨x, hx, rfl⟩ := List.mem_map.1 hmem
  rw [hf]
  rw [hst] at hm
  exact hs hm x hx

theorem breakEffects_body (p : Part) (k : GroupKey) : Body p (p.breakEffects k) :=
  ⟨rfl, id, Nat.le_refl _, Nat.le_of_eq (List.length_map ..), samplingRests_of_map rfl rfl fun s =>
    by split <;> rfl, id⟩

theorem clearOpen_body (p : Part) : Body p p.clearOpen := ⟨rfl, id, Nat.le_refl _, Nat.le_refl _, id, id⟩

theorem closeAtCap_body (p : Part) (k : GroupKey) : Body p (p.closeAtCap k) := by
  rcases closeAtCap_eq p k with h | h
  · rw [h]; exact .refl p
  · rw [h]; exact (mapGroup_body p k _).trans (clearOpen_body _)

theorem breakGroup_body (p : Part) (k : GroupKey) (r : BreakReason) : Body p (p.breakGroup k r) := by
  rcases breakGroup_eq p k r with h | h | h
  · rw [h]; exact .refl p
  · rw [h]; exact ((mapGroup_body p k _).trans (breakEffects_body _ k)).trans (closeAtCap_body _ k)
  · rw [h]; exact (mapGroup_body p k _).trans (breakEffects_body _ k)

theorem truncate_body (p : Part) : Body p p.truncate := by
  unfold Part.truncate
  split
  · exact .refl p
  · split
    · exact clearOpen_body p
    · split
      · exact ((mapGroup_body p _ _).trans (breakEffects_body _ _)).trans (clearOpen_body _)
      · exact (mapGroup_body p _ _).trans (clearOpen_body _)
      · exact clearOpen_body p
      · exact clearOpen_body p

theorem breakGroup_calm (p : Part) (k : GroupKey) (r : BreakReason) : Calm p (p.breakGroup k r) := by
  have h := breakGroup_leaves p k r
  refine (breakGroup_body p k r).mild.calm ?_ fun ho => breakGroup_rooms r ho fun j hj => nomatch hj
  unfold Part.counts
  rw [h.loop, h.acc, h.bins, h.purgeStacked, h.arbiter]

theorem breakOpen_calm (p : Part) (r : BreakReason) : Calm p (p.breakOpen r) := by
  unfold Part.breakOpen
  split
  · exact .refl p
  · exact breakGroup_calm p _ r

theorem truncate_counts (p : Part) : p.truncate.counts = p.counts := by
  unfold Part.truncate
  split
  · rfl
  · split
    · rfl
    · split <;> rfl

theorem truncate_calm (p : Part) : Calm p p.truncate := (truncate_body p).mild.calm (truncate_counts p) truncate_rooms

theorem spoilSheet_calm (p : Part) (n : Half) (r : SpoilReason) : Calm p (p.spoilSheet n r) :=
  mapSheet_calm p n (.inr fun _ => id)

end
end Sys2Proof.Machine

namespace Sys2Proof.Machine

section
variable {p q : Part}

/-! ### Picks (R50, R53, R54) -/

theorem requestPick_calm (p : Part) (t : TrayId) (h : p.ctl.state.picking = true) : Calm p (p.requestPick t) :=
  (mapFeeder_calm p t (f := fun f => { f with request := true, deadline := some (p.after p.params.pickLimit) })
    fun _ _ => by rw [h]; rfl).trans (send_calm _ _)

theorem unrequest_calm (p : Part) (t : TrayId) {f : Feeder → Feeder} (hr : ∀ x, (f x).request = false)
    (hd : ∀ x, (f x).deadline = none) : Calm p (p.mapFeeder t f) :=
  mapFeeder_calm p t fun x _ => by rw [hr, hd]; rfl

theorem moveTo_calm (p : Part) (s : Sheet) (t : TrayId) (h : p.ctl.state.picking = true) : Calm p (p.moveTo s t) :=
  (((unrequest_calm p s.tray (f := fun f => { f with holder := none, request := false, deadline := none })
    (fun _ => rfl)
    fun _ => rfl).trans (mapFeeder_calm_same _ t (f := fun f => { f with holder := some s.seq }) (fun _ => rfl)
    fun _ => rfl)).trans (mapSheet_calm _ s.seq (f := fun r => { r with tray := t, attempts := 0 })
      (.inr fun _ => id))).trans
    (requestPick_calm _ t (by exact h))

theorem moveOn_calm (p : Part) (s : Sheet) : Calm p (p.moveOn s) := by
  unfold Part.moveOn
  split
  · rename_i h
    split
    · exact moveTo_calm p s _ h
    · exact .refl p
  · exact .refl p

theorem stallEnd_calm (h : p.stallEnd = some q) : Calm p q := by
  unfold Part.stallEnd at h
  split at h
  · rename_i hp
    split at h
    · cases h
    · split at h
      · cases h
      · split at h <;> cases h
        · exact (mapSheet_calm p _ (f := fun r => { r with attempts := 0 }) (.inr fun _ => id)).trans
            (requestPick_calm _ _ (by exact hp))
        · exact moveTo_calm p _ _ hp
  · cases h

/-- The conditions of a pick leave room in the Sheet Track (R49). -/
theorem pickCheck_room {m : MediaEntry} {t : TrayId} (h : p.pickCheck m = .ok t) : p.track.sheets.length < 16 := by
  unfold Part.pickCheck at h
  dsimp only at h
  split at h
  · cases h
  · rename_i hn
    exact Nat.not_le.1 hn

/-- A new record, never launched, in the Sheet Track. -/
theorem addSheet_mild (p : Part) (s : Sheet) (n : Half) (h : p.track.sheets.length < 16) (hs : s.isSampling = false) :
    Mild p { p with track := { p.track with sheets := p.track.sheets ++ [s], nextSeq := n } } where
  tables := rfl
  pendingLoad := rfl
  pitch := rfl
  expiry := id
  tick := rfl
  spdInt := rfl
  fraction := rfl
  spdFrac := rfl
  bounded := by
    rw [bounded_iff, bounded_iff]
    rintro ⟨hsm, hg, -, hf⟩
    exact ⟨hsm, hg, by simpa using h, hf⟩
  agrees := transportAgrees_of_core rfl
    (fun hr hm x hx => (List.mem_append.1 hx).elim (hr hm x) fun hx => by rw [List.mem_singleton.1 hx]; exact hs) id
  loaded _ := tablesLoaded_congr rfl rfl

theorem takeIntoPick_mild (p : Part) (o : SheetOrder) (m : MediaEntry) (k : GroupKey) (t : TrayId)
    (h : p.track.sheets.length < 16) (hp : p.ctl.state.picking = true) : Mild p (p.takeIntoPick o m k t) := by
  have hbase : Mild p _ := ((addSheet_mild p (sheetOf o m k p.track.nextSeq t) (p.track.nextSeq + 1) h rfl).trans
    (mapFeeder_calm_same _ t (f := fun f => { f with holder := some p.track.nextSeq }) (fun _ => rfl)
      fun _ => rfl).toMild).trans
    (mapGroup_body _ k fun g => { g with accepted := g.accepted + 1, inPath := g.inPath + 1 }).mild
  unfold Part.takeIntoPick
  dsimp only
  split
  · exact hbase.trans (requestPick_calm _ t (by exact hp)).toMild
  · exact hbase

/-- An order taken into a pick changes its group's entry, and of the counts, rooms and reports nothing. -/
theorem takeIntoPick_leaves (p : Part) (o : SheetOrder) (m : MediaEntry) (k : GroupKey) (t : TrayId) :
    (p.takeIntoPick o m k t).groups
        = (p.mapGroup k fun g => { g with accepted := g.accepted + 1, inPath := g.inPath + 1 }).groups
    ∧ (p.takeIntoPick o m k t).stacker = p.stacker ∧ (p.takeIntoPick o m k t).counts = p.counts
    ∧ (p.takeIntoPick o m k t).planner = p.planner := by
  unfold Part.takeIntoPick
  dsimp only
  split <;> exact ⟨rfl, rfl, rfl, rfl⟩

theorem takeIntoPick_rooms {l l' : List GroupKey} (o : SheetOrder) (m : MediaEntry) (k : GroupKey) (t : TrayId)
    (h : p.RoomsOwnedBut l) (hl : ∀ j ∈ l, j = k ∨ j ∈ l')
    (hc : ∀ g ∈ p.groups.entries, g.key = k → g.state = .admitting → g.accepted < g.declared)
    (hown : ∀ g ∈ p.groups.entries, g.key = k → k ∈ l → g.accepted = 0 ∧ g.inPath = 0 ∧ g.inSet = 0) :
    (p.takeIntoPick o m k t).RoomsOwnedBut l' := by
  obtain ⟨hg, hst, -, -⟩ := takeIntoPick_leaves p o m k t
  refine roomsOwnedBut_congr hg (by rw [hst]; rfl)
    (h.mapGroup k (l' := l') hl (fun _ => rfl) (fun g hm hk hcap ha => ⟨hc g hm hk ha, (hcap ha).2⟩) ?_)
  intro a _ _ g hm hk hb howed
  refine ⟨hb, fun _ => ⟨hb, ?_, Nat.le_add_left _ _⟩⟩
  dsimp only
  by_cases hkl : k ∈ l
  · obtain ⟨ha, hi, hs⟩ := hown g hm hk hkl
    omega
  · have := (howed hkl).2.1
    omega

/-! ### Entries opened and closed (R21, R24, R31, R32) -/

theorem addGroup_rooms {g : Group} (h : p.RoomsOwned) (hk : g.key = p.groups.nextKey) (hc : g.Capped) :
    (p.addGroup g).RoomsOwned := by
  obtain ⟨hkeys, hentry, hnodup, hallow⟩ := h
  refine ⟨?_, fun x hx => ?_, hnodup, fun a ha => ?_⟩
  · show ((p.groups.entries ++ [g]).map Group.key).Nodup
    rw [List.map_append, List.nodup_append]
    refine ⟨hkeys, List.nodup_singleton _, fun x hx y hy => ?_⟩
    obtain ⟨z, hz, rfl⟩ := List.mem_map.1 hx
    rw [List.mem_singleton.1 hy, hk]
    exact Nat.ne_of_lt (hentry z hz).1
  · rcases List.mem_append.1 hx with hx | hx
    · exact ⟨Nat.lt_succ_of_lt (hentry x hx).1, (hentry x hx).2⟩
    · rw [List.mem_singleton.1 hx]
      exact ⟨hk ▸ Nat.lt_succ_self _, hc⟩
  · obtain ⟨hcount, x, hx, hrest⟩ := hallow a ha
    exact ⟨hcount, x, List.mem_append_left _ hx, hrest⟩

/-- A new group with its room (R24, R143), before its first order is taken into a pick. -/
theorem reserve_rooms {g : Group} {a : Allowance} (h : p.RoomsOwned) (hk : g.key = p.groups.nextKey) (hc : g.Capped)
    (hb : g.state.broken = false) (ha : a.group = g.key) (hcount : 1 ≤ a.count ∧ a.count ≤ 64) :
    ((p.addGroup g).reserve a).RoomsOwnedBut [g.key] := by
  obtain ⟨hkeys, hentry, hnodup, hallow⟩ := addGroup_rooms h hk hc
  have hold := h.2.2.2
  refine ⟨hkeys, hentry, ?_, fun b hb' => ?_⟩
  · show ((p.stacker.allowances ++ [a]).map Allowance.group).Nodup
    rw [List.map_append, List.nodup_append]
    refine ⟨hnodup, List.nodup_singleton _, fun x hx y hy => ?_⟩
    obtain ⟨z, hz, rfl⟩ := List.mem_map.1 hx
    rw [List.mem_singleton.1 hy, ha, hk]
    obtain ⟨-, w, hw, hwk, -⟩ := hold z hz
    rw [← hwk]
    exact Nat.ne_of_lt (h.2.1 w hw).1
  · rcases List.mem_append.1 hb' with hb' | hb'
    · obtain ⟨hc', x, hx, hxk, hxb, hxo⟩ := hallow b hb'
      exact ⟨hc', x, hx, hxk, hxb, fun _ => hxo (by simp)⟩
    · rw [List.mem_singleton.1 hb']
      exact ⟨hcount, g, List.mem_append_right _ (List.mem_singleton_self _), ha.symm, hb,
        fun hn => absurd (by rw [ha]; exact List.mem_singleton_self _) hn⟩

theorem addGroup_mild (p : Part) (g : Group) (h : p.groups.entries.length < 16) : Mild p (p.addGroup g) where
  tables := rfl
  pendingLoad := rfl
  pitch := rfl
  expiry := id
  tick := rfl
  spdInt := rfl
  fraction := rfl
  spdFrac := rfl
  bounded := by
    rw [bounded_iff, bounded_iff]
    rintro ⟨hsm, -, hs, hf⟩
    refine ⟨hsm, ?_, hs, hf⟩
    show (p.groups.entries ++ [g]).length ≤ 16
    simpa using h
  agrees := transportAgrees_of_core rfl id id
  loaded _ := tablesLoaded_congr rfl rfl

theorem reserve_mild (p : Part) (a : Allowance) : Mild p (p.reserve a) :=
  .of_core rfl id (Nat.le_refl _) (Nat.le_refl _) id id

theorem allowances_mild (p : Part) (l : List Allowance) :
    Mild p { p with stacker := { p.stacker with allowances := l } } :=
  .of_core rfl id (Nat.le_refl _) (Nat.le_refl _) id id

theorem closeIntact_mild (p : Part) (k : GroupKey) (tag : Half) : Mild p (p.closeIntact k tag) :=
  ((mapGroup_body p k _).trans (clearOpen_body _)).mild.trans (allowances_mild _ _)

theorem closeIntact_rooms {k : GroupKey} (tag : Half) (h : p.RoomsOwned)
    (hs : ∀ g ∈ p.groups.entries, g.key = k → g.state = .admitting) : (p.closeIntact k tag).RoomsOwned := by
  refine h.of_map (fun g => if g.key == k then { g with lastTag := some tag, state := .closed } else g) rfl
    (fun g => by split <;> rfl) rfl (fun g _ hc => by split; exacts [capped_of_state (by simp), hc]) ?_ ?_ ?_
  · have : (p.closeIntact k tag).stacker.allowances.map Allowance.group
        = p.stacker.allowances.map Allowance.group := by
      unfold Part.closeIntact
      dsimp only
      rw [List.map_map]
      exact List.map_congr_left fun a _ => by rw [Function.comp_apply]; split <;> rfl
    rw [this]
  · intro a ha
    obtain ⟨b, hb, rfl⟩ := List.mem_map.1 ha
    obtain ⟨hcount, g, hg, hgk, -, hgo⟩ := h.2.2.2 b hb
    split
    · rename_i e
      have hk : g.key = k := hgk.trans (eq_of_beq e)
      obtain ⟨-, -, hpos⟩ := hgo (by simp)
      have hcap := (h.2.1 g hg).2 (hs g hg hk)
      have hfind : p.group? k = some g := by
        cases hf : p.group? k with
        | none => exact absurd hk (group?_eq_none_iff.1 hf g hg)
        | some x => rw [h.entry_unique (mem_of_group? hf) hg (by rw [group?_key hf, hk])]
      dsimp only
      rw [hfind]
      exact ⟨hpos, hcap.1.trans hcap.2⟩
    · exact hcount
  · intro a _ g hg _ hb howed
    split
    · exact ⟨rfl, fun hn => ⟨rfl, (howed hn).2⟩⟩
    · exact ⟨hb, howed⟩

end
end Sys2Proof.Machine

namespace Sys2Proof.Machine

/-! ### Candidates that pass (R4, R15, R16, R26, R44, R140) -/

section
variable {α : Type}

theorem alsoCheck_eq_ok {r : Except LoadCause α} {e : LoadCause} {ok : α → Bool} {c : α}
    (h : alsoCheck r e ok = .ok c) : r = .ok c ∧ ok c = true := by
  unfold alsoCheck at h
  split at h
  · cases h
  · split at h
    · rename_i hok
      cases h
      exact ⟨rfl, hok⟩
    · cases h

theorem length_overlay {current run : List α} {first : Nat} (h : first + run.length ≤ current.length) :
    (overlay current first run).length = current.length := by
  simp only [overlay, List.length_append, List.length_take, List.length_drop]
  omega

theorem mem_overlay {current run : List α} {first : Nat} {x : α} (h : x ∈ overlay current first run) :
    x ∈ current ∨ x ∈ run := by
  simp only [overlay, List.mem_append] at h
  rcases h with (h | h) | h
  · exact .inl (List.mem_of_mem_take h)
  · exact .inr h
  · exact .inl (List.mem_of_mem_drop h)

theorem candidate_length {size first : Nat} {current : Option (List α)} {run c : List α}
    (h : candidate size current first run = .ok c) (hc : ∀ old, current = some old → old.length = size) :
    c.length = size := by
  unfold candidate at h
  split at h
  · cases h
  · rename_i hn
    cases current with
    | none =>
      dsimp only at h
      split at h
      · rename_i hf
        cases h
        exact hf.2
      · cases h
    | some old =>
      cases h
      have := hc old rfl
      rw [length_overlay (by omega), this]

end

section
variable {p q : Part}

/-- Every loaded table is valid, and the tables are loaded where they are needed. -/
def Part.TablesGood (p : Part) : Prop := p.TablesHold ∧ p.TablesLoaded

theorem Part.TablesHold.geometry (h : p.TablesHold) {g : Geometry} (hg : p.tables.geometry = some g) :
    geometryOk g.entries = true := by
  have := h.1
  rwa [hg] at this

theorem Part.TablesHold.parameters (h : p.TablesHold) {s : ParameterSet} (hs : p.tables.parameters = some s) :
    parametersOk s.entries = true := by
  have := h.2.1
  rwa [hs] at this

theorem Part.TablesHold.media (h : p.TablesHold) {t : MediaTable} (ht : p.tables.media = some t) :
    mediaOk t.entries = true := by
  have := h.2.2.1
  rwa [ht] at this

theorem Part.TablesHold.binMap (h : p.TablesHold) {m : BinMap} (hm : p.tables.binMap = some m) :
    binMapOk m.entries = true := by
  have := h.2.2.2.2.1
  rwa [hm] at this

theorem checkGeometry_ok {first : Nat} {run c : List Nat} (h : p.TablesHold) (hc : p.checkGeometry first run = .ok c) :
    geometryOk c = true := by
  obtain ⟨hcand, hrange⟩ := alsoCheck_eq_ok hc
  have hlen : c.length = 8 := candidate_length hcand fun old ho => by
    obtain ⟨g, hg, rfl⟩ := Option.map_eq_some_iff.1 ho
    have := h.geometry hg
    unfold geometryOk at this
    exact eq_of_beq (Bool.and_eq_true_iff.1 this).1
  unfold geometryOk
  rw [hlen, hrange]
  rfl

theorem parametersOk_iff (c : List Nat) : parametersOk c = true ↔
    c.length = 22 ∧ inRanges parameterRanges c = true ∧ (ParameterSet.mk c).gateClear ≤ (ParameterSet.mk c).gapMin := by
  simp only [parametersOk, Bool.and_eq_true, beq_iff_eq, decide_eq_true_eq, and_assoc]

theorem checkParameters_ok {first : Nat} {run c : List Nat} (h : p.TablesHold)
    (hc : p.checkParameters first run = .ok c) : p.pendingOk (.parameters c) = true := by
  obtain ⟨hc, hcross⟩ := alsoCheck_eq_ok hc
  obtain ⟨hc, hconflict⟩ := alsoCheck_eq_ok hc
  obtain ⟨hcand, hrange⟩ := alsoCheck_eq_ok hc
  have hlen : c.length = 22 := candidate_length hcand fun old ho => by
    obtain ⟨s, hs, rfl⟩ := Option.map_eq_some_iff.1 ho
    exact ((parametersOk_iff _).1 (h.parameters hs)).1
  exact Bool.and_eq_true_iff.2 ⟨(parametersOk_iff c).2 ⟨hlen, hrange, of_decide_eq_true hconflict⟩, hcross⟩

theorem mediaOk_iff (c : List MediaEntry) : mediaOk c = true ↔
    c.length = 16 ∧ ∀ m ∈ c, m.valid = true → m.inRange = true ∧ m.alternate ≠ m.primary := by
  unfold mediaOk
  simp only [Bool.and_eq_true, beq_iff_eq, List.all_eq_true, List.mem_filter, and_imp, Bool.not_eq_true',
    beq_eq_false_iff_ne]

theorem checkMedia_ok {first : Nat} {run c : List MediaEntry} (h : p.TablesHold) (hc : p.checkMedia first run = .ok c) :
    p.pendingOk (.media c) = true := by
  obtain ⟨hc, hcross⟩ := alsoCheck_eq_ok hc
  obtain ⟨hc, hconflict⟩ := alsoCheck_eq_ok hc
  obtain ⟨hcand, hrange⟩ := alsoCheck_eq_ok hc
  have hlen : c.length = 16 := candidate_length hcand fun old ho => by
    obtain ⟨t, ht, rfl⟩ := Option.map_eq_some_iff.1 ho
    exact ((mediaOk_iff _).1 (h.media ht)).1
  simp only [List.all_eq_true, List.mem_filter, and_imp, Bool.not_eq_true', beq_eq_false_iff_ne] at hrange hconflict
  refine Bool.and_eq_true_iff.2 ⟨(mediaOk_iff c).2 ⟨hlen, fun m hm hv => ⟨hrange m hm hv, hconflict m hm hv⟩⟩, ?_⟩
  cases hs : p.tables.parameters with
  | none => rfl
  | some s => rw [hs] at hcross; exact hcross

theorem checkLocked_ok {t : TableId} {first : Nat} {body : List Byte} {c : PendingLoad} (h : p.TablesHold)
    (hc : p.checkLocked t first body = .ok c) : p.pendingOk c = true := by
  unfold Part.checkLocked at hc
  split at hc
  · cases hg : p.checkGeometry first (wordEntries body) with
    | error e => rw [hg] at hc; cases hc
    | ok x => rw [hg] at hc; cases hc; exact checkGeometry_ok h hg
  · cases hg : p.checkParameters first (wordEntries body) with
    | error e => rw [hg] at hc; cases hc
    | ok x => rw [hg] at hc; cases hc; exact checkParameters_ok h hg
  · cases hg : p.checkMedia first (mediaEntries body) with
    | error e => rw [hg] at hc; cases hc
    | ok x => rw [hg] at hc; cases hc; exact checkMedia_ok h hg
  · cases hc
  · cases hc

theorem checkRouting_ok {first : Nat} {run c : List RoutingEntry} (h : p.TablesHold)
    (hc : p.checkRouting first run = .ok c) : routingOk c = true := by
  have hold := h.2.2.2.1
  unfold routingOk at hold ⊢
  simp only [Bool.and_eq_true, beq_iff_eq] at hold ⊢
  obtain ⟨hcand, hrange⟩ := alsoCheck_eq_ok hc
  refine ⟨candidate_length hcand fun old ho => (Option.some.inj ho) ▸ hold.1, ?_⟩
  unfold candidate at hcand
  split at hcand
  · cases hcand
  · cases hcand
    rw [List.all_eq_true] at *
    exact fun e he => (mem_overlay he).elim (hold.2 e) (hrange e)

theorem checkBinMap_ok {first : Nat} {run c : List BinMapEntry} (h : p.TablesHold)
    (hc : p.checkBinMap first run = .ok c) : binMapOk c = true := by
  obtain ⟨hc, -⟩ := alsoCheck_eq_ok hc
  obtain ⟨hc, hconflict⟩ := alsoCheck_eq_ok hc
  obtain ⟨hcand, hrange⟩ := alsoCheck_eq_ok hc
  have hlen : c.length = 15 := candidate_length hcand fun old ho => by
    obtain ⟨m, hm, rfl⟩ := Option.map_eq_some_iff.1 ho
    have := h.binMap hm
    unfold binMapOk at this
    exact eq_of_beq (Bool.and_eq_true_iff.1 this).1
  unfold binMapOk
  rw [List.all_eq_true] at hconflict hrange
  rw [hlen, Bool.and_eq_true, List.all_eq_true]
  exact ⟨rfl, fun e he => Bool.and_eq_true_iff.2 ⟨hrange e he, hconflict e he⟩⟩

/-! ### Tables applied (R5, R17, R43, R45, R141) -/

theorem mediaOk_withSlots (c : List MediaEntry) (s : Option ParameterSet) :
    mediaOk (MediaTable.withSlots ⟨c⟩ s).entries = mediaOk c := by
  rw [Bool.eq_iff_iff, mediaOk_iff, mediaOk_iff]
  simp only [MediaTable.withSlots, List.length_map, List.mem_map, forall_exists_index, and_imp,
    forall_apply_eq_imp_iff₂, MediaEntry.withSlots, MediaEntry.inRange]

theorem crossChecks_withSlots (c : List MediaEntry) (s : Option ParameterSet) (x : ParameterSet) :
    crossChecks x (MediaTable.withSlots ⟨c⟩ s).entries = crossChecks x c := by
  rw [Bool.eq_iff_iff, crossChecks_iff, crossChecks_iff]
  simp only [Fits, MediaTable.withSlots, List.mem_map, forall_exists_index, and_imp, forall_apply_eq_imp_iff₂,
    MediaEntry.withSlots]

theorem slots_withSlots (c : List MediaEntry) (s : Option ParameterSet) :
    ∀ m ∈ (MediaTable.withSlots ⟨c⟩ s).entries,
      m.slots = if m.valid then s.map fun s => s.slotCount m.length else none := by
  simp only [MediaTable.withSlots, List.mem_map, forall_exists_index, and_imp, forall_apply_eq_imp_iff₂,
    MediaEntry.withSlots, implies_true]

/-- The value at a place of a list within ranges. -/
theorem inRanges_getD {ranges : List (Nat × Nat)} {v : List Nat} (h : inRanges ranges v = true) (i : Nat)
    (hi : i < v.length) {lo up : Nat} (hr : ranges[i]? = some (lo, up)) : lo ≤ v.getD i 0 ∧ v.getD i 0 ≤ up := by
  rw [inRanges_iff] at h
  have hmem : ((lo, up), v[i]) ∈ ranges.zip v := by
    rw [List.mem_iff_getElem?]
    exact ⟨i, by rw [List.getElem?_zip_eq_some]; exact ⟨hr, List.getElem?_eq_getElem hi⟩⟩
  rw [List.getD_eq_getElem v 0 hi]
  exact h _ hmem

theorem parametersOk_at {c : List Nat} (h : parametersOk c = true) (i : Nat) {lo hi : Nat}
    (hr : parameterRanges[i]? = some (lo, hi)) : lo ≤ c.getD i 0 ∧ c.getD i 0 ≤ hi := by
  obtain ⟨hlen, hrange, -⟩ := (parametersOk_iff c).1 h
  refine inRanges_getD hrange i ?_ hr
  rw [hlen]
  exact (List.getElem?_eq_some_iff.1 hr).1

theorem spdFrac_le {c : List Nat} (h : parametersOk c = true) : (ParameterSet.mk c).spdFrac ≤ 15 :=
  (parametersOk_at h 1 rfl).2

theorem pitch_pos {c : List Nat} (h : parametersOk c = true) : 400 ≤ (ParameterSet.mk c).pitch :=
  (parametersOk_at h 2 rfl).1

/-- A table applied keeps the tables loaded that were. -/
theorem tablesLoaded_of_more (hs : q.ctl.state = p.ctl.state)
    (hg : p.tables.geometry.isSome = true → q.tables.geometry.isSome = true)
    (hp : p.tables.parameters.isSome = true → q.tables.parameters.isSome = true)
    (hm : p.tables.media.isSome = true → q.tables.media.isSome = true)
    (hb : p.tables.binMap.isSome = true → q.tables.binMap.isSome = true) (h : p.TablesLoaded) : q.TablesLoaded := by
  unfold Part.TablesLoaded at *
  rw [hs]
  exact ⟨fun e => (h.1 e).imp hg hp, fun e => (h.2 e).imp hm hb⟩

/-- A load that would pass its validation is applied with none pending (R5, R17, R43, R45). -/
theorem applyLocked_good {c : PendingLoad} (h : p.TablesGood) (hn : p.link.pendingLoad = none)
    (hc : p.pendingOk c = true) : (p.applyLocked c).TablesGood := by
  obtain ⟨⟨hg, hp, hm, hr, hb, hx, hs, -⟩, hloaded⟩ := h
  cases c with
  | geometry c =>
    refine ⟨⟨hc, hp, hm, hr, hb, hx, hs, ?_⟩, tablesLoaded_of_more (p := p) rfl (fun _ => rfl) id id id hloaded⟩
    show Option.all _ p.link.pendingLoad = true
    rw [hn]; rfl
  | media c =>
    obtain ⟨hok, hcross⟩ := Bool.and_eq_true_iff.1 hc
    refine ⟨⟨hg, hp, ?_, hr, hb, ?_, slots_withSlots c _, ?_⟩,
      tablesLoaded_of_more (p := p) rfl id id (fun _ => rfl) id hloaded⟩
    · exact (mediaOk_withSlots c _).trans hok
    · show Option.all (fun s => crossChecks s (MediaTable.withSlots ⟨c⟩ p.tables.parameters).entries)
        p.tables.parameters = true
      rw [show (fun s => crossChecks s (MediaTable.withSlots ⟨c⟩ p.tables.parameters).entries)
          = fun s => crossChecks s c
        from funext fun s => crossChecks_withSlots c _ s]
      exact hcross
    · show Option.all _ p.link.pendingLoad = true
      rw [hn]; rfl
  | parameters c =>
    obtain ⟨hok, hcross⟩ := Bool.and_eq_true_iff.1 hc
    rw [Part.applyLocked, applyParameters_eq]
    refine ⟨⟨hg, hok, ?_, hr, hb, ?_, ?_, ?_⟩, tablesLoaded_of_more (p := p) rfl id (fun _ => rfl) (fun e => ?_)
      id hloaded⟩
    · cases ht : p.tables.media with
      | none => rfl
      | some t => rw [ht] at hm; exact (mediaOk_withSlots t.entries _).trans hm
    · unfold Part.mediaInForce at hcross ⊢
      cases ht : p.tables.media with
      | none => rfl
      | some t =>
        rw [ht] at hcross
        exact (crossChecks_withSlots t.entries _ _).trans hcross
    · unfold Part.mediaInForce
      cases ht : p.tables.media with
      | none => exact fun m hm => nomatch hm
      | some t => exact slots_withSlots t.entries _
    · show Option.all _ p.link.pendingLoad = true
      rw [hn]; rfl
    · dsimp only
      cases ht : p.tables.media with
      | none => rw [ht] at e; cases e
      | some t => rfl

/-- A table applied leaves the pitch counter in range: a Parameter Set starts it at 0 (R9). -/
theorem applyLocked_pitchInRange {c : PendingLoad} (h : p.PitchInRange) (hc : p.pendingOk c = true) :
    (p.applyLocked c).PitchInRange := by
  cases c with
  | geometry c => exact h
  | media c => exact h
  | parameters c =>
    rw [Part.applyLocked, applyParameters_eq]
    exact Nat.lt_of_lt_of_le (Nat.succ_pos 399) (pitch_pos (Bool.and_eq_true_iff.1 hc).1)

theorem applyLocked_agrees {c : PendingLoad} (h : p.TransportAgrees) : (p.applyLocked c).TransportAgrees := by
  cases c with
  | geometry c => exact h
  | media c => exact h
  | parameters c =>
    obtain ⟨hcap, hdrain, hwarm, hrun, hreached, hwatch, hrest⟩ := h
    rw [Part.applyLocked, applyParameters_eq]
    refine ⟨hcap, hdrain, hwarm, hrun, hreached, fun e => ?_, hrest⟩
    dsimp only at e ⊢
    split at e
    · rename_i hs
      exact ⟨.inl hs, by simpa using (Bool.and_eq_true_iff.1 e).2⟩
    · exact hwatch e

end
end Sys2Proof.Machine

namespace Sys2Proof.Machine

/-! ### What every change keeps -/

/-- What a change inside a step keeps (Safety.lean): the sizes, the transport's promises, the tables' and the pitch
counter's. -/
structure Keeps (p q : Part) : Prop where
  bounded : p.Bounded → q.Bounded
  agrees : p.TransportAgrees → q.TransportAgrees
  good : p.TransportAgrees → p.TablesGood → q.TablesGood
  pitchInRange : p.TransportAgrees → p.TablesGood → p.PitchInRange → q.PitchInRange

/-- The ranges of Part.Ranged but for the number of allowance entries, with what the cascade needs to keep them. -/
structure Part.Rooms (p : Part) : Prop where
  loop : p.loop.length ≤ 4
  second : p.arbiter.pendingSecond ≤ 4
  set : p.acc.sheets.length ≤ 64
  stacked : ∀ b, (p.stacker.bins.get b).stacked ≤ 4000
  purgeStacked : p.stacker.purgeStacked ≤ 1000
  fraction : p.clock.fraction ≤ 15
  spdFrac : p.clock.spdFrac ≤ 15
  pending : ∀ c, p.link.pendingLoad = some (.parameters c) → (ParameterSet.mk c).spdFrac ≤ 15
  owned : p.RoomsOwned

/-- What a change of the cascade keeps. -/
structure KeepsAll (p q : Part) : Prop extends Keeps p q where
  tick : q.clock.tick = p.clock.tick
  expiry : q.arbiter.expiryDue = true → p.arbiter.expiryDue = true
  rooms : p.Rooms → q.Rooms

/-- A mild change that keeps the ranges. -/
structure Roomed (p q : Part) : Prop extends Mild p q where
  rooms : p.Rooms → q.Rooms

theorem Keeps.refl (p : Part) : Keeps p p := ⟨id, id, fun _ => id, fun _ _ => id⟩

theorem Keeps.trans {p q r : Part} (h : Keeps p q) (k : Keeps q r) : Keeps p r :=
  ⟨k.bounded ∘ h.bounded, k.agrees ∘ h.agrees, fun ha => k.good (h.agrees ha) ∘ h.good ha,
    fun ha hg => k.pitchInRange (h.agrees ha) (h.good ha hg) ∘ h.pitchInRange ha hg⟩

theorem KeepsAll.refl (p : Part) : KeepsAll p p := ⟨.refl p, rfl, id, id⟩

theorem KeepsAll.trans {p q r : Part} (h : KeepsAll p q) (k : KeepsAll q r) : KeepsAll p r :=
  ⟨h.toKeeps.trans k.toKeeps, k.tick.trans h.tick, h.expiry ∘ k.expiry, k.rooms ∘ h.rooms⟩

section
variable {p q : Part}

theorem pendingOk_congr (h : q.tables = p.tables) (c : PendingLoad) : q.pendingOk c = p.pendingOk c := by
  unfold Part.pendingOk Part.mediaInForce
  rw [h]

theorem tablesHold_congr (h : q.tables = p.tables) (hl : q.link.pendingLoad = p.link.pendingLoad) (hp : p.TablesHold) :
    q.TablesHold := by
  unfold Part.TablesHold Part.mediaInForce at *
  rw [h, hl, show q.pendingOk = p.pendingOk from funext (pendingOk_congr h)]
  exact hp

theorem pitchInRange_of (h : q.tables.parameters = p.tables.parameters) (hc : q.arbiter.pitch = p.arbiter.pitch)
    (he : q.arbiter.expiryDue = true → p.arbiter.expiryDue = true) (hp : p.PitchInRange) : q.PitchInRange := by
  unfold Part.PitchInRange at *
  rw [h, hc]
  split at hp
  · exact ⟨hp.1, Bool.eq_false_iff.2 fun e => absurd (he e) (Bool.eq_false_iff.1 hp.2)⟩
  · exact hp

theorem Mild.keeps (h : Mild p q) : Keeps p q :=
  ⟨h.bounded, h.agrees, fun ha ⟨ht, hl⟩ => ⟨tablesHold_congr h.tables h.pendingLoad ht, h.loaded ha hl⟩,
    fun _ _ => pitchInRange_of (by rw [h.tables]) h.pitch h.expiry⟩

theorem Roomed.trans {r : Part} (h : Roomed p q) (k : Roomed q r) : Roomed p r :=
  ⟨h.toMild.trans k.toMild, k.rooms ∘ h.rooms⟩

theorem Roomed.all (h : Roomed p q) : KeepsAll p q := ⟨h.keeps, h.tick, h.expiry, h.rooms⟩

theorem Calm.roomed (h : Calm p q) : Roomed p q :=
  ⟨h.toMild, fun r =>
    { loop := h.loop.trans r.loop, second := h.second r.second, set := h.set.trans r.set
      stacked := fun b => (h.stacked b).trans (r.stacked b), purgeStacked := h.purgeStacked.trans r.purgeStacked
      fraction := h.fraction ▸ r.fraction, spdFrac := h.spdFrac ▸ r.spdFrac
      pending := fun c e => r.pending c (by rw [← h.pendingLoad, e]), owned := h.rooms r.owned }⟩

theorem Calm.all (h : Calm p q) : KeepsAll p q := h.roomed.all

/-- A change with the same counts that keeps the rooms where the ranges hold. -/
theorem Mild.roomed (h : Mild p q) (hc : q.counts = p.counts) (hr : p.Rooms → q.RoomsOwned) : Roomed p q :=
  ⟨h, fun r => (h.calm hc fun _ => hr r).roomed.rooms r⟩

/-! ### Orders taken (R19 to R24, R30 to R33) -/

theorem tableCheck_ok {u : Unit} (h : p.tableCheck = .ok u) :
    p.ctl.state.picking = true ∧ p.groups.entries.length < 16 := by
  unfold Part.tableCheck at h
  split at h
  · cases h
  · rename_i hp
    split at h
    · cases h
    · rename_i hn
      exact ⟨by simpa using hp, Nat.not_le.1 hn⟩

theorem startBreak_none {o : SheetOrder} {f : FirstFields} (h : p.startBreak o f = none) :
    1 ≤ f.declared.toNat ∧ f.declared.toNat ≤ 64 := by
  unfold Part.startBreak at h
  split at h
  · cases h
  · omega

theorem admissionCheck_ok {o : SheetOrder} {f : FirstFields} {g : Grant} (h : p.admissionCheck o f = .ok g) :
    p.ctl.state.picking = true ∧ p.groups.entries.length < 16 ∧ p.track.sheets.length < 16 := by
  unfold Part.admissionCheck at h
  split at h
  · cases h
  · cases h
  · rename_i ht _
    dsimp only at h
    split at h
    · cases h
    · split at h
      · cases h
      · rename_i hp
        exact ⟨(tableCheck_ok ht).1, (tableCheck_ok ht).2, pickCheck_room hp⟩

/-- A record taken leaves every block but the Stream Link. -/
theorem takeHead_same (p : Part) : { p.takeHead with link := p.link } = p := (takeHead_leaves p).1

theorem takeHead_groups (p : Part) : p.takeHead.groups = p.groups := (congrArg Part.groups (takeHead_same p) :)

theorem takeHead_stacker (p : Part) : p.takeHead.stacker = p.stacker := (congrArg Part.stacker (takeHead_same p) :)

theorem takeHead_track (p : Part) : p.takeHead.track = p.track := (congrArg Part.track (takeHead_same p) :)

theorem takeHead_counts (p : Part) : p.takeHead.counts = p.counts := (congrArg Part.counts (takeHead_same p) :)

theorem closeIfLast_mild (p : Part) (o : SheetOrder) (k : GroupKey) : Mild p (p.closeIfLast o k) := by
  unfold Part.closeIfLast
  split
  · exact closeIntact_mild p k _
  · exact .refl p

theorem closeIfLast_counts (p : Part) (o : SheetOrder) (k : GroupKey) : (p.closeIfLast o k).counts = p.counts := by
  unfold Part.closeIfLast
  split <;> rfl

theorem closeIfLast_rooms {k : GroupKey} (o : SheetOrder) (h : p.RoomsOwned)
    (hs : ∀ g ∈ p.groups.entries, g.key = k → g.state = .admitting) : (p.closeIfLast o k).RoomsOwned := by
  unfold Part.closeIfLast
  split
  · exact closeIntact_rooms _ h hs
  · exact h

/-- What the entries of a group's key are, kept by a change that keeps it. -/
theorem mapGroup_state {k : GroupKey} {P : GroupState → Prop} {f : Group → Group}
    (h : ∀ g ∈ p.groups.entries, g.key = k → P g.state) (hk : ∀ g, (f g).key = g.key)
    (hf : ∀ g, P g.state → P (f g).state) : ∀ g ∈ (p.mapGroup k f).groups.entries, g.key = k → P g.state := by
  intro g hg
  obtain ⟨y, hy, rfl⟩ := List.mem_map.1 hg
  split
  · exact fun e => hf y (h y hy ((hk y).symm.trans e))
  · exact h y hy

/-- After an order taken into a pick its group's entries have the states they had. -/
theorem takeIntoPick_state {o : SheetOrder} {m : MediaEntry} {k : GroupKey} {t : TrayId} {x : GroupState}
    (h : ∀ g ∈ p.groups.entries, g.key = k → g.state = x) :
    ∀ g ∈ (p.takeIntoPick o m k t).groups.entries, g.key = k → g.state = x := by
  rw [(takeIntoPick_leaves p o m k t).1]
  exact mapGroup_state (P := (· = x)) h (fun _ => rfl) fun _ => id

theorem openGroupWith_roomed {o : SheetOrder} {f : FirstFields} (g : Grant)
    (hd : 1 ≤ f.declared.toNat ∧ f.declared.toNat ≤ 64)
    (hp : p.ctl.state.picking = true) (hg : p.groups.entries.length < 16) (hs : p.track.sheets.length < 16) :
    Roomed p (p.openGroupWith o f g) := by
  have hmild : Mild p _ := (((takeHead_calm p).toMild.trans
    (addGroup_mild _ { groupOf p.groups.nextKey o f with bin := some g.bin, policy := g.policy }
      (by rw [takeHead_groups]; exact hg))).trans (setOpen_calm _ p.groups.nextKey).toMild).trans
    (reserve_mild _ { group := p.groups.nextKey, bin := g.bin, count := f.declared.toNat, alternate := g.alternate })
  have hctl : p.takeHead.ctl = p.ctl := takeHead_ctl p
  refine ((hmild.trans (takeIntoPick_mild _ o g.media p.groups.nextKey g.tray ?_ ?_)).trans
    (closeIfLast_mild _ o _)).roomed
    ?_ fun r => ?_
  · show p.takeHead.track.sheets.length < 16
    rw [takeHead_track]
    exact hs
  · show p.takeHead.ctl.state.picking = true
    rw [hctl]
    exact hp
  · rw [closeIfLast_counts, (takeIntoPick_leaves _ o g.media p.groups.nextKey g.tray).2.2.1]
    exact takeHead_counts p
  · have howned : p.takeHead.RoomsOwned := roomsOwnedBut_congr (takeHead_groups p) (by rw [takeHead_stacker]) r.owned
    have hres := reserve_rooms (g := { groupOf p.groups.nextKey o f with bin := some g.bin, policy := g.policy })
      (a := { group := p.groups.nextKey, bin := g.bin, count := f.declared.toNat, alternate := g.alternate })
      howned (by rw [takeHead_groups]; rfl) (fun _ => ⟨Nat.zero_le _, hd.2⟩) rfl rfl hd
    have hlast : ∀ x ∈ p.takeHead.groups.entries ++
          [{ groupOf p.groups.nextKey o f with bin := some g.bin, policy := g.policy }],
        x.key = p.groups.nextKey → x = { groupOf p.groups.nextKey o f with bin := some g.bin, policy := g.policy } := by
      intro x hx hk
      rcases List.mem_append.1 hx with hx | hx
      · rw [takeHead_groups] at hx
        exact absurd hk (Nat.ne_of_lt (r.owned.2.1 x hx).1)
      · exact List.mem_singleton.1 hx
    refine closeIfLast_rooms o (takeIntoPick_rooms o g.media p.groups.nextKey g.tray (l := [p.groups.nextKey])
      hres ?_ ?_ ?_)
      (takeIntoPick_state ?_)
    · exact fun j hj => .inl (List.mem_singleton.1 hj)
    · intro x hx hk _
      rw [hlast x hx hk]
      exact hd.1
    · intro x hx hk _
      rw [hlast x hx hk]
      exact ⟨rfl, rfl, rfl⟩
    · intro x hx hk
      rw [hlast x hx hk]
      rfl

theorem headTruncation_calm (h : p.headTruncation = some q) : Calm p q := by
  unfold Part.headTruncation at h
  split at h
  · split at h
    · cases h; exact truncate_calm p
    · cases h
  · cases h

theorem groupAdmission_roomed (h : p.groupAdmission = some q) : Roomed p q := by
  unfold Part.groupAdmission at h
  split at h
  · cases h
  · split at h
    · cases h
    · dsimp only at h
      split at h
      · rename_i hb hc
        cases h
        obtain ⟨hp, hg, hs⟩ := admissionCheck_ok hc
        exact (truncate_calm p).roomed.trans (openGroupWith_roomed _ (startBreak_none hb) hp hg hs)
      · cases h

theorem openBroken_roomed (o : SheetOrder) (f : FirstFields) (r : BreakReason) (hg : p.groups.entries.length < 16) :
    Roomed p (p.openBroken o f r) := by
  have hlen : p.takeHead.groups.entries.length < 16 := by rw [takeHead_groups]; exact hg
  have hadd : ∀ g : Group, g.key = p.groups.nextKey → g.state ≠ .admitting →
      Roomed p.takeHead (p.takeHead.addGroup g) :=
    fun g hk hs => (addGroup_mild _ g hlen).roomed rfl fun r =>
      addGroup_rooms r.owned (by rw [takeHead_groups]; exact hk) (capped_of_state hs)
  unfold Part.openBroken
  dsimp only
  split
  · exact (takeHead_calm p).roomed.trans (hadd _ rfl (by simp))
  · exact ((takeHead_calm p).roomed.trans (hadd _ rfl (by simp))).trans (setOpen_calm _ _).roomed

theorem brokenFromStart_roomed (h : p.brokenFromStart = some q) : Roomed p q := by
  unfold Part.brokenFromStart at h
  split at h
  · cases h
  · split at h
    · cases h
    · dsimp only at h
      split at h
      · rename_i hc
        cases h
        exact (truncate_calm p).roomed.trans (openBroken_roomed _ _ _ (tableCheck_ok hc).2)
      · cases h

/-! #### Orders of a broken group -/

/-- Every entry of the key is broken. -/
def Part.BrokenAt (p : Part) (k : GroupKey) : Prop := ∀ g ∈ p.groups.entries, g.key = k → g.state.broken = true

theorem Part.BrokenAt.no_room {l : List GroupKey} {k : GroupKey} (hb : p.BrokenAt k) (h : p.RoomsOwnedBut l) :
    ∀ a ∈ p.stacker.allowances, a.group ≠ k := by
  intro a ha e
  obtain ⟨-, g, hg, hgk, hgb, -⟩ := h.2.2.2 a ha
  rw [hb g hg (hgk.trans e)] at hgb
  cases hgb

theorem brokenAt_of_group? {l : List GroupKey} {k : GroupKey} {g : Group} (h : p.RoomsOwnedBut l)
    (hg : p.group? k = some g) (hb : g.state.broken = true) : p.BrokenAt k := by
  intro x hx hk
  rw [h.entry_unique hx (mem_of_group? hg) (by rw [hk, group?_key hg])]
  exact hb

/-- A change of a broken group's entry that leaves it broken. -/
theorem Part.BrokenAt.mapGroup {l : List GroupKey} {k : GroupKey} {f : Group → Group} (hb : p.BrokenAt k)
    (h : p.RoomsOwnedBut l) (hk : ∀ g, (f g).key = g.key)
    (hf : ∀ g, g.state.broken = true → (f g).state.broken = true) :
    (p.mapGroup k f).RoomsOwnedBut l ∧ (p.mapGroup k f).BrokenAt k := by
  refine ⟨h.mapGroup k (fun _ => .inr) hk (fun g hg e _ => capped_of_state fun hs => ?_)
    fun a ha e => absurd e (hb.no_room h a ha), mapGroup_state (P := fun x => x.broken = true) hb hk hf⟩
  have := hf g (hb g hg e)
  rw [hs] at this
  cases this

theorem discard_mild (p : Part) (o : SheetOrder) (k : GroupKey) : Mild p (p.discard o k) := by
  unfold Part.discard
  dsimp only
  split
  · exact (takeHead_calm p).toMild.trans (((mapGroup_body _ k _).trans (mapGroup_body _ k _)).trans
      (clearOpen_body _)).mild
  · exact (takeHead_calm p).toMild.trans ((mapGroup_body _ k _).trans (closeAtCap_body _ k)).mild

theorem discard_counts (p : Part) (o : SheetOrder) (k : GroupKey) : (p.discard o k).counts = p.counts := by
  unfold Part.discard
  dsimp only
  split
  · exact takeHead_counts p
  · rcases closeAtCap_eq (p.takeHead.mapGroup k fun g => { g with accepted := g.accepted + 1, unfed := g.unfed + 1 }) k
      with e | e <;> rw [e] <;> exact takeHead_counts p

theorem discard_rooms {k : GroupKey} (o : SheetOrder) (h : p.RoomsOwned) (hb : p.BrokenAt k) :
    (p.discard o k).RoomsOwned := by
  have h' : p.takeHead.RoomsOwned := roomsOwnedBut_congr (takeHead_groups p) (by rw [takeHead_stacker]) h
  have hb' : p.takeHead.BrokenAt k := by
    unfold Part.BrokenAt
    rw [takeHead_groups]
    exact hb
  obtain ⟨hcount, hbroken⟩ := hb'.mapGroup h'
    (f := fun g => { g with accepted := g.accepted + 1, unfed := g.unfed + 1 })
    (fun _ => rfl) fun _ => id
  unfold Part.discard
  dsimp only
  split
  · exact (hbroken.mapGroup hcount (f := fun g => { g with state := .brokenClosed, lastTag := some o.tag })
      (fun _ => rfl) fun _ _ => rfl).1
  · exact closeAtCap_rooms k hcount

/-- An order discarded as unfed into a broken group (R32). -/
theorem discard_roomed {k : GroupKey} (o : SheetOrder) (hb : p.RoomsOwned → p.BrokenAt k) : Roomed p (p.discard o k) :=
  (discard_mild p o k).roomed (discard_counts p o k) fun r => discard_rooms o r.owned (hb r.owned)

theorem discardOrphan_calm (p : Part) : Calm p p.discardOrphan :=
  ((takeHead_calm p).trans (streamFault_calm _ _)).trans (breakOpen_calm _ _)

theorem closeAtCap_state {k : GroupKey} (h : p.BrokenAt k) : (p.closeAtCap k).BrokenAt k := by
  rcases closeAtCap_eq p k with e | e <;> rw [e]
  · exact h
  · exact mapGroup_state (P := fun x => x.broken = true) h (fun _ => rfl) fun _ _ => rfl

/-- After a break request of its ADMITTING group every entry of the key is broken (R34). -/
theorem breakGroup_brokenAt {k : GroupKey} {g : Group} (r : BreakReason) (hg : p.group? k = some g)
    (hs : g.state = .admitting) : (p.breakGroup k r).BrokenAt k := by
  unfold Part.breakGroup
  rw [hg]
  dsimp only
  rw [hs]
  refine closeAtCap_state fun x hx hk => ?_
  obtain ⟨y, -, rfl⟩ := List.mem_map.1 hx
  split at hk
  · rw [if_pos (by assumption)]; rfl
  · rename_i e
    exact absurd (by rw [hk]; exact beq_self_eq_true k) e

/-- The group of an order not marked FIRST is the open group's entry (Table 2-2). -/
theorem ownGroup_some {o : SheetOrder} {g : Group} (h : p.ownGroup o = some g) :
    p.planner.openGroup = some g.key ∧ p.group? g.key = some g := by
  unfold Part.ownGroup at h
  split at h
  · cases h
  · have hopen := (Option.filter_eq_some_iff.1 h).1
    unfold Part.openGroup? at hopen
    split at hopen
    · cases hopen
    · rename_i k hk
      rw [← group?_key hopen] at hk hopen
      exact ⟨hk, hopen⟩

theorem furtherBreak_none {o : SheetOrder} {g : Group} (h : p.furtherBreak o g = none) : g.accepted ≠ g.declared := by
  unfold Part.furtherBreak at h
  split at h
  · cases h
  · assumption

/-- A further order taken into a pick for its ADMITTING group (R30, R31). -/
theorem pickFurther_roomed {o : SheetOrder} {m : MediaEntry} {g : Group} {t : TrayId} (hg : p.group? g.key = some g)
    (hs : g.state = .admitting) (hn : g.accepted ≠ g.declared) (hp : p.ctl.state.picking = true)
    (hroom : p.track.sheets.length < 16) : Roomed p ((p.takeHead.takeIntoPick o m g.key t).closeIfLast o g.key) := by
  refine (((takeHead_calm p).toMild.trans (takeIntoPick_mild _ o m g.key t (by rw [takeHead_track]; exact hroom)
    (by rw [takeHead_ctl]; exact hp))).trans (closeIfLast_mild _ o _)).roomed ?_ fun r => ?_
  · rw [closeIfLast_counts, (takeIntoPick_leaves _ o m g.key t).2.2.1, takeHead_counts]
  · have h : p.takeHead.RoomsOwned := roomsOwnedBut_congr (takeHead_groups p) (by rw [takeHead_stacker]) r.owned
    have hall : ∀ x ∈ p.takeHead.groups.entries, x.key = g.key → x = g := by
      rw [takeHead_groups]
      exact fun x hx hk => r.owned.entry_unique hx (mem_of_group? hg) hk
    refine closeIfLast_rooms o (takeIntoPick_rooms o m g.key t h (fun j hj => nomatch hj) (fun x hx hk _ => ?_)
      fun _ _ _ hm => nomatch hm) (takeIntoPick_state fun x hx hk => by rw [hall x hx hk]; exact hs)
    rw [hall x hx hk]
    exact Nat.lt_of_le_of_ne ((r.owned.2.1 g (mem_of_group? hg)).2 hs).1 hn

theorem furtherOrderPick_roomed (h : p.furtherOrderPick = some q) : Roomed p q := by
  unfold Part.furtherOrderPick at h
  split at h
  · cases h
  · split at h
    · cases h
    · rename_i g hown
      obtain ⟨-, hg⟩ := ownGroup_some hown
      split at h
      · rename_i hs
        split at h
        · rename_i r _
          cases h
          refine (breakGroup_calm p g.key r).roomed.trans ?_
          split
          · exact discard_roomed _ fun _ => breakGroup_brokenAt r hg hs
          · exact (discardOrphan_calm _).roomed
        · rename_i hbreak
          split at h
          · cases h
          · split at h
            · rename_i hp
              split at h
              · rename_i hc
                cases h
                exact pickFurther_roomed hg hs (furtherBreak_none hbreak) hp (pickCheck_room hc)
              · cases h
            · cases h
      · cases h

theorem discardedAsUnfed_roomed (h : p.discardedAsUnfed = some q) : Roomed p q := by
  unfold Part.discardedAsUnfed at h
  split at h
  · cases h
  · split at h
    · rename_i g hown
      obtain ⟨-, hg⟩ := ownGroup_some hown
      split at h
      · rename_i hs
        cases h
        exact discard_roomed _ fun r => brokenAt_of_group? r hg (by rw [hs]; rfl)
      · cases h
    · cases h

theorem orphanTaken_calm (h : p.orphanTaken = some q) : Calm p q := by
  unfold Part.orphanTaken at h
  split at h
  · cases h
  · split at h
    · cases h; exact discardOrphan_calm p
    · cases h

/-! ### STOP, PURGE and the loads (R38, R155, R181 to R183) -/

theorem stopTaken_calm (h : p.stopTaken = some q) : Calm p q := by
  have htrunc := (takeHead_calm p).trans (truncate_calm _)
  have hctl : p.takeHead.truncate.ctl = p.ctl := (truncate_ctl _).trans (takeHead_ctl p)
  unfold Part.stopTaken at h
  split at h
  · split at h
    case h_1 hs =>
      cases h
      exact htrunc.trans (enterDraining_calm _ (by rw [hctl]; exact hs))
    case h_2 hs =>
      cases h
      dsimp only
      split
      · exact htrunc.trans (drainReason_calm _ (by rw [hctl]; exact hs))
      · exact htrunc
    all_goals cases h
    all_goals exact htrunc
  · cases h

theorem purgeTaken_calm (h : p.purgeTaken = some q) : Calm p q := by
  unfold Part.purgeTaken at h
  split at h
  · split at h
    · cases h; exact (takeHead_calm p).trans (breakOpen_calm _ _)
    · cases h
  · cases h

theorem applyRouting_all {c : List RoutingEntry} (hc : p.TablesHold → routingOk c = true) :
    KeepsAll p (p.applyRouting c) where
  bounded := id
  agrees := id
  tick := rfl
  expiry := id
  pitchInRange _ _ := id
  good _ h := by
    obtain ⟨⟨hg, hp, hm, hr, hb, hx, hs, hl⟩, hloaded⟩ := h
    exact ⟨⟨hg, hp, hm, hc ⟨hg, hp, hm, hr, hb, hx, hs, hl⟩, hb, hx, hs, hl⟩, hloaded⟩
  rooms r := ⟨r.loop, r.second, r.set, r.stacked, r.purgeStacked, r.fraction, r.spdFrac, r.pending, r.owned⟩

theorem withBinMap_all {c : List BinMapEntry} (hc : p.TablesHold → binMapOk c = true) :
    KeepsAll p (p.withBinMap c) where
  bounded := id
  agrees := id
  tick := rfl
  expiry := id
  pitchInRange _ _ := id
  good _ h := by
    obtain ⟨⟨hg, hp, hm, hr, hb, hx, hs, hl⟩, hloaded⟩ := h
    exact ⟨⟨hg, hp, hm, hr, hc ⟨hg, hp, hm, hr, hb, hx, hs, hl⟩, hx, hs, hl⟩,
      tablesLoaded_of_more (p := p) rfl id id id (fun _ => rfl) hloaded⟩
  rooms r := ⟨r.loop, r.second, r.set, r.stacked, r.purgeStacked, r.fraction, r.spdFrac, r.pending, r.owned⟩

theorem underMode_stacked (x : Bin) (o : Option ReleaseMode) (m : ReleaseMode) :
    (x.underMode o m).stacked ≤ x.stacked := by
  unfold Bin.underMode
  split
  · split
    · exact Nat.le_refl _
    · split
      · exact Nat.zero_le _
      · exact Nat.le_refl _
  · exact Nat.le_refl _

theorem reformBins_calm (p : Part) {f : BinId → Bin → Bin} (hf : ∀ b x, (f b x).stacked ≤ x.stacked) :
    Calm p (p.reformBins f) := by
  unfold Part.reformBins
  generalize BinId.list = bins
  induction bins generalizing p with
  | nil => exact .refl p
  | cons b bins ih => exact (setBin_calm p b _ (hf b _)).trans (ih _)

theorem applyBinMap_all {c : List BinMapEntry} (hc : p.TablesHold → binMapOk c = true) :
    KeepsAll p (p.applyBinMap c) := by
  have h := reformBins_calm (p.withBinMap c) (f := fun b x => x.underMode (p.releaseMode? b) (BinMap.mode ⟨c⟩ b))
    fun b x => underMode_stacked x _ _
  exact (withBinMap_all hc).trans h.all

/-- A load of a live table is refused and changes nothing, or is applied (R26, R140, R141). -/
theorem liveLoad_cases (p : Part) (t : TableId) (n : Nat) (b : List Byte) :
    (p.liveLoad t n b).1 = p
    ∨ (∃ c, p.checkRouting n (routingEntries b) = .ok c ∧ (p.liveLoad t n b).1 = p.applyRouting c)
    ∨ ∃ c, p.checkBinMap n (binMapEntries n b) = .ok c ∧ (p.liveLoad t n b).1 = p.applyBinMap c := by
  cases t with
  | routing =>
    rcases h : p.checkRouting n (routingEntries b) with e | c <;> simp only [Part.liveLoad, h]
    · exact .inl trivial
    · exact .inr (.inl ⟨c, rfl, rfl⟩)
  | binMap =>
    rcases h : p.checkBinMap n (binMapEntries n b) with e | c <;> simp only [Part.liveLoad, h]
    · exact .inl trivial
    · exact .inr (.inr ⟨c, rfl, rfl⟩)
  | _ => exact .inl rfl

theorem liveLoad_all (t : TableId) (n : Nat) (b : List Byte) : KeepsAll p (p.liveLoad t n b).1 := by
  rcases liveLoad_cases p t n b with h | ⟨c, hc, h⟩ | ⟨c, hc, h⟩ <;> rw [h]
  · exact .refl p
  · exact applyRouting_all fun ht => checkRouting_ok ht hc
  · exact applyBinMap_all fun ht => checkBinMap_ok ht hc

theorem loadRoom_room (h : p.loadRoom = true) : p.link.reports.length < 64 :=
  (reportRoom_iff p).1 (Bool.and_eq_true_iff.1 h).1

theorem reformBins_link (p : Part) (f : BinId → Bin → Bin) : (p.reformBins f).link = p.link := by
  unfold Part.reformBins
  generalize BinId.list = bins
  induction bins generalizing p with
  | nil => rfl
  | cons b bins ih =>
    refine (ih _).trans ?_
    dsimp only
    rw [setBin_eq]

theorem liveLoad_link (p : Part) (t : TableId) (n : Nat) (b : List Byte) : (p.liveLoad t n b).1.link = p.link := by
  rcases liveLoad_cases p t n b with h | ⟨c, -, h⟩ | ⟨c, -, h⟩ <;> rw [h]
  · rfl
  · exact reformBins_link _ _

theorem liveLoadTaken_all (h : p.liveLoadTaken = some q) : KeepsAll p q := by
  unfold Part.liveLoadTaken at h
  split at h
  · split at h
    · rename_i hr
      cases h
      exact (liveLoad_all _ _ _).trans (loadResult_calm _ _ _
        (by rw [liveLoad_link]; exact loadRoom_room (Bool.and_eq_true_iff.1 hr).2)).all
    · cases h
  · cases h

theorem applyLocked_tick (p : Part) (c : PendingLoad) : (p.applyLocked c).clock.tick = p.clock.tick := by
  cases c with
  | parameters c =>
    rw [Part.applyLocked, applyParameters_eq]
  | _ => rfl

theorem applyLocked_expiry (p : Part) (c : PendingLoad) (h : (p.applyLocked c).arbiter.expiryDue = true) :
    p.arbiter.expiryDue = true := by
  cases c with
  | parameters c =>
    rw [Part.applyLocked, applyParameters_eq] at h
    cases h
  | _ => exact h

/-- A load that passed, applied with none pending (R183). -/
theorem applyLocked_all {c : PendingLoad} (hn : p.link.pendingLoad = none) (hc : p.TablesHold → p.pendingOk c = true)
    (hs : ∀ x, c = .parameters x → (ParameterSet.mk x).spdFrac ≤ 15) : KeepsAll p (p.applyLocked c) where
  bounded h := by
    cases c with
    | parameters c => rw [Part.applyLocked, applyParameters_eq]; exact h
    | _ => exact h
  agrees := applyLocked_agrees
  tick := applyLocked_tick p c
  expiry := applyLocked_expiry p c
  good _ h := applyLocked_good h hn (hc h.1)
  pitchInRange _ h hp := applyLocked_pitchInRange hp (hc h.1)
  rooms r := by
    cases c with
    | parameters c =>
      have hle := hs c rfl
      rw [Part.applyLocked, applyParameters_eq]
      exact ⟨r.loop, r.second, r.set, r.stacked, r.purgeStacked, Nat.zero_le _, hle, r.pending, r.owned⟩
    | _ => exact ⟨r.loop, r.second, r.set, r.stacked, r.purgeStacked, r.fraction, r.spdFrac, r.pending, r.owned⟩

theorem checkLocked_spdFrac {t : TableId} {first : Nat} {body : List Byte} {x : List Nat}
    (hc : p.checkLocked t first body = .ok (.parameters x)) : (ParameterSet.mk x).spdFrac ≤ 15 := by
  have hrange : inRanges parameterRanges x = true := by
    unfold Part.checkLocked at hc
    cases t with
    | parameters =>
      dsimp only at hc
      cases hg : p.checkParameters first (wordEntries body) with
      | error e => rw [hg] at hc; cases hc
      | ok y => rw [hg] at hc; cases hc; exact (alsoCheck_eq_ok (alsoCheck_eq_ok (alsoCheck_eq_ok hg).1).1).2
    | geometry => dsimp only at hc; cases hg : p.checkGeometry first (wordEntries body) <;> rw [hg] at hc <;> cases hc
    | media => dsimp only at hc; cases hg : p.checkMedia first (mediaEntries body) <;> rw [hg] at hc <;> cases hc
    | routing => cases hc
    | binMap => cases hc
  by_cases hx : 1 < x.length
  · exact (inRanges_getD hrange 1 hx rfl).2
  · have : (ParameterSet.mk x).spdFrac = 0 := List.getD_eq_default _ _ (Nat.not_lt.1 hx)
    omega

/-- A load taken and passed that waits for the path to empty (R182). -/
theorem setPendingLoad_all {c : PendingLoad} (hc : p.TablesHold → p.pendingOk c = true)
    (hs : ∀ x, c = .parameters x → (ParameterSet.mk x).spdFrac ≤ 15) : KeepsAll p (p.setPendingLoad (some c)) where
  bounded := id
  agrees := id
  tick := rfl
  expiry := id
  pitchInRange _ _ := id
  good _ h := by
    obtain ⟨⟨hg, hp, hm, hr, hb, hx, hs, hl⟩, hloaded⟩ := h
    exact ⟨⟨hg, hp, hm, hr, hb, hx, hs, hc ⟨hg, hp, hm, hr, hb, hx, hs, hl⟩⟩, hloaded⟩
  rooms r := ⟨r.loop, r.second, r.set, r.stacked, r.purgeStacked, r.fraction, r.spdFrac,
    fun x e => hs x (Option.some.inj e), r.owned⟩

theorem clearPendingLoad_all (p : Part) : KeepsAll p (p.setPendingLoad none) where
  bounded := id
  agrees := id
  tick := rfl
  expiry := id
  pitchInRange _ _ := id
  good _ h := by
    obtain ⟨⟨hg, hp, hm, hr, hb, hx, hs, -⟩, hloaded⟩ := h
    exact ⟨⟨hg, hp, hm, hr, hb, hx, hs, rfl⟩, hloaded⟩
  rooms r := ⟨r.loop, r.second, r.set, r.stacked, r.purgeStacked, r.fraction, r.spdFrac, fun _ e => (nomatch e),
    r.owned⟩

theorem loadResult_same (p : Part) (t : TableId) (c : Option LoadCause) :
    { p.loadResult t c with link := p.link } = p ∧ (p.loadResult t c).link.pendingLoad = p.link.pendingLoad := by
  unfold Part.loadResult Part.countTaken
  split
  · exact ⟨rfl, rfl⟩
  · have h := occur_leaves ((p.dropHead.appendReport (.loadResult t c)).setTaken 0) .credit (.credit 1) fun r =>
      match r with
      | .credit n => .credit (sat16 (n + 1))
      | r => r
    refine ⟨?_, h.2.2.2.2.1⟩
    have e := congrArg (fun q : Part => { q with link := p.link }) h.1
    exact e

theorem lockedLoadTaken_all (h : p.lockedLoadTaken = some q) : KeepsAll p q := by
  unfold Part.lockedLoadTaken at h
  split at h
  · rename_i t first body _ _
    split at h
    · rename_i hcond
      simp only [Bool.and_eq_true] at hcond
      obtain ⟨⟨⟨-, hroom⟩, hnone⟩, -⟩ := hcond
      rw [Option.isNone_iff_eq_none] at hnone
      have hres : ∀ c, KeepsAll p (p.loadResult t c) := fun c => (loadResult_calm p t c (loadRoom_room hroom)).all
      split at h
      · cases h
        exact hres _
      · rename_i c hc
        obtain ⟨hsame, hpend⟩ := loadResult_same p t none
        have htables : (p.loadResult t none).tables = p.tables := (congrArg Part.tables hsame :)
        have hctl : (p.loadResult t none).ctl = p.ctl := loadResult_ctl p t none
        have hok : (p.loadResult t none).TablesHold → (p.loadResult t none).pendingOk c = true := fun ht => by
          rw [pendingOk_congr htables]
          exact checkLocked_ok (tablesHold_congr (q := p) htables.symm hpend.symm ht) hc
        have hspd : ∀ x, c = .parameters x → (ParameterSet.mk x).spdFrac ≤ 15 := fun x e => by
          rw [e] at hc
          exact checkLocked_spdFrac hc
        dsimp only at h
        split at h
        · cases h
          exact (hres none).trans (applyLocked_all (hpend.trans hnone) hok hspd)
        · have hpending := ((hres none).trans (setPendingLoad_all hok hspd)).trans (truncate_calm _).all
          cases h
          split
          · rename_i hs
            refine hpending.trans (enterDraining_calm _ ?_).all
            rw [truncate_ctl]
            show (p.loadResult t none).ctl.state = .running
            rw [hctl]
            exact hs
          · exact hpending
    · cases h
  · cases h

theorem pendingLoadApplied_all (h : p.pendingLoadApplied = some q) : KeepsAll p q := by
  unfold Part.pendingLoadApplied at h
  split at h
  · rename_i c hc
    split at h
    · cases h
      have hok : p.TablesHold → p.pendingOk c = true := fun ht => by
        have := ht.2.2.2.2.2.2.2
        rwa [hc] at this
      refine ⟨⟨fun hb => ?_, fun ha => applyLocked_agrees ((clearPendingLoad_all p).agrees ha), fun ha hg => ?_,
        fun _ hg hp => applyLocked_pitchInRange (p := p.setPendingLoad none) hp (hok hg.1)⟩, applyLocked_tick _ c,
        applyLocked_expiry _ c, fun r => ?_⟩
      · cases c with
        | parameters c => rw [Part.applyLocked, applyParameters_eq]; exact hb
        | _ => exact hb
      · exact applyLocked_good ((clearPendingLoad_all p).good ha hg) rfl (hok hg.1)
      · have hr := (clearPendingLoad_all p).rooms r
        cases c with
        | parameters c =>
          have hle := r.pending c hc
          rw [Part.applyLocked, applyParameters_eq]
          exact ⟨hr.loop, hr.second, hr.set, hr.stacked, hr.purgeStacked, Nat.zero_le _, hle, hr.pending, hr.owned⟩
        | _ => exact ⟨hr.loop, hr.second, hr.set, hr.stacked, hr.purgeStacked, hr.fraction, hr.spdFrac, hr.pending,
          hr.owned⟩
    · cases h
  · cases h

end
end Sys2Proof.Machine

namespace Sys2Proof.Machine

section
variable {p q : Part}

/-! ### Ends of a drain and a runout (R158, R173) -/

theorem drainEnd_calm (h : p.drainEnd = some q) : Calm p q := by
  unfold Part.drainEnd at h
  split at h
  · rename_i hs
    cases h
    split
    · exact resumeRunning_calm hs.1
    · exact enterStandby_calm (by rw [hs.1]; rfl)
  · cases h

theorem runoutEnd_calm (h : p.runoutEnd = some q) : Calm p q := by
  unfold Part.runoutEnd at h
  split at h
  · rename_i hs
    have hsafe : Calm p p.enterSafe := enterSafe_calm (by rw [hs.1]; rfl)
    cases h
    split
    · exact hsafe
    · exact hsafe.trans (enterStandby_calm rfl)
  · cases h

/-! ### Ejects (R131, R133, R134) -/

theorem startEject_calm (p : Part) (x : EjectTarget) (j : Jog) : Calm p (p.startEject x j) :=
  (eject_calm p _).trans (send_calm _ _)

theorem redirect_roomed (g : Group) (b : BinId) (hne : p.acc.sheets ≠ []) : Roomed p (p.redirect g b) := by
  refine ((allowances_mild p _).trans (mapGroup_body _ g.key fun g => { g with bin := some b }).mild).roomed rfl
    fun r => ?_
  refine r.owned.of_map (fun x => if x.key == g.key then { x with bin := some b } else x) rfl
    (fun x => by split <;> rfl) rfl
    (fun x _ hc => by split; exacts [hc, hc]) ?_ ?_ ?_
  · have : (p.redirect g b).stacker.allowances.map Allowance.group = p.stacker.allowances.map Allowance.group := by
      unfold Part.redirect
      dsimp only [mapGroup_stacker]
      rw [List.map_map]
      exact List.map_congr_left fun a _ => by rw [Function.comp_apply]; split <;> rfl
    show List.Sublist ((p.redirect g b).stacker.allowances.map Allowance.group) _
    rw [this]
  · intro a ha
    obtain ⟨x, hx, rfl⟩ := List.mem_map.1 ha
    split
    · exact ⟨List.length_pos_iff.2 hne, r.set⟩
    · exact (r.owned.2.2.2 x hx).1
  · intro a _ x hx _ hb howed
    split
    · exact ⟨hb, howed⟩
    · exact ⟨hb, howed⟩

theorem ejectIntact_roomed (g : Group) (hne : p.acc.sheets ≠ []) : Roomed p (p.ejectIntact g) := by
  unfold Part.ejectIntact
  split
  · exact (startEject_calm p _ _).roomed
  · split
    · exact (redirect_roomed g _ hne).trans (startEject_calm _ _ _).roomed
    · exact (breakGroup_calm p _ _).roomed.trans (startEject_calm _ _ _).roomed

theorem setEjectStart_roomed (h : p.setEjectStart = some q) : Roomed p q := by
  unfold Part.setEjectStart at h
  split at h
  · cases h
  · split at h
    · cases h
    · split at h
      · rename_i hd
        cases h
        refine ejectIntact_roomed _ fun he => ?_
        unfold Part.dueIntact at hd
        rw [he] at hd
        simp at hd
      · split at h
        · cases h; exact (startEject_calm p _ _).roomed
        · cases h

/-! ### Resolution (R40) -/

/-- An entry leaves the Group Table (R27, R71). -/
def Part.dropGroup (p : Part) (k : GroupKey) : Part :=
  { p with
    groups := { p.groups with entries := p.groups.entries.filter fun x => !(x.key == k) }
    arbiter := { p.arbiter with
      cadenceGroup := if p.arbiter.cadenceGroup == some k then none else p.arbiter.cadenceGroup } }

theorem reportGroup_eq (p : Part) (g : Group) :
    p.reportGroup g = (p.appendReport (.groupResult g.result)).dropGroup g.key := rfl

theorem dropGroup_rooms {k : GroupKey} (h : p.RoomsOwned) (hn : ∀ a ∈ p.stacker.allowances, a.group ≠ k) :
    (p.dropGroup k).RoomsOwned := by
  obtain ⟨hkeys, hentry, hnodup, hallow⟩ := h
  refine ⟨(List.filter_sublist.map _).nodup hkeys, fun g hg => hentry g (List.mem_of_mem_filter hg), hnodup,
    fun a ha => ?_⟩
  obtain ⟨hcount, g, hg, hgk, hrest⟩ := hallow a ha
  exact ⟨hcount, g, List.mem_filter.2 ⟨hg, by rw [hgk]; simpa using hn a ha⟩, hgk, hrest⟩

theorem dropGroup_body (p : Part) (k : GroupKey) : Body p (p.dropGroup k) :=
  ⟨rfl, id, List.length_filter_le .., Nat.le_refl _, id, id⟩

/-- A group with no sheet in the part and none lost holds no room. -/
theorem no_room_of_empty {g : Group} (h : p.RoomsOwned) (hg : g ∈ p.groups.entries) (hi : g.inPath = 0)
    (hs : g.inSet = 0) : ∀ a ∈ p.stacker.allowances, a.group ≠ g.key := by
  intro a ha e
  obtain ⟨-, x, hx, hxk, -, hxo⟩ := h.2.2.2 a ha
  have hxg := h.entry_unique hx hg (hxk.trans e)
  obtain ⟨-, hsum, hpos⟩ := hxo (by simp)
  rw [hxg] at hsum hpos
  omega

theorem groupResolution_calm (h : p.groupResolution = some q) : Calm p q := by
  unfold Part.groupResolution at h
  split at h
  · cases h
  · rename_i g hg
    have hres := List.find?_some hg
    unfold Part.resolvable at hres
    simp only [Bool.and_eq_true, beq_iff_eq] at hres
    split at h
    · rename_i hroom
      cases h
      rw [reportGroup_eq]
      refine (appendReport_calm p _ ((reportRoom_iff p).1 hroom)).trans ((dropGroup_body _ _).mild.calm rfl fun r => ?_)
      exact dropGroup_rooms r (no_room_of_empty r (List.mem_of_find?_eq_some hg) hres.1.1.2 hres.1.2)
    · cases h
      exact held_calm p _

/-! ### The cascade -/

theorem internal_all (h : p.internal = some q) : KeepsAll p q := by
  rcases internal_cases h with h | h | h | h | h | h | h | h | h | h | h | h | h | h | h | h | h
  · exact pendingLoadApplied_all h
  · exact (drainEnd_calm h).all
  · exact (runoutEnd_calm h).all
  · exact (setEjectStart_roomed h).all
  · exact (groupResolution_calm h).all
  · exact (stallEnd_calm h).all
  · exact (headTruncation_calm h).all
  · exact (groupAdmission_roomed h).all
  · exact (brokenFromStart_roomed h).all
  · exact (furtherOrderPick_roomed h).all
  · exact (discardedAsUnfed_roomed h).all
  · exact (orphanTaken_calm h).all
  · exact (stopTaken_calm h).all
  · exact (purgeTaken_calm h).all
  · exact liveLoadTaken_all h
  · exact lockedLoadTaken_all h
  · exact (recoveryEnd_calm h).all

theorem settle_all (p : Part) : KeepsAll p p.settle :=
  settleIn_keeps (I := KeepsAll p) (fun _ _ h k => h.trans (internal_all k)) _ p (.refl p)

theorem close_all (p : Part) : KeepsAll p p.close := (settle_all p).trans (finish_calm _).all

end
end Sys2Proof.Machine

namespace Sys2Proof.Machine

section
variable {p q : Part}

/-! ### The Tray Feeders' lines (R46, R47, R52, R53) -/

theorem openDrawer_calm (p : Part) (t : TrayId) : Calm p (p.openDrawer t) := by
  have hopen := (unrequest_calm p t
    (f := fun f => { f with drawerOpen := true, abandoned := false, request := false, deadline := none })
    (fun _ => rfl) fun _ => rfl).trans (setTrayState_calm _ t .opened)
  unfold Part.openDrawer
  dsimp only
  split
  · split
    · exact hopen.trans (moveOn_calm _ _)
    · exact hopen
  · exact hopen

theorem closeDrawer_calm (p : Part) (t : TrayId) : Calm p (p.closeDrawer t) := by
  have hclose := mapFeeder_calm_same p t (f := fun f => { f with drawerOpen := false }) (fun _ => rfl) fun _ => rfl
  unfold Part.closeDrawer
  dsimp only
  split
  · exact hclose.trans (setTrayState_calm _ t _)
  · exact hclose

theorem paperEdge_calm (p : Part) (t : TrayId) (which : PaperSensor) (active : Bool) :
    Calm p (p.paperEdge t which active) := by
  unfold Part.paperEdge
  refine (mapFeeder_calm_same p t (fun x => ?_) fun x => ?_).trans (setTrayState_calm _ t _) <;> cases which <;> rfl

theorem misfeed_calm (p : Part) (t : TrayId) (s : Sheet) (h : p.ctl.state.picking = true) : Calm p (p.misfeed t s) := by
  have hdrop := unrequest_calm p t (f := fun f => { f with request := false, deadline := none }) (fun _ => rfl)
    fun _ => rfl
  unfold Part.misfeed
  dsimp only
  split
  · split
    · exact (hdrop.trans (mapSheet_calm _ s.seq (f := fun r => { r with attempts := r.attempts + 1 })
        (.inr fun _ => id))).trans (requestPick_calm _ t (by exact h))
    · exact (hdrop.trans (setTrayState_calm _ t .fault)).trans (moveOn_calm _ s)
  · exact hdrop.trans (moveOn_calm _ s)

theorem pickDeadline_calm {t : TrayId} (h : Part.pickDeadline t p = some q) : Calm p q := by
  unfold Part.pickDeadline at h
  dsimp only at h
  split at h
  · rename_i hp
    split at h
    · cases h
      exact misfeed_calm p t _ (Bool.and_eq_true_iff.1 (Bool.and_eq_true_iff.1 hp).1).1
    · cases h
  · cases h

/-! ### Boundaries and launches (R60, R68, R69) -/

theorem followCadence_calm (p : Part) (s : Sheet) : Calm p (p.followCadence s) := by
  obtain ⟨c, hc⟩ := followCadence_eq p s
  rw [hc]
  exact arbiter_calm p _ rfl rfl rfl

theorem launched_sampling {p : Part} {s : Sheet} {pass : Pass} {route : Route} {covered : List CoverEntry}
    (h : (p.launched s pass route covered).isSampling = true) : s.isSampling = true := by
  unfold Part.launched Sheet.isSampling at h
  dsimp only at h
  unfold Sheet.isSampling
  split at h
  · rename_i e
    split at e
    · rw [e]
    · cases e
  · cases h

/-- The arbiter after a launch, the pending-second-pass count no more than 4 (R70). -/
theorem afterLaunch_calm (p : Part) (s : Sheet) (exit : Bool) (n : Nat) (h : p.arbiter.pendingSecond ≤ 4 → n ≤ 4) :
    Calm p { p with arbiter := p.arbiter.afterLaunch s exit n } :=
  (pendingSecond_calm p n h).trans (arbiter_calm _ (p.arbiter.afterLaunch s exit n) rfl rfl rfl)

theorem launchFF_calm (s : Sheet) (h : s.loopBound = true → p.arbiter.pendingSecond < 4) : Calm p (p.launchFF s) := by
  have hsheet := mapSheet_calm p s.seq (f := fun r => p.launched r .first
    (if s.loopBound then .freshLoop else .freshExit) [p.coverFor (.st r.tray) r.length p.clock.tick])
    (.inr fun _ => launched_sampling)
  unfold Part.launchFF
  dsimp only
  refine ((hsheet.trans (afterLaunch_calm _ s (!s.loopBound) _ fun hn => ?_)).trans (followCadence_calm _ s)).trans
    (send_calm _ _)
  split
  · rename_i hl
    exact h hl
  · exact hn

theorem launchDR_calm (p : Part) (s : Sheet) : Calm p (p.launchDR s) := by
  have hsheet := mapSheet_calm p s.seq (f := fun r => p.launched r .second .second []) (.inr fun _ => launched_sampling)
  exact ((hsheet.trans (loop_calm _ p.loop.tail (by
      rw [List.length_tail]
      exact Nat.sub_le _ _))).trans
    (afterLaunch_calm _ s true (p.arbiter.pendingSecond - 1) fun hn => (Nat.sub_le _ _).trans hn)).trans (send_calm _ _)

/-- A loop-bound fresh sheet that may be launched finds fewer than 4 owed a second pass (R61, R70). -/
theorem ffEligible_pending {k : BitVec 32} {s : Sheet} (h : p.ffEligible k s = true) (hl : s.loopBound = true) :
    p.arbiter.pendingSecond < 4 := by
  unfold Sheet.loopBound at hl
  unfold Part.ffEligible at h
  simp only [Bool.and_eq_true, Bool.not_eq_true', beq_iff_eq] at hl
  rw [Bool.and_eq_true, hl.1, hl.2] at h
  have := h.2
  exact of_decide_eq_true this

theorem choice_calm {k : BitVec 32} (h : p.choice k = some q) : Calm p q := by
  rcases choice_cases p h with ⟨f, -, he, rfl⟩ | ⟨d, -, -, rfl⟩
  · exact launchFF_calm f (ffEligible_pending he)
  · exact launchDR_calm p d

theorem raiseSlot_calm (p : Part) : Calm p p.raiseSlot := arbiter_calm p _ rfl rfl rfl

theorem starve_calm (p : Part) : Calm p p.starve := by
  rcases starve_cases p with e | ⟨k, -, e⟩ <;> rw [e]
  · exact .refl p
  · exact breakGroup_calm p k _

theorem boundary_calm (p : Part) (line : Bool) : Calm p (p.boundary line) := by
  rcases boundary_cases p line with ⟨-, h⟩ | h | ⟨-, h⟩
  · rw [h]
    exact arbiter_calm p _ rfl rfl rfl
  · exact (raiseSlot_calm p).trans (choice_calm h)
  · rw [h]
    split
    · exact (raiseSlot_calm p).trans (starve_calm _)
    · exact raiseSlot_calm p

theorem pitchExpiry_calm (h : p.pitchExpiry = some q) : Calm p q := by
  unfold Part.pitchExpiry at h
  split at h
  · cases h
    split
    · exact clearExpiry_calm p
    · exact (clearExpiry_calm p).trans (boundary_calm _ _)
  · cases h

theorem cadencePulse_calm (p : Part) : Calm p p.cadencePulse := by
  unfold Part.cadencePulse
  split
  · dsimp only
    split
    · exact (boundary_calm p true).trans (watchReference_calm _)
    · exact boundary_calm p true
  · exact .refl p

theorem cadenceLoss_calm (h : p.cadenceLoss = some q) : Calm p q := by
  unfold Part.cadenceLoss at h
  split at h
  · cases h
    exact ((loseCadence_calm.trans (breakOpen_calm _ .cadence)).trans drainForCadence_calm).trans (notice_calm _)
  · cases h

/-! ### Cues, sampling and gates at a lead arrival (R86, R93 to R96, R108 to R113) -/

theorem setCue_isSampling (s : Sheet) (side : Side) (c : CueState) : (s.setCue side c).isSampling = s.isSampling := by
  cases side <;> rfl

theorem setCue_calm (p : Part) (n : Half) (side : Side) (c : CueState) :
    Calm p (p.mapSheet n fun s => s.setCue side c) :=
  mapSheet_calm p n (.inr fun s h => (setCue_isSampling s side c).symm.trans h)

theorem missSide_calm (p : Part) (s : Sheet) (side : Side) : Calm p (p.missSide s side) :=
  ((setCue_calm p s.seq side .missed).trans (spoilSheet_calm _ s.seq .imageMiss)).trans
    (breakGroup_calm _ s.group .image)

theorem missSide_ctl (p : Part) (s : Sheet) (side : Side) : (p.missSide s side).ctl = p.ctl := breakGroup_ctl _ _ _

theorem addCue_calm (p : Part) (c : Cue) (h : p.cue.outstanding.length < 4) :
    Calm p { p with cue := { p.cue with outstanding := p.cue.outstanding ++ [c] } } :=
  .of_same rfl rfl rfl rfl rfl rfl fun ⟨ho, hr, ht, _, ha, hl, hs⟩ => ⟨ho, hr, ht, by simpa using h, ha, hl, hs⟩

theorem cueAtRG_calm (p : Part) (s : Sheet) : Calm p (p.cueAtRG s) := by
  unfold Part.cueAtRG
  dsimp only
  split
  · split
    · rename_i h
      exact ((setCue_calm p s.seq s.sideUp .cued).trans (addCue_calm _ ⟨s.seq, s.sideUp⟩ (by exact h))).trans
        (send_calm _ _)
    · exact missSide_calm p s _
  · exact .refl p

theorem cueAtRG_ctl (p : Part) (s : Sheet) : (p.cueAtRG s).ctl = p.ctl := by
  unfold Part.cueAtRG
  dsimp only
  split
  · split
    · rfl
    · exact missSide_ctl p s _
  · rfl

theorem beginSampling_calm (p : Part) (s : Sheet) (h : p.ctl.state.moving = true) : Calm p (p.beginSampling s) := by
  unfold Part.beginSampling
  split
  · exact .refl p
  · exact mapSheet_calm p s.seq (.inl h)

theorem settleAtTR_calm (p : Part) (s : Sheet) : Calm p (p.settleAtTR s) := by
  unfold Part.settleAtTR
  dsimp only
  split
  · exact (dropCue_calm p s.seq _).trans (missSide_calm _ s _)
  · exact .refl p

theorem gatesSent_calm (p : Part) (g : Gates) (m : List Message) : Calm p { p with gates := g, sent := m } :=
  .of_same rfl rfl rfl rfl rfl rfl id

theorem gateTaken_calm (p : Part) (g : Gates) (m : List Message) (n : Nat) (h : p.arbiter.pendingSecond ≤ 4 → n ≤ 4) :
    Calm p { p with gates := g, sent := m, arbiter := { p.arbiter with pendingSecond := n } } :=
  { Calm.refl p with
    toMild := .of_core rfl id (Nat.le_refl _) (Nat.le_refl _) id id
    second := h
    rooms := id }

theorem decideGD_calm (p : Part) (s : Sheet) : Calm p (p.decideGD s).1 := by
  by_cases h : p.gates.gdOccupants = [] ∨ p.gates.gd = s.gdNeed
  · rw [decideGD_taken h]
    refine Calm.trans ?_ (mapSheet_calm _ s.seq (f := s.decidedGD) (.inr fun _ => id))
    refine gateTaken_calm p _ _ _ fun h => ?_
    split
    · exact (Nat.sub_le _ _).trans h
    · exact h
  · rw [decideGD_conflict (fun e => h (.inl e)) fun e => h (.inr e)]
    exact raiseFor_calm p _ _ s

theorem decideGX_calm (p : Part) (s : Sheet) : Calm p (p.decideGX s).1 := by
  by_cases h : p.gates.gxOccupants = [] ∨ p.gates.gx = s.destination
  · rw [decideGX_taken h]
    exact Calm.trans (gatesSent_calm p _ _) (mapSheet_calm _ s.seq (f := s.decidedGX) (.inr fun _ => id))
  · rw [decideGX_conflict (fun e => h (.inl e)) fun e => h (.inr e)]
    exact raiseFor_calm p _ _ s

theorem stationWork_calm (p : Part) (s : Sheet) (q : PathSensor) (h : p.ctl.state.moving = true) :
    Calm p (p.stationWork s q).1 := by
  cases q with
  | rg => exact (cueAtRG_calm p s).trans (beginSampling_calm _ s (by rw [cueAtRG_ctl]; exact h))
  | tr => exact settleAtTR_calm p s
  | fx => exact decideGD_calm p s
  | xs => exact decideGX_calm p s
  | ac =>
    unfold Part.stationWork
    dsimp only
    split
    · exact raiseFor_calm p _ _ s
    · exact .refl p
  | _ => exact .refl p

theorem openWindow_calm (p : Part) (n : Half) : Calm p (p.openWindow n) := mapSheet_calm p n (.inr fun _ => id)

theorem leadArrival_calm (p : Part) (s : Sheet) (q : PathSensor) (h : p.ctl.state.moving = true) :
    Calm p (p.leadArrival s q) := by
  have harrive := mapSheet_calm p s.seq (f := fun r => { r with
    window := none
    itinerary := r.itinerary.tail
    covered := r.covered ++ [p.coverFor (.path q) r.length p.clock.tick] }) (.inr fun _ => id)
  unfold Part.leadArrival
  dsimp only
  split
  · exact (harrive.trans (stationWork_calm _ s q (by exact h))).trans (openWindow_calm _ _)
  · exact harrive.trans (stationWork_calm _ s q (by exact h))

/-! ### Edges of the path sensors (R85, R89, R101, R169) -/

theorem matching_moving {x : TransportState} (h : x.matching = true) : x.moving = true := by
  cases x <;> first | rfl | cases h

theorem matchArrival_calm (p : Part) (q : PathSensor) (h : p.ctl.state.matching = true) :
    Calm p (p.matchArrival q) := by
  unfold Part.matchArrival
  split
  · exact raise_calm p _ _ _ _
  · split
    · exact raiseFor_calm p _ _ _
    · exact leadArrival_calm p _ q (matching_moving h)

theorem pathCovered_calm (p : Part) (q : PathSensor) : Calm p (p.pathCovered q) := by
  unfold Part.pathCovered
  dsimp only
  refine (setPathLevel_calm p q true).trans ?_
  split
  · rename_i h
    exact matchArrival_calm _ q (by exact h)
  · split
    · exact raise_calm _ _ _ _ _
    · exact anomaly_calm _

theorem stagingCovered_calm (p : Part) (t : TrayId) : Calm p (p.stagingCovered t) := by
  unfold Part.stagingCovered
  dsimp only
  refine (setStagingLevel_calm p t true).trans ?_
  split
  · have hstage := unrequest_calm (p.setStagingLevel t true) t
      (f := fun f => { f with request := false, deadline := none }) (fun _ => rfl) fun _ => rfl
    split
    · exact hstage.trans (mapSheet_calm _ _ (.inr fun _ => id))
    · exact hstage
  · split
    · exact (mapFeeder_calm_same _ t (f := fun f => { f with abandoned := false }) (fun _ => rfl) fun _ => rfl).trans
        (anomaly_calm _)
    · split
      · exact raise_calm _ _ _ _ _
      · split
        · exact raise_calm _ _ _ _ _
        · exact anomaly_calm _

theorem uncover_calm (p : Part) (n : Half) (q : Sensor) : Calm p (p.uncover n q) := mapSheet_calm p n (.inr fun _ => id)

theorem stagingUncovered_calm (p : Part) (t : TrayId) : Calm p (p.stagingUncovered t) := by
  unfold Part.stagingUncovered
  dsimp only
  refine (setStagingLevel_calm p t false).trans ?_
  split
  · split
    · split
      · exact raiseFor_calm _ _ _ _
      · exact (uncover_calm _ _ _).trans (mapFeeder_calm_same _ _ (fun _ => rfl) fun _ => rfl)
    · exact anomaly_calm _
  · split
    · split
      · exact raiseFor_calm _ _ _ _
      · exact anomaly_calm _
    · exact anomaly_calm _

/-! ### Deadlines of the path and the gauge (R87, R90, R95, R97, R98) -/

theorem lateLimit_calm {n : Half} (h : Part.lateLimit n p = some q) : Calm p q := by
  unfold Part.lateLimit at h
  split at h
  · split at h
    · cases h
    · split at h
      · cases h
      · split at h
        · cases h
          exact (mapSheet_calm p n (f := fun r => { r with window := none }) (.inr fun _ => id)).trans
            (raiseFor_calm _ _ _ _)
        · cases h
  · cases h

theorem stallAt_calm {n : Half} {x : Sensor} (h : Part.stallAt n x p = some q) : Calm p q := by
  unfold Part.stallAt at h
  split at h
  · split at h
    · cases h
    · split at h
      · cases h; exact raiseFor_calm p _ _ _
      · cases h
  · cases h

theorem gateRelease_calm {g : Gate} {n : Half} (h : Part.gateRelease g n p = some q) : Calm p q := by
  unfold Part.gateRelease at h
  dsimp only at h
  split at h
  · cases h; exact gates_calm p _
  · cases h

theorem conversionStart_calm {n : Half} (h : Part.conversionStart n p = some q) : Calm p q := by
  unfold Part.conversionStart at h
  split at h
  · rename_i hm
    split at h
    · cases h
    · split at h
      · split at h
        · split at h
          · cases h
            exact ((mapSheet_calm p n (.inl hm)).trans (gauge_calm _ _)).trans (send_calm _ _)
          · cases h
            exact (mapSheet_calm p n (.inl hm)).trans (anomaly_calm _)
        · cases h
      · cases h
  · cases h

theorem evaluate_calm (p : Part) (s : Sheet) (m : Nat) : Calm p (p.evaluate s m) := by
  have hset := mapSheet_calm p s.seq (f := fun r => { r with thickness := some (BitVec.ofNat 8 m), sampling := .idle })
    (.inr fun _ h => nomatch h)
  unfold Part.evaluate
  dsimp only
  split
  · exact hset.trans (raiseFor_calm _ _ _ _)
  · split
    · exact (hset.trans (spoilSheet_calm _ _ _)).trans (breakGroup_calm _ _ _)
    · exact hset

theorem mem_of_sheet? {n : Half} {s : Sheet} (h : p.sheet? n = some s) : s ∈ p.track.sheets :=
  List.mem_of_find?_eq_some h

theorem conversionDone_calm (p : Part) (v : Byte) : Calm p (p.conversionDone v) := by
  unfold Part.conversionDone
  split
  · exact anomaly_calm p
  · dsimp only
    split
    · exact gauge_calm p none
    · rename_i s hs
      refine (gauge_calm p none).trans ?_
      split
      · exact evaluate_calm _ _ _
      · rename_i hsam _
        refine .of_sheets (p := { p with track := { p.track with gauge := none } })
          (fun l => l.map fun x : Sheet => if x.seq == s.seq then { x with sampling := _ } else x)
          (Nat.le_of_eq (List.length_map ..)) (.inr fun x hx _ => ⟨s, mem_of_sheet? hs, ?_⟩)
        unfold Sheet.isSampling
        simp [*]
      · exact .refl _

end
end Sys2Proof.Machine

namespace Sys2Proof.Machine

section
variable {p q : Part}

/-! ### Answers, the loop and the bins (R110 to R112, R120, R121, R137, R146 to R149) -/

theorem readyAnswer_calm (p : Part) (n : Half) (side : Side) : Calm p (p.readyAnswer n side) := by
  unfold Part.readyAnswer
  split
  · exact (dropCue_calm p n side).trans (setCue_calm _ n side .ready)
  · exact lateAnswer_calm p

theorem declineAnswer_calm (p : Part) (n : Half) (side : Side) : Calm p (p.declineAnswer n side) := by
  have hspoil := ((dropCue_calm p n side).trans (setCue_calm _ n side .declined)).trans
      (spoilSheet_calm _ n .imageDeclined)
  unfold Part.declineAnswer
  split
  · dsimp only
    split
    · exact hspoil.trans (breakGroup_calm _ _ _)
    · exact hspoil
  · exact lateAnswer_calm p

theorem length_parkFirst (l : List LoopEntry) : (parkFirst l).length = l.length := by
  induction l with
  | nil => rfl
  | cons e rest ih =>
    unfold parkFirst
    split
    · rfl
    · rw [List.length_cons, ih, List.length_cons]

theorem parked_calm (p : Part) : Calm p p.parked := by
  unfold Part.parked
  split
  · exact loop_calm p _ (Nat.le_of_eq (length_parkFirst _))
  · exact anomaly_calm p

theorem parkDeadline_calm (h : p.parkDeadline = some q) : Calm p q := by
  unfold Part.parkDeadline at h
  split at h
  · split at h
    · cases h
    · rename_i e _
      have hdrop := loop_calm p (p.loop.map fun x => if x.seq == e.seq then { x with deadline := none } else x)
        (Nat.le_of_eq (List.length_map ..))
      dsimp only at h
      split at h <;> cases h
      · exact hdrop.trans (raiseFor_calm _ _ _ _)
      · exact hdrop.trans (raise_calm _ _ _ _ _)
  · cases h

theorem ejectTimeout_calm (h : p.ejectTimeout = some q) : Calm p q := by
  unfold Part.ejectTimeout at h
  split at h
  · cases h
  · dsimp only at h
    split at h
    · cases h
      exact (eject_calm p _).trans (raise_calm _ _ _ _ _)
    · cases h

theorem closeDoor_stacked (x : Bin) (m : ReleaseMode) : (x.closeDoor m).stacked ≤ x.stacked := by
  unfold Bin.closeDoor
  split
  · exact Nat.zero_le _
  · split
    · exact Nat.zero_le _
    · exact Nat.le_refl _

theorem closeBin_calm (p : Part) (b : BinId) : Calm p (p.closeBin b) := by
  unfold Part.closeBin
  split
  · exact setBin_calm p b _ (closeDoor_stacked _ _)
  · refine Calm.trans (q := { p with freeIndex := p.freeIndex + 1 }) (.of_same rfl rfl rfl rfl rfl rfl id)
      (setBin_calm _ b _ ?_)
    exact closeDoor_stacked _ _

theorem openBin_calm (p : Part) (b : BinId) : Calm p (p.openBin b) := setBin_calm p b _ (Nat.le_refl _)

theorem fullEdge_calm (p : Part) (b : BinId) (active : Bool) : Calm p (p.fullEdge b active) :=
  setBin_calm p b _ (Nat.le_refl _)

theorem emptyBin_calm {b : BinId} (h : p.emptyBin b = some q) : Calm p q := by
  unfold Part.emptyBin at h
  split at h
  · cases h
  · dsimp only at h
    split at h
    · cases h
    · split at h
      · cases h
      · split at h
        · cases h
          refine Calm.trans ?_ (notice_calm _)
          exact setBin_calm p b _ (Nat.le_refl _)
        · split at h
          · cases h
            refine Calm.trans ?_ (notice_calm _)
            exact setBin_calm p b _ (Nat.zero_le _)
          · cases h

theorem binEmptied_calm (p : Part) (n : Byte) : Calm p (p.binEmptied n) := by
  unfold Part.binEmptied
  split
  · rename_i q hq
    obtain ⟨b, -, hb⟩ := Option.bind_eq_some_iff.1 hq
    exact emptyBin_calm hb
  · exact refuse_calm p _

theorem openPurge_calm (p : Part) : Calm p p.openPurge := by
  have hdoor : Calm p { p with stacker := { p.stacker with purgeDoorOpen := true } } :=
      .of_same rfl rfl rfl rfl rfl rfl id
  have hnotice : Calm p (if p.stacker.purgeDoorOpen then { p with stacker := { p.stacker with purgeDoorOpen := true } }
      else Part.notice { p with stacker := { p.stacker with purgeDoorOpen := true } }) := by
    split
    · exact hdoor
    · exact hdoor.trans (notice_calm _)
  unfold Part.openPurge
  dsimp only
  split
  · exact hnotice.trans (raise_calm _ _ _ _ _)
  · exact hnotice

theorem closePurge_calm (p : Part) : Calm p p.closePurge := by
  have hdoor : Calm p { p with stacker := { p.stacker with purgeDoorOpen := false, purgeStacked := 0 } } :=
    { Calm.refl p with
      toMild := .of_core rfl id (Nat.le_refl _) (Nat.le_refl _) id id, purgeStacked := Nat.zero_le _, rooms := id }
  unfold Part.closePurge
  dsimp only
  split
  · exact hdoor.trans (notice_calm _)
  · exact hdoor

/-! ### Controls, interlocks and the power-warn level (R152, R153, R160, R171) -/

theorem startControl_calm (p : Part) : Calm p p.startControl := by
  unfold Part.startControl
  split
  · rename_i hs
    split
    · rename_i hr
      exact enterWarmup_calm hs hr
    · exact refuse_calm p _
  · exact .refl p
  · exact .refl p
  all_goals exact refuse_calm p _

theorem haltControl_calm (p : Part) : Calm p p.haltControl := by
  unfold Part.haltControl
  split
  case h_7 | h_8 | h_9 => exact refuse_calm p _
  all_goals exact raise_calm p _ _ _ _

theorem openCover_calm (p : Part) : Calm p p.openCover := by
  have hcover := ctl_calm (p := p) { p.ctl with coverOpen := true } rfl
  unfold Part.openCover
  dsimp only
  split
  · exact hcover.trans (raise_calm _ _ _ _ _)
  · exact hcover

theorem closeCover_calm (p : Part) : Calm p p.closeCover := ctl_calm { p.ctl with coverOpen := false } rfl

theorem powerWarn_calm (p : Part) (x : Bool) : Calm p (Part.notice { p with ctl := { p.ctl with powerWarn := x } }) :=
  (ctl_calm (p := p) { p.ctl with powerWarn := x } rfl).trans (notice_calm _)

theorem clearPowerWarn_calm (p : Part) : Calm p p.clearPowerWarn := by
  unfold Part.clearPowerWarn
  dsimp only
  split
  · rename_i hs
    refine (powerWarn_calm p false).trans (enterStandby_calm ?_)
    show p.ctl.state.stopped = false
    rw [hs]
    rfl
  · exact powerWarn_calm p false

/-! ### Records received (R175, R177, R178) -/

theorem dropped_calm (p : Part) (d : StreamFault) : Calm p (p.dropped d) :=
  (streamFault_calm p d).trans (breakOpen_calm _ .stream)

theorem drop_calm (p : Part) (c : DropCause) : Calm p (p.drop c) := dropped_calm p _

theorem enqueue_calm (p : Part) (x : Queued) : Calm p (p.enqueue x) := by
  unfold Part.enqueue
  split
  · exact dropped_calm p _
  · rename_i h
    refine .of_link _ rfl fun ⟨_, hr, ht, hc, ha, hl, hs⟩ => ⟨?_, hr, ht, hc, ha, hl, hs⟩
    unfold Config.queueSize at h
    dsimp only
    rw [List.length_append, List.length_singleton]
    omega

theorem takeLoad_calm (p : Part) (l : LoadRecord) : Calm p (p.takeLoad l) := by
  unfold Part.takeLoad
  split
  · exact (setFramer_calm p _).trans (enqueue_calm _ _)
  · exact (setFramer_calm p _).trans (drop_calm _ _)

/-! ### Removal and breaks of several groups (R104, R138, R166, R167, R172) -/

theorem abandon_picks (n : Half) (h : p.PicksTimed) (hs : q.ctl.state = p.ctl.state)
    (hf : q.feeders = p.feeders.map fun f => f.abandon n) : q.PicksTimed := by
  intro t
  rw [hf, hs, PerTray.get_map]
  unfold Feeder.abandon
  split
  · rfl
  · exact h t

theorem leaveTrack_body (p : Part) (n : Half) : Body p (p.leaveTrack n) where
  core := rfl
  small := id
  groups := Nat.le_refl _
  sheets := List.length_filter_le ..
  sampling h hm s hs := h hm s (List.mem_of_mem_filter hs)
  picks h := abandon_picks n h rfl rfl

theorem removeSheet_body (p : Part) (s : Sheet) : Body p (p.removeSheet s) := by
  have hleave := leaveTrack_body p s.seq
  refine ⟨hleave.core, fun h => ?_, Nat.le_of_eq (List.length_map ..), hleave.sheets, hleave.sampling, hleave.picks⟩
  obtain ⟨ho, hr, ht, hc, ha, hl, hs⟩ := hleave.small h
  exact ⟨ho, hr, ht, (List.length_filter_le ..).trans hc, ha, hl, hs⟩

theorem removeSheets_body (p : Part) (l : List Sheet) : Body p (p.removeSheets l) := .foldl removeSheet_body l p

theorem breakAll_body (p : Part) (keys : List GroupKey) (r : BreakReason) : Body p (p.breakAll keys r) :=
  .foldl (fun p k => breakGroup_body p k r) _ p

theorem breakOpen_body (p : Part) (r : BreakReason) : Body p (p.breakOpen r) := by
  unfold Part.breakOpen
  split
  · exact .refl p
  · exact breakGroup_body p _ r

theorem clearSet_body (p : Part) : Body p p.clearSet := ⟨rfl, id, Nat.le_refl _, Nat.le_refl _, id, id⟩

theorem removeSet_body (p : Part) : Body p p.removeSet := by
  unfold Part.removeSet
  split
  · exact clearSet_body p
  · exact (mapGroup_body p _ _).trans (clearSet_body _)

theorem sweep_body (p : Part) : Body p p.sweep := by
  unfold Part.sweep
  dsimp only
  split
  · exact (removeSheets_body p _).trans (removeSet_body _)
  · exact removeSheets_body p _

theorem renewEject_body (p : Part) : Body p p.renewEject := ⟨rfl, id, Nat.le_refl _, Nat.le_refl _, id, id⟩

/-- The fresh records leave at the entry to RUNOUT, with the breaks of R172. -/
def Part.shedFresh (p : Part) (fresh : List Sheet) : Part :=
  ((p.removeSheets fresh).breakOpen .power).breakAll (fresh.map Sheet.group) .power

theorem enterRunout_eq (p : Part) :
    p.enterRunout = (p.setTransport .runout).dropTimed.disarmWatch.dropPickDeadlines.shedFresh
      (p.track.sheets.filter Sheet.fresh) := rfl

theorem shedFresh_body (p : Part) (l : List Sheet) : Body p (p.shedFresh l) :=
  ((removeSheets_body p l).trans (breakOpen_body _ _)).trans (breakAll_body _ _ _)

theorem enterRunout_mild (h : p.ctl.state = .warmup ∨ p.ctl.state = .running ∨ p.ctl.state = .draining) :
    Mild p p.enterRunout := by
  rw [enterRunout_eq]
  exact (runout_calm h).toMild.trans (shedFresh_body _ _).mild

theorem assertPowerWarn_mild (p : Part) : Mild p p.assertPowerWarn := by
  have hwarn := (powerWarn_calm p true).toMild
  unfold Part.assertPowerWarn
  dsimp only
  split
  case h_1 hs => exact hwarn.trans (enterRunout_mild (.inl hs))
  case h_2 hs => exact hwarn.trans (enterRunout_mild (.inr (.inl hs)))
  case h_3 hs => exact hwarn.trans (enterRunout_mild (.inr (.inr hs)))
  case h_4 => exact hwarn

/-! ### CLEAR FAULT (R154, R166 to R169) -/

/-- Fault Capture unlocked by a CLEAR FAULT (R154). -/
def Part.unlocked (p : Part) : Part :=
  { p with ctl := { p.ctl with
      sweepClass := p.ctl.firstFault.map fun r => r.kind.faultClass, firstFault := none, locked := false,
        further := 0 } }

/-- The transport and the gates as the sweep finds them (R154, R169). -/
def Part.beforeSweep (p : Part) : Part := (((p.unlocked.setTransport .recovery).motorStart).setGd .exit).setGx .purge

/-- The path swept, with the breaks of R167 and the eject's deadline. -/
def Part.swept (p : Part) : Part := (p.beforeSweep.sweep.jamBreaks p.beforeSweep.sweptGroups).renewEject

/-- The run end of a recovery (R170). -/
def Part.beginRun (p : Part) (t : Tick) : Part :=
  { p with ctl := { p.ctl with runEnd := some t, runEndReached := false } }

/-- The recovery begun, before the tests for residue and the purge door. -/
def Part.recovering (p : Part) : Part := p.swept.beginRun (p.after p.params.clearRun)

theorem enterRecovery_eq (p : Part) : p.unlocked.enterRecovery = p.recovering.testResidue.testPurgeDoor := rfl

theorem swept_body (p : Part) : Body p.beforeSweep p.swept :=
  ((sweep_body _).trans (breakAll_body _ _ _)).trans (renewEject_body _)

theorem beforeSweep_eq (p : Part) : ∃ m, p.beforeSweep = { p with
    ctl := { p.unlocked.ctl with state := .recovery }, gates := { p.gates with gd := .exit, gx := .purge },
    sent := m } := by
  unfold Part.beforeSweep
  rw [setGd_eq, setGx_eq]
  exact ⟨_, rfl⟩

theorem agrees_of_recovery (hs : q.ctl.state = .recovery) (hl : q.ctl.locked = false) (hf : q.ctl.firstFault = none)
    (hn : q.ctl.further = 0) (hd : q.ctl.drainReason = none) (hw : q.ctl.warmupEnd = none)
    (hr : q.ctl.runEnd.isSome = true) (he : q.ctl.runEndReached = false) (ha : q.clock.watchArmed = false)
    (hpick : q.PicksTimed) : q.TransportAgrees := by
  refine ⟨⟨?_, ?_, fun r hr => ?_, fun _ => hn⟩, ?_, ?_, ?_, fun e => ?_, fun e => ?_, fun e => ?_, hpick⟩
  · rw [hl, hs]; rfl
  · rw [hf, hs]; rfl
  · rw [hf] at hr; cases hr
  · rw [hd, hs]; rfl
  · rw [hw, hs]; rfl
  · rw [hr, hs]; rfl
  · rw [he] at e; cases e
  · rw [ha] at e; cases e
  · rw [hs] at e; cases e

/-- A recovery begun from a stopped state, whatever the sweep took. -/
theorem beginRun_mild {x : Part} (t : Tick) (g : Gates) (m : List Message)
    (hs : p.ctl.state = .halted ∨ p.ctl.state = .jammed) (hg : p.tables.geometry.isSome = true)
    (hp : p.tables.parameters.isSome = true)
    (hb : Body { p with ctl := { p.unlocked.ctl with state := .recovery }, gates := g, sent := m } x) :
    Mild p (x.beginRun t) := by
  have hctl : ∀ {α : Type} (f : Core → α), f x.core = f (Part.core { p with
      ctl := { p.unlocked.ctl with state := .recovery }, gates := g, sent := m }) := fun f => congrArg f hb.core
  have hne : p.ctl.state.picking = false ∧ p.ctl.state ≠ .running ∧ p.ctl.state ≠ .draining
      ∧ p.ctl.state ≠ .warmup := by
    rcases hs with e | e <;> rw [e] <;> decide
  refine
    { tables := hctl Core.tables, pendingLoad := hctl Core.pendingLoad, pitch := hctl Core.pitch
      expiry := fun e => (hctl Core.expiryDue).symm.trans e, tick := hctl Core.tick, spdInt := hctl Core.spdInt
      fraction := hctl Core.fraction, spdFrac := hctl Core.spdFrac
      bounded := ?_, agrees := fun ha => ?_, loaded := fun _ _ => ?_ }
  · rw [bounded_iff, bounded_iff]
    rintro ⟨hsm, hgl, hsl, -⟩
    have hf : x.ctl.further = 0 := hctl Core.further
    refine ⟨hb.small hsm, hb.groups.trans hgl, hb.sheets.trans hsl, ?_⟩
    show x.ctl.further ≤ 255
    rw [hf]
    exact Nat.zero_le _
  · have hdrain := ha.2.1
    have hwarm := ha.2.2.1
    refine agrees_of_recovery (hctl Core.state) (hctl Core.locked) (hctl Core.firstFault) (hctl Core.further)
      ?_ ?_ rfl rfl
      ?_ ?_
    · refine (hctl Core.drainReason).trans ?_
      rw [beq_eq_false_iff_ne.2 hne.2.2.1] at hdrain
      exact Option.isSome_eq_false_iff.1 hdrain |> Option.isNone_iff_eq_none.1
    · refine (hctl Core.warmupEnd).trans ?_
      rw [beq_eq_false_iff_ne.2 hne.2.2.2] at hwarm
      exact Option.isSome_eq_false_iff.1 hwarm |> Option.isNone_iff_eq_none.1
    · refine (hctl Core.watchArmed).trans (Bool.eq_false_iff.2 fun e => ?_)
      rcases (ha.2.2.2.2.2.1 e).1 with h | h
      · exact hne.2.1 h
      · exact hne.2.2.1 h
    · refine picksTimed_congr (p := x) rfl rfl (hb.picks fun t => ?_)
      have := ha.picks t
      rw [hne.1] at this
      exact this
  · refine ⟨fun _ => ?_, fun e => ?_⟩
    · rw [show (x.beginRun t).tables = p.tables from hctl Core.tables]
      exact ⟨hg, hp⟩
    · rw [show (x.beginRun t).ctl.state = .recovery from hctl Core.state] at e
      rcases e with e | e | e | e <;> cases e

theorem recovering_mild (hs : p.ctl.state = .halted ∨ p.ctl.state = .jammed) (hg : p.tables.geometry.isSome = true)
    (hp : p.tables.parameters.isSome = true) : Mild p p.recovering := by
  obtain ⟨m, hm⟩ := beforeSweep_eq p
  have hb := swept_body p
  rw [hm] at hb
  exact beginRun_mild _ _ m hs hg hp hb

theorem clearFaultControl_cases (p : Part) :
    p.clearFaultControl = p.refuse .clearFault
    ∨ ((p.ctl.state = .halted ∨ p.ctl.state = .jammed) ∧ p.tables.geometry.isSome = true
      ∧ p.tables.parameters.isSome = true ∧ p.clearFaultControl = p.recovering.testResidue.testPurgeDoor) := by
  unfold Part.clearFaultControl
  split
  · rename_i h
    simp only [Bool.and_eq_true, Bool.or_eq_true, beq_iff_eq] at h
    obtain ⟨⟨⟨hs, -⟩, hg⟩, hp⟩ := h
    exact .inr ⟨hs, hg, hp, enterRecovery_eq p⟩
  · exact .inl rfl

theorem clearFaultControl_mild (p : Part) : Mild p p.clearFaultControl := by
  rcases clearFaultControl_cases p with h | ⟨hs, hg, hp, h⟩ <;> rw [h]
  · exact (refuse_calm p _).toMild
  · exact ((recovering_mild hs hg hp).trans (testResidue_calm _).toMild).trans (testPurgeDoor_calm _).toMild

end
end Sys2Proof.Machine

namespace Sys2Proof.Machine

section
variable {p q : Part}

/-! ### Sheets that leave the path (R92, R119, R130, R149) -/

theorem handOver_mild (p : Part) (s : Sheet) : Mild p (p.handOver s) :=
  (mapSheet_calm p s.seq (f := fun r => { r with state := .looped, window := none, covered := [] })
    (.inr fun _ => id)).toMild.trans (.of_core rfl id (Nat.le_refl _) (Nat.le_refl _) id id)

theorem joinSet_mild (p : Part) (s : Sheet) : Mild p (p.joinSet s) := by
  have hleave := leaveTrack_body p s.seq
  unfold Part.joinSet
  split
  · exact (raiseFor_calm p _ _ s).toMild
  · exact Body.mild ⟨hleave.core, hleave.small, Nat.le_of_eq (List.length_map ..), hleave.sheets, hleave.sampling,
      hleave.picks⟩

theorem landInPurge_mild (p : Part) (s : Sheet) : Mild p (p.landInPurge s) := by
  have hleave := leaveTrack_body p s.seq
  exact Body.mild ⟨hleave.core, hleave.small, Nat.le_of_eq (List.length_map ..), hleave.sheets, hleave.sampling,
    hleave.picks⟩

theorem cleared_mild (p : Part) (s : Sheet) (q : PathSensor) : Mild p (p.cleared s q) := by
  cases q with
  | fx => exact (gates_calm p _).toMild
  | xs => exact (gates_calm p _).toMild
  | dl => exact handOver_mild p s
  | ac => exact joinSet_mild p s
  | pg => exact landInPurge_mild p s
  | _ => exact .refl p

theorem pathUncovered_mild (p : Part) (q : PathSensor) : Mild p (p.pathUncovered q) := by
  unfold Part.pathUncovered
  dsimp only
  refine (setPathLevel_calm p q false).toMild.trans ?_
  split
  · split
    · exact (anomaly_calm _).toMild
    · split
      · exact (raiseFor_calm _ _ _ _).toMild
      · exact (uncover_calm _ _ _).toMild.trans (cleared_mild _ _ q)
  · split
    · exact .refl _
    · exact (anomaly_calm _).toMild

/-! ### Ejects done (R132, R135, R136) -/

theorem setBin_mild (p : Part) (b : BinId) (x : Bin) : Mild p (p.setBin b x) := by
  rw [setBin_eq]
  exact .of_core rfl id (Nat.le_refl _) (Nat.le_refl _) id id

theorem deliver_mild (p : Part) (e : Eject) (b : BinId) : Mild p (p.deliver e b) := by
  unfold Part.deliver
  split
  · exact (setBin_mild p b _).trans (clearSet_body _).mild
  · exact ((allowances_mild p _).trans (setBin_mild _ b _)).trans ((mapGroup_body _ _ _).trans (clearSet_body _)).mild

theorem purgeStacked_mild (p : Part) (n : Nat) : Mild p { p with stacker := { p.stacker with purgeStacked := n } } :=
  .of_core rfl id (Nat.le_refl _) (Nat.le_refl _) id id

theorem landSet_mild (p : Part) (e : Eject) : Mild p (p.landSet e) := by
  unfold Part.landSet
  dsimp only
  split
  · exact (purgeStacked_mild p _).trans (clearSet_body _).mild
  · exact (purgeStacked_mild p _).trans ((mapGroup_body _ _ _).trans (clearSet_body _)).mild

theorem ejectDone_mild (p : Part) : Mild p p.ejectDone := by
  unfold Part.ejectDone
  split
  · exact (anomaly_calm p).toMild
  · split
    · exact (anomaly_calm p).toMild
    · exact deliver_mild p _ _
    · exact landSet_mild p _

/-! ### A transmission done (R186, R191) -/

/-- A freed place given out, or kept free: at most one report more, and the rest of what the sizes read. -/
structure Link.Refilled (l l' : Link) : Prop where
  orders : l'.orders = l.orders
  taken : l'.taken = l.taken
  pendingLoad : l'.pendingLoad = l.pendingLoad
  transmitting : l'.transmitting = l.transmitting
  reports : l'.reports = l.reports ∨ ∃ r, l'.reports = l.reports ++ [r]

/-- The freed place changes the link alone, or goes to the first held GROUP RESULT, whose entry leaves. -/
theorem handOut_cases (p : Part) :
    (∃ l, p.link.Refilled l ∧ p.handOut = { p with link := l })
    ∨ ∃ k g l, k ∈ p.link.held.results ∧ p.group? k = some g ∧ p.link.Refilled l
        ∧ p.handOut = Part.dropGroup { p with link := l } g.key := by
  have hadd : ∀ (h : Held) (r : Report), p.link.Refilled { p.link with held := h, reports := p.link.reports ++ [r] } :=
    fun _ r => ⟨rfl, rfl, rfl, rfl, .inr ⟨r, rfl⟩⟩
  unfold Part.handOut
  split
  · exact .inl ⟨_, hadd _ _, rfl⟩
  · split
    · exact .inl ⟨_, hadd _ _, rfl⟩
    · split
      · exact .inl ⟨_, hadd _ _, rfl⟩
      · split
        · exact .inl ⟨_, hadd _ _, rfl⟩
        · split
          · exact .inl ⟨_, hadd _ _, rfl⟩
          · split
            · exact .inl ⟨p.link, ⟨rfl, rfl, rfl, rfl, .inl rfl⟩, rfl⟩
            · rename_i k rest hk
              dsimp only
              split
              · rename_i g hg
                exact .inr ⟨k, g, _, by rw [hk]; exact List.mem_cons_self .., hg, hadd _ _, rfl⟩
              · exact .inl ⟨{ p.link with held := { p.link.held with results := rest } },
                  ⟨rfl, rfl, rfl, rfl, .inl rfl⟩, rfl⟩

/-- A refilled link is as small as the one that the transmission leaves. -/
theorem refilled_calm {l : Link} (h : p.endSending.link.Refilled l) : Calm p { p with link := l } := by
  refine .of_link l h.pendingLoad fun ⟨ho, hr, ht, hc, ha, hl, _⟩ => ?_
  have htail : p.link.reports.tail.length ≤ 63 := by
    rw [List.length_tail]
    omega
  refine ⟨(congrArg List.length h.orders).trans_le ho, ?_, (h.taken : l.taken = p.link.taken).trans_lt ht, hc, ha, hl,
    fun e => absurd (h.transmitting.symm.trans e) (by simp [Part.endSending])⟩
  rcases h.reports with e | ⟨r, e⟩
  · exact (congrArg List.length e).trans_le (htail.trans (by decide))
  · refine (congrArg List.length e).trans_le ?_
    rw [List.length_append, List.length_singleton]
    exact Nat.succ_le_succ htail

theorem transmissionDone_cases (h : p.transmissionDone = some q) :
    ∃ l, p.endSending.link.Refilled l ∧ (q = { p with link := l }
      ∨ ∃ k g, k ∈ p.link.held.results ∧ p.group? k = some g ∧ q = Part.dropGroup { p with link := l } g.key) := by
  unfold Part.transmissionDone at h
  split at h
  · cases h
    rcases handOut_cases p.endSending with ⟨l, hl, e⟩ | ⟨k, g, l, hk, hg, hl, e⟩
    · exact ⟨l, hl, .inl e⟩
    · exact ⟨l, hl, .inr ⟨k, g, hk, hg, e⟩⟩
  · cases h

theorem transmissionDone_mild (h : p.transmissionDone = some q) : Mild p q := by
  obtain ⟨l, hl, rfl | ⟨k, g, -, -, rfl⟩⟩ := transmissionDone_cases h
  · exact (refilled_calm hl).toMild
  · exact (refilled_calm hl).toMild.trans (dropGroup_body _ _).mild

/-! ### Every command but the resets -/

theorem Mild.attempt {e : Part → Option Part} (h : ∀ q, e p = some q → Mild p q) : Mild p (p.attempt e) := by
  unfold Part.attempt
  cases he : e p with
  | none => exact .refl p
  | some q => exact h q he

theorem KeepsAll.attempt {e : Part → Option Part} (h : ∀ q, e p = some q → KeepsAll p q) :
    KeepsAll p (p.attempt e) := by
  unfold Part.attempt
  cases he : e p with
  | none => exact .refl p
  | some q => exact h q he

/-- The commands whose own effect takes sheets out of the path, or rests on a group's whole account: they keep the rooms
only from a state that keeps every promise. -/
inductive Sensitive : Part → Part → Prop where
  | clearFault (p : Part) : Sensitive p p.clearFaultControl
  | powerWarn (p : Part) : Sensitive p p.assertPowerWarn
  | uncovered (p : Part) (x : PathSensor) : Sensitive p (p.pathUncovered x)
  | ejected (p : Part) : Sensitive p p.ejectDone
  | transmitted (p : Part) : Sensitive p (p.attempt Part.transmissionDone)

theorem Sensitive.mild (h : Sensitive p q) : Mild p q := by
  cases h with
  | clearFault => exact clearFaultControl_mild p
  | powerWarn => exact assertPowerWarn_mild p
  | uncovered x => exact pathUncovered_mild p x
  | ejected => exact ejectDone_mild p
  | transmitted => exact .attempt fun _ => transmissionDone_mild

theorem accept_cases (p : Part) (r : Inbound) : Calm p (p.accept r) ∨ Sensitive p (p.accept r) := by
  cases r with
  | queued x => exact .inl (enqueue_calm p x)
  | start => exact .inl (startControl_calm p)
  | halt => exact .inl (haltControl_calm p)
  | clearFault => exact .inr (.clearFault p)
  | binEmptied n => exact .inl (binEmptied_calm p n)
  | query => exact .inl (status_calm p)

theorem takeByte_cases (p : Part) (b : Byte) :
    Calm p (p.takeByte b) ∨ Sensitive p.toHunt (p.takeByte b) := by
  unfold Part.takeByte
  split
  · exact .inl (setFramer_calm p _)
  · exact .inl ((setFramer_calm p _).trans (drop_calm _ _))
  · exact .inl ((setFramer_calm p _).trans (drop_calm _ _))
  · exact (accept_cases p.toHunt _).imp (setFramer_calm p .hunt).trans id

/-- The own effect of a command: quiet enough for every promise, or one of the few that need more. -/
theorem ownEffect_cases (p : Part) (c : Instr) :
    (∃ l, c = .powerOnReset l ∨ c = .controllerReset l) ∨ KeepsAll p (ownEffect c p)
    ∨ ∃ r, Calm p r ∧ (r = p ∨ r = p.toHunt) ∧ Sensitive r (ownEffect c p) := by
  have hhunt : Calm p p.toHunt := setFramer_calm p .hunt
  have hcalm : ∀ {x : Part}, Calm p x → (∃ l, c = .powerOnReset l ∨ c = .controllerReset l) ∨ KeepsAll p x
      ∨ ∃ r, Calm p r ∧ (r = p ∨ r = p.toHunt) ∧ Sensitive r x := fun h => .inr (.inl h.all)
  have hall : ∀ {e : Part → Option Part}, (∀ q, e p = some q → KeepsAll p q) →
      (∃ l, c = .powerOnReset l ∨ c = .controllerReset l) ∨ KeepsAll p (p.attempt e)
        ∨ ∃ r, Calm p r ∧ (r = p ∨ r = p.toHunt) ∧ Sensitive r (p.attempt e) := fun h => .inr (.inl (.attempt h))
  have hevent : ∀ {e : Part → Option Part}, (∀ q, e p = some q → Calm p q) →
      (∃ l, c = .powerOnReset l ∨ c = .controllerReset l) ∨ KeepsAll p (p.attempt e)
        ∨ ∃ r, Calm p r ∧ (r = p ∨ r = p.toHunt) ∧ Sensitive r (p.attempt e) := fun h => hall fun q hq => (h q hq).all
  cases c with
  | powerOnReset l => exact .inl ⟨l, .inl rfl⟩
  | controllerReset l => exact .inl ⟨l, .inr rfl⟩
  | sheetOrder o => exact hcalm (hhunt.trans (enqueue_calm _ _))
  | stop => exact hcalm (hhunt.trans (enqueue_calm _ _))
  | purge => exact hcalm (hhunt.trans (enqueue_calm _ _))
  | load l => exact hcalm (takeLoad_calm p l)
  | start => exact hcalm (hhunt.trans (startControl_calm _))
  | halt => exact hcalm (hhunt.trans (haltControl_calm _))
  | clearFault => exact .inr (.inr ⟨_, hhunt, .inr rfl, .clearFault _⟩)
  | binEmptied n => exact hcalm (hhunt.trans (binEmptied_calm _ n))
  | query => exact hcalm (hhunt.trans (status_calm _))
  | droppedRecord c => exact hcalm (hhunt.trans (drop_calm _ c))
  | groupAdmission => exact hall fun _ h => (groupAdmission_roomed h).all
  | brokenFromStart => exact hall fun _ h => (brokenFromStart_roomed h).all
  | furtherOrderPick => exact hall fun _ h => (furtherOrderPick_roomed h).all
  | discardedAsUnfed => exact hall fun _ h => (discardedAsUnfed_roomed h).all
  | orphan => exact hevent fun _ => orphanTaken_calm
  | stopTaken => exact hevent fun _ => stopTaken_calm
  | purgeTaken => exact hevent fun _ => purgeTaken_calm
  | liveLoadTaken => exact hall fun _ => liveLoadTaken_all
  | lockedLoadTaken => exact hall fun _ => lockedLoadTaken_all
  | pendingLoadApplied => exact hall fun _ => pendingLoadApplied_all
  | stagingCoveredEdge t => exact hcalm (stagingCovered_calm p t)
  | stagingUncoveredEdge t => exact hcalm (stagingUncovered_calm p t)
  | pathCoveredEdge x => exact hcalm (pathCovered_calm p x)
  | pathUncoveredEdge x => exact .inr (.inr ⟨p, .refl p, .inl rfl, .uncovered p x⟩)
  | drawerOpening t => exact hcalm (openDrawer_calm p t)
  | drawerClosing t => exact hcalm (closeDrawer_calm p t)
  | paperSensorEdge t which active => exact hcalm (paperEdge_calm p t which active)
  | pickDeadline t => exact hevent fun _ => pickDeadline_calm
  | stallEnd => exact hevent fun _ => stallEnd_calm
  | pitchExpiry => exact hevent fun _ => pitchExpiry_calm
  | cadencePulse => exact hcalm (cadencePulse_calm p)
  | cadenceLoss => exact hevent fun _ => cadenceLoss_calm
  | lateLimitReached n => exact hevent fun _ => lateLimit_calm
  | stall n x => exact hevent fun _ => stallAt_calm
  | gateRelease g n => exact hevent fun _ => gateRelease_calm
  | conversionStart n => exact hevent fun _ => conversionStart_calm
  | conversionCompletion v => exact hcalm (conversionDone_calm p v)
  | readyAnswer n side => exact hcalm (readyAnswer_calm p n side)
  | declineAnswer n side => exact hcalm (declineAnswer_calm p n side)
  | parked => exact hcalm (parked_calm p)
  | parkDeadline => exact hevent fun _ => parkDeadline_calm
  | setEjectStart => exact hall fun _ h => (setEjectStart_roomed h).all
  | ejectDone => exact .inr (.inr ⟨p, .refl p, .inl rfl, .ejected p⟩)
  | ejectTimeout => exact hevent fun _ => ejectTimeout_calm
  | binDoorOpening b => exact hcalm (openBin_calm p b)
  | binDoorClosing b => exact hcalm (closeBin_calm p b)
  | fullSensorEdge b active => exact hcalm (fullEdge_calm p b active)
  | purgeDoorOpening => exact hcalm (openPurge_calm p)
  | purgeDoorClosing => exact hcalm (closePurge_calm p)
  | coverOpening => exact hcalm (openCover_calm p)
  | coverClosing => exact hcalm (closeCover_calm p)
  | powerWarnAsserted => exact .inr (.inr ⟨p, .refl p, .inl rfl, .powerWarn p⟩)
  | powerWarnCleared => exact hcalm (clearPowerWarn_calm p)
  | warmupEnd => exact hevent fun _ => warmupEnd_calm
  | drainEnd => exact hevent fun _ => drainEnd_calm
  | runoutEnd => exact hevent fun _ => runoutEnd_calm
  | runEnd => exact hevent fun _ => runEndReached_calm
  | groupResolution => exact hevent fun _ => groupResolution_calm
  | returnReadyAsserted => exact hcalm (setReturnReady_calm p true)
  | returnReadyCleared => exact hcalm (setReturnReady_calm p false)
  | transmissionComplete => exact .inr (.inr ⟨p, .refl p, .inl rfl, .transmitted p⟩)
  | startDelimiter b =>
    rcases takeByte_cases p b with h | h
    · exact hcalm h
    · exact .inr (.inr ⟨_, hhunt, .inr rfl, h⟩)

/-! ### The events of a tick -/

theorem clockEvent_calm {e : Part → Option Part} (h : ClockEvent e) (hq : e p = some q) : Calm p q := by
  cases h with
  | pitchExpiry => exact pitchExpiry_calm hq
  | pickDeadline t => exact pickDeadline_calm hq
  | lateLimit n => exact lateLimit_calm hq
  | stallAt n x => exact stallAt_calm hq
  | gateRelease g n => exact gateRelease_calm hq
  | conversionStart n => exact conversionStart_calm hq
  | parkDeadline => exact parkDeadline_calm hq
  | ejectTimeout => exact ejectTimeout_calm hq
  | cadenceLoss => exact cadenceLoss_calm hq
  | warmupEnd => exact warmupEnd_calm hq
  | runEndReached => exact runEndReached_calm hq

theorem fire_all {e : Part → Option Part} (h : ClockEvent e) (p : Part) : KeepsAll p (p.fire e) := by
  unfold Part.fire
  split
  · exact .refl p
  · rename_i q hq
    exact (clockEvent_calm h hq).all.trans (close_all q)

theorem foldl_fire_all (l : List (Part → Option Part)) (h : ∀ e ∈ l, ClockEvent e) :
    ∀ p : Part, KeepsAll p (l.foldl Part.fire p) := by
  induction l with
  | nil => exact fun p => .refl p
  | cons e l ih =>
    exact fun p => (fire_all (h e (List.mem_cons_self ..)) p).trans (ih (fun x hx => h x (List.mem_cons_of_mem _ hx)) _)

theorem fireAll_all (p : Part) : KeepsAll p p.fireAll := foldl_fire_all _ (fun _ => clockEvent_of_mem) p

end
end Sys2Proof.Machine

namespace Sys2Proof.Machine

section
variable {p q : Part}

theorem pitchInRange_iff (p : Part) : p.PitchInRange ↔
    (p.tables.parameters = none → p.arbiter.pitch = 0 ∧ p.arbiter.expiryDue = false)
    ∧ ∀ s, p.tables.parameters = some s → p.arbiter.pitch < s.pitch := by
  unfold Part.PitchInRange
  cases p.tables.parameters <;> simp

/-! ### The resets (R174) -/

theorem afterReset_agrees (l : Lines) (k : Clock) (v : Tables) (b : PerBin Bin) (n : Nat) :
    (p.afterReset l k v b n).TransportAgrees := by
  have hdeadline : ∀ t, ((p.afterReset l k v b n).feeders.get t).deadline = none := fun t =>
    congrArg Feeder.deadline (PerTray.get_map Feeder.fromLines l.trays t)
  refine ⟨⟨rfl, rfl, fun r hr => ?_, fun e => nomatch e⟩, ?_⟩
  · cases hr
    rfl
  · exact Part.AtRest.timedAgrees (x := .halted) ⟨rfl, rfl, rfl, rfl, rfl, rfl, fun s hs => (nomatch hs), hdeadline⟩
      rfl rfl

theorem afterReset_bounded (l : Lines) (k : Clock) (v : Tables) (b : PerBin Bin) (n : Nat) :
    (p.afterReset l k v b n).Bounded :=
  ⟨Nat.zero_le _, (by decide : 2 ≤ 64), (by decide : 0 < 32), Nat.zero_le _, Nat.zero_le _, Nat.zero_le _,
    Nat.zero_le _, Nat.zero_le _,
    Nat.zero_le _, fun e => nomatch e⟩

/-- A reset keeps the tables that it leaves loaded. -/
theorem afterReset_good (l : Lines) (k : Clock) (b : PerBin Bin) (n : Nat) {x : Part} (h : x.TablesHold) :
    (p.afterReset l k x.tables b n).TablesGood := by
  obtain ⟨hg, hp, hm, hr, hb, hx, hs, -⟩ := h
  refine ⟨⟨hg, hp, hm, hr, hb, hx, hs, rfl⟩, fun e => absurd rfl e, fun e => ?_⟩
  rcases e with e | e | e | e <;> cases e

theorem afterReset_pitchInRange (l : Lines) (k : Clock) (b : PerBin Bin) (n : Nat) {x : Part} (h : x.TablesHold) :
    (p.afterReset l k x.tables b n).PitchInRange := by
  refine (pitchInRange_iff _).2 ⟨fun _ => ⟨rfl, rfl⟩, fun s hs => ?_⟩
  exact Nat.lt_of_lt_of_le (Nat.succ_pos 399) (pitch_pos (h.parameters hs))

theorem powerOn_keeps (p : Part) (l : Lines) : Keeps p (p.powerOn l) :=
  ⟨fun _ => afterReset_bounded .., fun _ => afterReset_agrees ..,
    fun _ _ => afterReset_good (x := State.reset.toPart) _ _ _ _ resetKeepsThePromises.2.2.2.1,
    fun _ _ _ => afterReset_pitchInRange (x := State.reset.toPart) _ _ _ _ resetKeepsThePromises.2.2.2.1⟩

theorem controllerReset_keeps (p : Part) (l : Lines) : Keeps p (p.controllerReset l) :=
  ⟨fun _ => afterReset_bounded .., fun _ => afterReset_agrees .., fun _ h => afterReset_good (x := p) _ _ _ _ h.1,
    fun _ h _ => afterReset_pitchInRange (x := p) _ _ _ _ h.1⟩

/-! ### Every step -/

theorem ownEffect_keeps (p : Part) (c : Instr) : Keeps p (ownEffect c p) := by
  rcases ownEffect_cases p c with ⟨l, rfl | rfl⟩ | h | ⟨r, hr, -, h⟩
  · exact powerOn_keeps p l
  · exact controllerReset_keeps p l
  · exact h.toKeeps
  · exact (hr.toMild.trans h.mild).keeps

theorem countPitch_none (h : p.tables.parameters = none) : p.countPitch = p := by
  unfold Part.countPitch
  rw [h]

theorem countPitch_some {s : ParameterSet} (h : p.tables.parameters = some s) :
    p.countPitch = if p.arbiter.pitch + 1 < s.pitch
      then { p with arbiter := { p.arbiter with pitch := p.arbiter.pitch + 1 } }
      else { p with arbiter := { p.arbiter with pitch := 0, expiryDue := true } } := by
  unfold Part.countPitch
  rw [h]

theorem countPitch_pitchInRange (h : p.PitchInRange) : p.countPitch.PitchInRange := by
  cases hs : p.tables.parameters with
  | none => rwa [countPitch_none hs]
  | some s =>
    have hlt := ((pitchInRange_iff p).1 h).2 s hs
    rw [countPitch_some hs, pitchInRange_iff]
    split
    · rename_i hnext
      exact ⟨fun e => (nomatch hs.symm.trans e), fun x e => by cases hs.symm.trans e; exact hnext⟩
    · exact ⟨fun e => (nomatch hs.symm.trans e), fun x e => by cases hs.symm.trans e; exact Nat.zero_lt_of_lt hlt⟩

/-- The pitch counter's end of a tick changes the arbiter alone. -/
theorem countPitch_eq (p : Part) :
    ∃ n e, p.countPitch = { p with arbiter := { p.arbiter with pitch := n, expiryDue := e } } := by
  unfold Part.countPitch
  split
  · exact ⟨p.arbiter.pitch, p.arbiter.expiryDue, rfl⟩
  · split
    · exact ⟨_, p.arbiter.expiryDue, rfl⟩
    · exact ⟨0, true, rfl⟩

theorem endTick_eq (p : Part) :
    ∃ n e, p.endTick = { p with
      clock := { p.clock.divide with tick := p.clock.tick + 1 }, 
      arbiter := { p.arbiter with pitch := n, expiryDue := e } } :=
  countPitch_eq _

theorem divide_watch (k : Clock) : k.divide.watchArmed = k.watchArmed ∧ k.divide.cadenceLost = k.cadenceLost := by
  unfold Clock.divide
  split <;> exact ⟨rfl, rfl⟩

theorem endTick_keeps (p : Part) : Keeps p p.endTick := by
  obtain ⟨n, e, he⟩ := endTick_eq p
  refine ⟨fun h => by rw [he]; exact h, fun ha => ?_, fun _ hg => by rw [he]; exact hg, fun _ _ hp => ?_⟩
  · obtain ⟨hcap, hdrain, hwarm, hrun, hreached, hwatch, hrest⟩ := ha
    rw [he]
    refine ⟨hcap, hdrain, hwarm, hrun, hreached, fun e' => ?_, hrest⟩
    show _ ∧ p.clock.divide.cadenceLost = false
    rw [(divide_watch p.clock).2]
    exact hwatch ((divide_watch p.clock).1.symm.trans e')
  · exact countPitch_pitchInRange (p := { p with clock := { p.clock.divide with tick := p.clock.tick + 1 } }) hp

theorem tick_keeps (p : Part) : Keeps p p.tick :=
  ((start_calm p).toMild.keeps.trans (fireAll_all _).toKeeps).trans (endTick_keeps _)

/-- What every step keeps, whatever the command. -/
theorem step_keeps {s t : State} (h : step s = .next t) : Keeps s.toPart t.toPart := by
  rcases step_cases h with ⟨c, hc⟩ | ⟨-, rfl⟩
  · rw [hc]
    exact ((start_calm _).toMild.keeps.trans (ownEffect_keeps _ c)).trans (close_all _).toKeeps
  · exact tick_keeps s.toPart

/-- Settles O9, as one of the promises that every step keeps. -/
theorem stepKeepsTransport : Obligations.StepKeepsTransport := by
  intro s t ha h
  exact (step_keeps h).agrees ha

/-- Settles O10, as one of the promises that every step keeps. -/
theorem stepKeepsTables : Obligations.StepKeepsTables := by
  intro s t ha ht hp hl h
  have hgood := (step_keeps h).good ha ⟨ht, hl⟩
  exact ⟨hgood.1, (step_keeps h).pitchInRange ha ⟨ht, hl⟩ hp, hgood.2⟩

end
end Sys2Proof.Machine

namespace Sys2Proof.Machine

section
variable {p q : Part} {l l' : List GroupKey}

/-! ### Counts that do not rise -/

/-- The counts of Part.Ranged, none of them higher. -/
structure Shrinks (p q : Part) : Prop where
  loop : q.loop.length ≤ p.loop.length
  second : q.arbiter.pendingSecond ≤ p.arbiter.pendingSecond
  set : q.acc.sheets.length ≤ p.acc.sheets.length
  bins : q.stacker.bins = p.stacker.bins
  purgeStacked : q.stacker.purgeStacked = p.stacker.purgeStacked

theorem Shrinks.refl (p : Part) : Shrinks p p := ⟨Nat.le_refl _, Nat.le_refl _, Nat.le_refl _, rfl, rfl⟩

theorem Shrinks.trans {p q r : Part} (h : Shrinks p q) (k : Shrinks q r) : Shrinks p r :=
  ⟨k.loop.trans h.loop, k.second.trans h.second, k.set.trans h.set, k.bins.trans h.bins,
    k.purgeStacked.trans h.purgeStacked⟩

theorem Shrinks.foldl {α : Type} {f : Part → α → Part} (hf : ∀ p x, Shrinks p (f p x)) (l : List α) :
    ∀ p, Shrinks p (l.foldl f p) := by
  induction l with
  | nil => exact fun p => .refl p
  | cons x l ih => exact fun p => (hf p x).trans (ih _)

/-- The ranges hold after a mild change that raises no count. -/
theorem Part.Rooms.of_shrinks (r : p.Rooms) (h : Mild p q) (hs : Shrinks p q) (ho : q.RoomsOwned) : q.Rooms where
  loop := hs.loop.trans r.loop
  second := hs.second.trans r.second
  set := hs.set.trans r.set
  stacked b := by rw [hs.bins]; exact r.stacked b
  purgeStacked := by rw [hs.purgeStacked]; exact r.purgeStacked
  fraction := h.fraction ▸ r.fraction
  spdFrac := h.spdFrac ▸ r.spdFrac
  pending c e := r.pending c (by rw [← h.pendingLoad, e])
  owned := ho

theorem breakGroup_shrinks (p : Part) (k : GroupKey) (r : BreakReason) : Shrinks p (p.breakGroup k r) := by
  have h := breakGroup_leaves p k r
  exact ⟨by rw [h.loop], by rw [h.arbiter], by rw [h.acc], h.bins, h.purgeStacked⟩

theorem breakOpen_shrinks (p : Part) (r : BreakReason) : Shrinks p (p.breakOpen r) := by
  unfold Part.breakOpen
  split
  · exact .refl p
  · exact breakGroup_shrinks p _ r

theorem breakAll_shrinks (p : Part) (keys : List GroupKey) (r : BreakReason) : Shrinks p (p.breakAll keys r) :=
  .foldl (fun p k => breakGroup_shrinks p k r) _ p

theorem removeSheet_shrinks (p : Part) (s : Sheet) : Shrinks p (p.removeSheet s) := by
  refine ⟨List.length_filter_le .., ?_, Nat.le_refl _, rfl, rfl⟩
  show (if s.route = some .freshLoop then p.arbiter.pendingSecond - 1 else p.arbiter.pendingSecond) ≤ _
  split
  · exact Nat.sub_le _ _
  · exact Nat.le_refl _

theorem removeSheets_shrinks (p : Part) (l : List Sheet) : Shrinks p (p.removeSheets l) :=
  .foldl removeSheet_shrinks l p

theorem clearSet_shrinks (p : Part) : Shrinks p p.clearSet :=
  ⟨Nat.le_refl _, Nat.le_refl _, Nat.zero_le _, rfl, rfl⟩

theorem removeSet_shrinks (p : Part) : Shrinks p p.removeSet := by
  unfold Part.removeSet
  split
  · exact clearSet_shrinks p
  · exact ⟨Nat.le_refl _, Nat.le_refl _, Nat.zero_le _, rfl, rfl⟩

theorem sweep_shrinks (p : Part) : Shrinks p p.sweep := by
  unfold Part.sweep
  dsimp only
  split
  · exact (removeSheets_shrinks p _).trans (removeSet_shrinks _)
  · exact removeSheets_shrinks p _

/-! ### Rooms through a sweep and its breaks -/

theorem Part.RoomsOwnedBut.weaken (h : p.RoomsOwnedBut l) (hl : ∀ j ∈ l, j ∈ l') : p.RoomsOwnedBut l' :=
  h.shrink fun _ _ hm => hl _ hm

/-- A change of a group that may be hurt leaves its room where it was. -/
theorem Part.RoomsOwnedBut.mapHurt (h : p.RoomsOwnedBut l) {k : GroupKey} (hk : k ∈ l) {f : Group → Group}
    (hf : ∀ g, (f g).key = g.key) (hs : ∀ g, (f g).state = g.state) (hc : ∀ g, g.Capped → (f g).Capped) :
    (p.mapGroup k f).RoomsOwnedBut l :=
  h.mapGroup k (fun _ => .inr) hf (fun g _ _ => hc g) fun _ _ _ g _ _ hb _ =>
    ⟨by rw [hs]; exact hb, fun hn => absurd hk hn⟩

theorem removeSheet_rooms (s : Sheet) (h : p.RoomsOwnedBut l) (hs : s.group ∈ l) : (p.removeSheet s).RoomsOwnedBut l :=
  roomsOwnedBut_congr rfl rfl (h.mapHurt hs (f := fun g => { g with inPath := g.inPath - 1, removed := g.removed + 1 })
    (fun _ => rfl) (fun _ => rfl) fun _ => id)

theorem removeSheets_rooms (sheets : List Sheet) : ∀ {p : Part}, p.RoomsOwnedBut l → (∀ s ∈ sheets, s.group ∈ l) →
    (p.removeSheets sheets).RoomsOwnedBut l := by
  induction sheets with
  | nil => exact fun h _ => h
  | cons s sheets ih =>
    exact fun h hs => ih (removeSheet_rooms s h (hs s (List.mem_cons_self ..))) fun x hx =>
      hs x (List.mem_cons_of_mem _ hx)

/-- The set removed from the accumulator is that of a group that may be hurt. -/
theorem removeSet_rooms (h : p.RoomsOwnedBut l) (hs : ∀ k, p.acc.setGroup = some k → k ∈ l) :
    p.removeSet.RoomsOwnedBut l := by
  unfold Part.removeSet
  split
  · exact h
  · rename_i k hk
    exact roomsOwnedBut_congr rfl rfl (h.mapHurt (hs k hk)
      (f := fun g => { g with inSet := g.inSet - p.acc.sheets.length, removed := g.removed + p.acc.sheets.length })
      (fun _ => rfl) (fun _ => rfl) fun _ => id)

theorem foldl_breakGroup_rooms (r : BreakReason) (keys : List GroupKey) : ∀ {p : Part}, p.RoomsOwnedBut keys →
    (keys.foldl (fun q k => q.breakGroup k r) p).RoomsOwned := by
  induction keys with
  | nil => exact fun h => h
  | cons k keys ih => exact fun h => ih (breakGroup_rooms r h fun j hj => List.mem_cons.1 hj)

/-- After break requests for every group that may be hurt, the rooms are those of groups with every sheet in the part.
-/
theorem breakAll_rooms {keys : List GroupKey} (r : BreakReason) (h : p.RoomsOwnedBut l) (hl : ∀ j ∈ l, j ∈ keys) :
    (p.breakAll keys r).RoomsOwned := by
  refine foldl_breakGroup_rooms r _ (h.shrink fun a ha hm => ?_)
  obtain ⟨-, g, hg, hgk, -⟩ := h.2.2.2 a ha
  rw [List.mem_filter, ← hgk]
  exact ⟨List.mem_map_of_mem hg, List.contains_iff_mem.2 (hgk ▸ hl _ hm)⟩

theorem breakOpen_rooms (r : BreakReason) (h : p.RoomsOwnedBut l) : (p.breakOpen r).RoomsOwnedBut l := by
  unfold Part.breakOpen
  split
  · exact h
  · exact breakGroup_rooms r h fun _ => .inr

/-- The entry to RUNOUT: every group that lost a sheet is broken (R172). -/
theorem shedFresh_rooms (fresh : List Sheet) (h : p.RoomsOwned) : (p.shedFresh fresh).RoomsOwned :=
  breakAll_rooms .power (breakOpen_rooms .power (removeSheets_rooms (l := fresh.map Sheet.group) fresh
    (h.weaken fun _ hj => nomatch hj) fun _ hs => List.mem_map_of_mem hs)) fun _ => id

theorem removeSheets_acc (sheets : List Sheet) : ∀ p : Part, (p.removeSheets sheets).acc = p.acc := by
  induction sheets with
  | nil => exact fun _ => rfl
  | cons s sheets ih => exact fun p => ih (p.removeSheet s)

/-- The sweep: every group that lost a sheet is broken (R167). -/
theorem swept_rooms (h : p.RoomsOwned) (hset : p.acc.sheets = [] → p.acc.setGroup = none) :
    (p.sweep.jamBreaks p.sweptGroups).RoomsOwned := by
  refine breakAll_rooms (l := p.sweptGroups) .jam ?_ fun j hj => List.mem_append_left _ hj
  have hsheets : (p.removeSheets p.track.sheets).RoomsOwnedBut p.sweptGroups :=
    removeSheets_rooms p.track.sheets (h.weaken fun _ hj => nomatch hj) fun s hs =>
      List.mem_append_left _ (List.mem_map_of_mem hs)
  unfold Part.sweep
  dsimp only
  split
  · rename_i hc
    refine removeSet_rooms hsheets fun k hk => List.mem_append_right _ ?_
    rw [removeSheets_acc] at hk
    rw [if_pos ⟨hc, fun e => by rw [hset e] at hk; cases hk⟩, hk]
    exact List.mem_singleton_self k
  · exact hsheets

end
end Sys2Proof.Machine

namespace Sys2Proof.Machine

section
variable {p q : Part}

/-! ### The account that the ranges rest on -/

/-- What the departures of sheets from the path rest on: the ranges, and the accounts of bills, room and loop. -/
structure Part.Accounts (p : Part) : Prop where
  rooms : p.Rooms
  binMap : p.tables.binMap.all (fun m => binMapOk m.entries) = true
  accepted : ∀ g ∈ p.groups.entries, g.accepted ≤ 64
  bills : p.BillsAccounted
  placed : p.SheetsPlaced
  whole : p.BillsWhole
  room : p.RoomKept
  loop : p.LoopCounted

theorem spdFrac_le_of_pending (ht : p.TablesHold) {c : List Nat} (h : p.link.pendingLoad = some (.parameters c)) :
    (ParameterSet.mk c).spdFrac ≤ 15 := by
  obtain ⟨-, -, -, -, -, -, -, hpending⟩ := ht
  rw [h] at hpending
  exact spdFrac_le (Bool.and_eq_true_iff.1 hpending).1

/-- The room of every allowance entry is owned as the bills' account says (R29, R142, R144). -/
theorem roomsOwned_of_bills (hr : p.Ranged) (hg : p.GroupsAgree) (hb : p.BillsAccounted) (hw : p.BillsWhole) :
    p.RoomsOwned := by
  obtain ⟨hkeys, hentry, -⟩ := hg
  obtain ⟨hsum, -⟩ := hb
  obtain ⟨hsound, -, hany, hnodup, hallow, -⟩ := hw
  obtain ⟨-, -, -, -, hcounts, -⟩ := hr
  refine ⟨hkeys.imp fun h => Nat.ne_of_lt h, fun g hg => ⟨(hentry g hg).1, fun e => ?_⟩, hnodup,
    fun a ha => ⟨hcounts a ha, ?_⟩⟩
  · obtain ⟨hadmitting, -⟩ := (hentry g hg).2
    exact ⟨(hadmitting e).2.2, (hadmitting e).2.1⟩
  · obtain ⟨g, hg, hgk, -⟩ := hallow a ha
    have hroom := hany g hg
    rw [(List.any_eq_true (p := fun a => a.group == g.key)).2 ⟨a, ha, beq_iff_eq.2 hgk.symm⟩] at hroom
    simp only [Bool.true_eq, Bool.and_eq_true, Bool.not_eq_true', beq_iff_eq] at hroom
    obtain ⟨hunbroken, hdelivered⟩ := hroom
    obtain ⟨hpurged, hremoved, hunfed, -⟩ := hsound g hg hunbroken
    obtain ⟨-, -, hpos, -⟩ := (hentry g hg).2
    obtain ⟨haccepted, -⟩ := hsum g hg
    exact ⟨g, hg, hgk, hunbroken, fun _ => ⟨hunbroken, by omega, hpos⟩⟩

theorem Part.Sound.accounts (h : p.Sound) : p.Accounts := by
  obtain ⟨-, hr, -, ht, -, -, -, hg, hb, -, hp, hw, -, -, hk, hl⟩ := h
  obtain ⟨hloop, hsecond, hset, -, -, hstacked, hpurge, hfraction, hspd⟩ := id hr
  exact
    { rooms := ⟨hloop, hsecond, hset, hstacked, hpurge, hfraction, hspd, fun c e => spdFrac_le_of_pending ht e,
        roomsOwned_of_bills hr hg hb hw⟩
      binMap := ht.2.2.2.2.1
      accepted := fun g hm => (hg.2.1 g hm).2.2.2.2.1
      bills := hb, placed := hp, whole := hw, room := hk, loop := hl }

theorem Part.Accounts.start (h : p.Accounts) : p.start.Accounts :=
  { h with rooms := (start_calm p).all.rooms h.rooms }

theorem Part.Accounts.toHunt (h : p.Accounts) : p.toHunt.Accounts :=
  { h with rooms := (setFramer_calm p .hunt).all.rooms h.rooms }

/-! ### Capacities (R140) -/

theorem capacity_le (h : p.tables.binMap.all (fun m => binMapOk m.entries) = true) (b : BinId) :
    p.capacity b ≤ 4000 := by
  unfold Part.capacity
  split
  · exact Nat.zero_le _
  · rename_i m hm
    rw [hm] at h
    split
    · rename_i c x hc
      have := List.all_eq_true.1 (Bool.and_eq_true_iff.1 h).2 _ (List.mem_of_getElem? hc)
      simp only [BinMapEntry.inRange, Bool.and_eq_true, decide_eq_true_eq] at this
      exact this.1.1.2
    · exact Nat.zero_le _

theorem purgeCapacity_le (h : p.tables.binMap.all (fun m => binMapOk m.entries) = true) : p.purgeCapacity ≤ 1000 := by
  unfold Part.purgeCapacity
  split
  · exact Nat.zero_le _
  · rename_i m hm
    rw [hm] at h
    split
    · rename_i c hc
      rw [List.getD_eq_getElem?_getD] at hc
      cases he : m.entries[14]? with
      | none => rw [he] at hc; cases hc; exact Nat.zero_le _
      | some x =>
        rw [he] at hc
        have := List.all_eq_true.1 (Bool.and_eq_true_iff.1 h).2 _ (List.mem_of_getElem? he)
        rw [show x = .purge c from hc] at this
        simp only [BinMapEntry.inRange, BinMapEntry.noConflict, Bool.and_eq_true, decide_eq_true_eq] at this
        exact this.1.2
    · exact Nat.zero_le _

/-! ### Facts about one departure -/

/-- A fold that each time keeps its value or takes the element in hand ends with an element, or where it began. -/
theorem mem_of_foldl_eq_some {α : Type} {f : Option α → α → Option α}
    (hf : ∀ b y x, f b y = some x → x = y ∨ b = some x) (l : List α) :
    ∀ b x, l.foldl f b = some x → x ∈ l ∨ b = some x := by
  induction l with
  | nil => exact fun _ _ h => .inr h
  | cons y l ih =>
    intro b x h
    rcases ih _ x h with hm | hb
    · exact .inl (List.mem_cons_of_mem _ hm)
    · exact (hf b y x hb).imp (fun (e : x = y) => e ▸ List.mem_cons_self ..) id

theorem mem_of_lowestLaunch {l : List Sheet} {s : Sheet} (h : lowestLaunch l = some s) : s ∈ l := by
  refine (mem_of_foldl_eq_some (fun b y x hx => ?_) l none s h).resolve_right fun e => nomatch e
  cases b with
  | none => cases hx; exact .inl rfl
  | some b =>
    dsimp only at hx
    split at hx <;> cases hx
    · exact .inl rfl
    · exact .inr rfl

theorem mem_of_covering {x : Sensor} {s : Sheet} (h : p.covering x = some s) :
    s ∈ p.track.sheets ∧ s.coversAt x = true :=
  List.mem_filter.1 (mem_of_lowestLaunch h)

/-- A broken bill holds no room (R35). -/
theorem Part.Accounts.no_room_of_broken (h : p.Accounts) {g : Group} (hg : g ∈ p.groups.entries)
    (hb : g.state.broken = true) : ∀ a ∈ p.stacker.allowances, a.group ≠ g.key := by
  intro a ha e
  have hroom := h.whole.2.2.1 g hg
  rw [hb, (List.any_eq_true (p := fun a => a.group == g.key)).2 ⟨a, ha, beq_iff_eq.2 e⟩] at hroom
  cases hroom

theorem Part.Accounts.mem_sheetsOf {s : Sheet} (hs : s ∈ p.track.sheets) {k : GroupKey} (hk : s.group = k) :
    s ∈ p.sheetsOf k := List.mem_filter.2 ⟨hs, beq_iff_eq.2 hk⟩

/-- A record in the path is counted there in its group's entry (R29). -/
theorem Part.Accounts.inPath_pos (h : p.Accounts) {s : Sheet} (hs : s ∈ p.track.sheets) {g : Group}
    (hg : g ∈ p.groups.entries) (hk : g.key = s.group) : 1 ≤ g.inPath := by
  rw [(h.bills.1 g hg).2.1]
  exact List.length_pos_of_mem (Part.Accounts.mem_sheetsOf hs hk.symm)

/-- The loop FIFO has room for a record that covers DL (R70, R118). -/
theorem Part.Accounts.loop_room (h : p.Accounts) {s : Sheet} (hs : s ∈ p.track.sheets)
    (hc : s.coversAt (.path .dl) = true) : p.loop.length ≤ 3 := by
  obtain ⟨-, hfour, hcount, -, hroute⟩ := h.loop
  have hmoving : s.state = .moving := by
    by_contra hne
    have hnone := (h.placed.1 s hs hne).2
    rw [Sheet.coversAt, hnone] at hc
    cases hc
  have hfresh : s.route = some .freshLoop := (hroute s hs).2.2.2.1 (.inr hc)
  have hpos : 0 < (p.track.sheets.filter fun s => s.route == some .freshLoop && s.state == .moving).length :=
    List.length_pos_of_mem (List.mem_filter.2 ⟨hs, by rw [hfresh, hmoving]; rfl⟩)
  omega

/-- The set list has room for a sheet that may join it (R128, R129). -/
theorem Part.Accounts.set_room (h : p.Accounts) {s : Sheet} (hs : s ∈ p.track.sheets)
    (hc : p.collides s.group = false) :
    p.acc.sheets.length ≤ 63 := by
  unfold Part.collides at hc
  rw [Bool.or_eq_false_iff] at hc
  cases hempty : p.acc.sheets.isEmpty with
  | true => rw [List.isEmpty_iff.1 hempty]; exact Nat.zero_le _
  | false =>
    have hset : p.acc.setGroup = some s.group := by simpa [hempty] using hc.2
    obtain ⟨g, hg, hk⟩ := h.bills.2.2.1 s hs
    obtain ⟨hsum, -, hin⟩ := h.bills.1 g hg
    have hpath := h.inPath_pos hs hg hk
    have hcap := h.accepted g hg
    rw [Part.setOf, if_pos (by rw [hset, hk])] at hin
    omega

/-- A record over PG is of a broken bill, and there is room for it (R35, R149). -/
theorem Part.Accounts.broken_of_purge (h : p.Accounts) {s : Sheet} (hs : s ∈ p.track.sheets)
    (hc : s.coversAt (.path .pg) = true) {g : Group} (hg : g ∈ p.groups.entries) (hk : g.key = s.group) :
    g.state.broken = true := by
  by_contra hb
  have hbound := (h.whole.1 g hg (Bool.eq_false_iff.2 hb)).2.2.2.2 s (Part.Accounts.mem_sheetsOf hs hk.symm)
  obtain ⟨-, -, -, hcover, -⟩ := hbound
  rw [hcover] at hc
  cases hc

theorem Part.Accounts.purge_room (h : p.Accounts) :
    p.stacker.purgeStacked + p.track.sheets.length + p.acc.sheets.length ≤ 1000 :=
  h.room.2.trans (purgeCapacity_le h.binMap)

end
end Sys2Proof.Machine

namespace Sys2Proof.Machine

section
variable {p q : Part}

/-! ### The ranges through a departure (R92, R119, R130, R132, R149) -/

theorem handOver_rooms (s : Sheet) (r : p.Rooms) (hl : p.loop.length ≤ 3) : (p.handOver s).Rooms :=
  { r with
    loop := (Nat.le_of_eq (List.length_append ..)).trans (Nat.succ_le_succ hl)
    owned := roomsOwnedBut_congr rfl rfl r.owned }

theorem joinSet_rooms {s : Sheet} (r : p.Rooms) (hset : p.collides s.group = false → p.acc.sheets.length ≤ 63)
    (hin : ∀ g ∈ p.groups.entries, g.key = s.group → 1 ≤ g.inPath) : (p.joinSet s).Rooms := by
  unfold Part.joinSet
  split
  · exact (raiseFor_calm p _ _ s).all.rooms r
  · rename_i hc
    refine { r with
      set := (Nat.le_of_eq (List.length_append ..)).trans (Nat.succ_le_succ (hset (Bool.eq_false_iff.2 hc)))
      owned := ?_ }
    refine Part.RoomsOwnedBut.mapGroup (l := []) (roomsOwnedBut_congr rfl rfl r.owned) s.group (fun _ h => nomatch h)
      (fun _ => rfl) (fun _ _ _ => id) fun a ha e g hg hk hb howed => ⟨hb, fun hn => ?_⟩
    obtain ⟨-, hsum, hpos⟩ := howed hn
    have := hin g hg hk
    exact ⟨hb, by dsimp only; omega, hpos⟩

theorem landInPurge_rooms {s : Sheet} (r : p.Rooms) (hpurge : p.stacker.purgeStacked + 1 ≤ 1000)
    (hno : ∀ a ∈ p.stacker.allowances, a.group ≠ s.group) : (p.landInPurge s).Rooms :=
  { r with
    purgeStacked := hpurge
    owned := Part.RoomsOwnedBut.mapGroup_other (roomsOwnedBut_congr rfl rfl r.owned) s.group (fun _ => rfl)
      (fun _ => id) hno }

theorem clearSet_rooms (r : p.Rooms) : p.clearSet.Rooms :=
  { r with set := Nat.zero_le _, owned := roomsOwnedBut_congr rfl rfl r.owned }

theorem landSet_rooms {e : Eject} (r : p.Rooms) (hpurge : p.stacker.purgeStacked + e.count ≤ 1000)
    (hno : ∀ k, p.acc.setGroup = some k → ∀ a ∈ p.stacker.allowances, a.group ≠ k) : (p.landSet e).Rooms := by
  unfold Part.landSet
  dsimp only
  split
  · exact clearSet_rooms { r with purgeStacked := hpurge, owned := roomsOwnedBut_congr rfl rfl r.owned }
  · rename_i k hk
    exact clearSet_rooms { r with
      purgeStacked := hpurge
      owned := Part.RoomsOwnedBut.mapGroup_other (roomsOwnedBut_congr rfl rfl r.owned) k (fun _ => rfl) (fun _ => id)
        (hno k hk) }

theorem setBin_rooms {b : BinId} {x : Bin} (r : p.Rooms) (hx : x.stacked ≤ 4000) : (p.setBin b x).Rooms := by
  rw [setBin_eq]
  refine { r with stacked := fun c => ?_, owned := roomsOwnedBut_congr rfl rfl r.owned }
  dsimp only
  rw [PerBin.get_set]
  split
  · exact hx
  · exact r.stacked c

theorem dropAllowance_rooms (k : GroupKey) (r : p.Rooms) : Part.Rooms { p with stacker := { p.stacker with
    allowances := p.stacker.allowances.filter fun a => !(a.group == k) } } := by
  obtain ⟨hkeys, hentry, hnodup, hallow⟩ := r.owned
  exact { r with owned := ⟨hkeys, hentry, (List.filter_sublist.map _).nodup hnodup, fun a ha =>
    hallow a (List.mem_of_mem_filter ha)⟩ }

theorem deliver_rooms {e : Eject} {b : BinId} (r : p.Rooms) (hbin : (p.stacker.bins.get b).stacked + e.count ≤ 4000) :
    (p.deliver e b).Rooms := by
  unfold Part.deliver
  split
  · exact clearSet_rooms (setBin_rooms r hbin)
  · rename_i g _
    have hdropped := dropAllowance_rooms g.key r
    have hset := setBin_rooms (b := b) (x := (p.stacker.bins.get b).afterDelivery e.count g.policy) hdropped hbin
    refine clearSet_rooms
      { hset with owned := hset.owned.mapGroup_other g.key (fun _ => rfl) (fun _ => id) fun a ha => ?_ }
    rw [setBin_eq] at ha
    simpa using (List.mem_filter.1 ha).2

/-! ### The sensitive commands keep the ranges -/

theorem pathUncovered_rooms (h : p.Accounts) (x : PathSensor) : (p.pathUncovered x).Rooms := by
  have r : (p.setPathLevel x false).Rooms := (setPathLevel_calm p x false).all.rooms h.rooms
  unfold Part.pathUncovered
  dsimp only
  split
  · split
    · exact (anomaly_calm _).all.rooms r
    · rename_i s hs
      obtain ⟨hm, hc⟩ := mem_of_covering hs
      split
      · exact (raiseFor_calm _ _ _ _).all.rooms r
      · have r' : ((p.setPathLevel x false).uncover s.seq (.path x)).Rooms := (uncover_calm _ _ _).all.rooms r
        cases x with
        | fx => exact (gates_calm _ _).all.rooms r'
        | xs => exact (gates_calm _ _).all.rooms r'
        | dl => exact handOver_rooms s r' (h.loop_room hm hc)
        | ac => exact joinSet_rooms r' (h.set_room hm) fun g hg hk => h.inPath_pos hm hg hk
        | pg =>
          have hroom := h.purge_room
          have hpos := List.length_pos_of_mem hm
          obtain ⟨g, hg, hk⟩ := h.bills.2.2.1 s hm
          refine landInPurge_rooms r' (show p.stacker.purgeStacked + 1 ≤ 1000 by omega) ?_
          rw [← hk]
          exact h.no_room_of_broken hg (h.broken_of_purge hm hc hg hk)
        | _ => exact r'
  · split
    · exact r
    · exact (anomaly_calm _).all.rooms r

/-- The set's group has its entry, and an eject in flight counts the whole set (R128). -/
theorem Part.Accounts.set_of_eject (h : p.Accounts) {e : Eject} (he : p.acc.eject = some e) :
    e.count = p.acc.sheets.length ∧ ∃ g ∈ p.groups.entries, p.acc.setGroup = some g.key
      ∧ g.inSet = p.acc.sheets.length := by
  obtain ⟨hsum, -, -, hset, hentry, heject, -⟩ := h.bills
  obtain ⟨hcount, hne⟩ := heject e he
  rw [List.isEmpty_eq_false_iff.2 hne] at hset
  obtain ⟨k, hk⟩ := Option.isSome_iff_exists.1 hset
  obtain ⟨g, hg, rfl⟩ := hentry k hk
  refine ⟨hcount, g, hg, hk, ?_⟩
  rw [(hsum g hg).2.2, Part.setOf, if_pos hk]

/-- The set delivered whole fits the room reserved for it in its bin (R131, R142). -/
theorem Part.Accounts.bin_room (h : p.Accounts) {g : Group} (hg : g ∈ p.groups.entries) {b : BinId}
    (hs : g.state = .closed) (hin : g.inSet = g.accepted) (hb : g.bin = some b) :
    (p.stacker.bins.get b).stacked + g.inSet ≤ 4000 := by
  obtain ⟨hsum, -⟩ := h.bills
  obtain ⟨-, -, hany, -, hallow, -⟩ := h.whole
  by_cases hempty : g.inSet = 0
  · rw [hempty]
    exact h.rooms.stacked b
  · have hdelivered : g.delivered = 0 := by
      have := (hsum g hg).1
      omega
    have hroom := hany g hg
    rw [hs, hdelivered, show (!GroupState.closed.broken && (0 : Nat) == 0) = true from rfl, List.any_eq_true] at hroom
    obtain ⟨a, ha, hak⟩ := hroom
    obtain ⟨x, hx, hxk, hxb, hxc⟩ := hallow a ha
    have e := h.rooms.owned.entry_unique hx hg (hxk.trans (eq_of_beq hak))
    subst e
    rw [if_pos hs] at hxc
    have hbin : a.bin = b := Option.some.inj (hxb.symm.trans hb)
    have hle : a.count ≤ p.reservedIn b :=
      List.le_sum_of_mem (List.mem_map_of_mem (List.mem_filter.2 ⟨ha, beq_iff_eq.2 hbin⟩))
    have hkept := (h.room.1 b).trans (capacity_le h.binMap b)
    omega

theorem ejectDone_rooms (h : p.Accounts) : p.ejectDone.Rooms := by
  unfold Part.ejectDone
  split
  · exact (anomaly_calm p).all.rooms h.rooms
  · rename_i e he
    obtain ⟨hcount, g, hg, hset, hin⟩ := h.set_of_eject he
    have htarget := h.whole.2.2.2.2.2.1 e he g hg hset
    split
    · exact (anomaly_calm p).all.rooms h.rooms
    · rename_i b hs ht
      rw [ht] at htarget
      obtain ⟨hclosed, hwhole, hbin⟩ := htarget
      have hroom := h.bin_room hg hclosed hwhole hbin
      exact deliver_rooms h.rooms (by rw [hcount, ← hin]; exact hroom)
    · rename_i hs ht
      rw [ht] at htarget
      have hroom := h.purge_room
      refine landSet_rooms h.rooms (by omega) fun k hk => ?_
      cases hset.symm.trans hk
      exact h.no_room_of_broken hg htarget

theorem transmissionDone_rooms (h : p.Accounts) (hq : p.transmissionDone = some q) : q.Rooms := by
  obtain ⟨l, hl, rfl | ⟨k, g, hk, hg, rfl⟩⟩ := transmissionDone_cases hq
  · exact (refilled_calm hl).all.rooms h.rooms
  · have r := (refilled_calm hl).all.rooms h.rooms
    have hm := mem_of_group? hg
    obtain ⟨hpath, hset⟩ := h.bills.2.2.2.2.2.2 g hm (by rw [group?_key hg]; exact hk)
    exact { r with owned := dropGroup_rooms r.owned (no_room_of_empty h.rooms.owned hm hpath hset) }

theorem shedFresh_shrinks (p : Part) (l : List Sheet) : Shrinks p (p.shedFresh l) :=
  ((removeSheets_shrinks p l).trans (breakOpen_shrinks _ _)).trans (breakAll_shrinks _ _ _)

theorem enterRunout_rooms (hs : p.ctl.state = .warmup ∨ p.ctl.state = .running ∨ p.ctl.state = .draining)
    (r : p.Rooms) : p.enterRunout.Rooms := by
  have r' := (runout_calm hs).all.rooms r
  rw [enterRunout_eq]
  exact r'.of_shrinks (shedFresh_body _ _).mild (shedFresh_shrinks _ _) (shedFresh_rooms _ r'.owned)

theorem assertPowerWarn_rooms (r : p.Rooms) : p.assertPowerWarn.Rooms := by
  have r' := (powerWarn_calm p true).all.rooms r
  unfold Part.assertPowerWarn
  dsimp only
  split
  case h_1 hs => exact enterRunout_rooms (.inl hs) r'
  case h_2 hs => exact enterRunout_rooms (.inr (.inl hs)) r'
  case h_3 hs => exact enterRunout_rooms (.inr (.inr hs)) r'
  case h_4 => exact r'

theorem swept_shrinks (p : Part) : Shrinks p.beforeSweep p.swept := by
  have h := (sweep_shrinks p.beforeSweep).trans
    (breakAll_shrinks _ (p.beforeSweep.sweptGroups ++ p.beforeSweep.sweep.planner.openGroup.toList) .jam)
  exact ⟨h.loop, h.second, h.set, h.bins, h.purgeStacked⟩

theorem recovering_rooms (h : p.Accounts) : p.recovering.Rooms := by
  have r : p.beforeSweep.Rooms ∧ (p.beforeSweep.acc = p.acc) := by
    obtain ⟨m, hm⟩ := beforeSweep_eq p
    rw [hm]
    exact ⟨{ h.rooms with owned := roomsOwnedBut_congr rfl rfl h.rooms.owned }, rfl⟩
  have howned := swept_rooms r.1.owned fun he => by
    obtain ⟨-, -, -, hset, -⟩ := h.bills
    rw [r.2] at he ⊢
    rw [he] at hset
    exact Option.isNone_iff_eq_none.1 (Option.isSome_eq_false_iff.1 hset)
  have hswept := r.1.of_shrinks (swept_body p).mild (swept_shrinks p) (roomsOwnedBut_congr rfl rfl howned)
  exact { hswept with owned := roomsOwnedBut_congr rfl rfl hswept.owned }

theorem clearFaultControl_rooms (h : p.Accounts) : p.clearFaultControl.Rooms := by
  rcases clearFaultControl_cases p with e | ⟨-, -, -, e⟩ <;> rw [e]
  · exact (refuse_calm p _).all.rooms h.rooms
  · exact ((testResidue_calm _).trans (testPurgeDoor_calm _)).all.rooms (recovering_rooms h)

theorem Sensitive.rooms (h : Sensitive p q) (ha : p.Accounts) : q.Rooms := by
  cases h with
  | clearFault => exact clearFaultControl_rooms ha
  | powerWarn => exact assertPowerWarn_rooms ha.rooms
  | uncovered x => exact pathUncovered_rooms ha x
  | ejected => exact ejectDone_rooms ha
  | transmitted =>
    unfold Part.attempt
    cases hq : p.transmissionDone with
    | none => exact ha.rooms
    | some q => exact transmissionDone_rooms ha hq

end
end Sys2Proof.Machine

namespace Sys2Proof.Machine

section
variable {p q : Part}

/-! ### The ranges through a reset and the end of a tick (R6, R150, R174) -/

theorem afterReset_rooms {l : Lines} {k : Clock} {v : Tables} {b : PerBin Bin} {n : Nat}
    (hb : ∀ c, (b.get c).stacked ≤ 4000) (hn : n ≤ 1000) (hf : k.fraction ≤ 15) (hs : k.spdFrac ≤ 15) :
    (p.afterReset l k v b n).Rooms where
  loop := Nat.zero_le _
  second := Nat.zero_le _
  set := Nat.zero_le _
  stacked c := by
    have h := hb c
    cases c <;> exact h
  purgeStacked := hn
  fraction := hf
  spdFrac := hs
  pending _ e := nomatch e
  owned := ⟨.nil, fun _ h => (nomatch h), .nil, fun _ h => nomatch h⟩

theorem powerOn_rooms (p : Part) (l : Lines) : (p.powerOn l).Rooms :=
  afterReset_rooms (fun c => by cases c <;> exact Nat.zero_le _) (Nat.zero_le _) (by decide) (by decide)

theorem controllerReset_rooms (l : Lines) (r : p.Rooms) : (p.controllerReset l).Rooms :=
  afterReset_rooms r.stacked r.purgeStacked r.fraction r.spdFrac

theorem divide_fraction (k : Clock) (hf : k.fraction ≤ 15) (hs : k.spdFrac ≤ 15) :
    k.divide.fraction ≤ 15 ∧ k.divide.spdFrac ≤ 15 := by
  unfold Clock.divide
  split
  · exact ⟨by dsimp only; omega, hs⟩
  · exact ⟨by dsimp only; omega, hs⟩

theorem endTick_rooms (r : p.Rooms) : p.endTick.Rooms := by
  obtain ⟨n, e, he⟩ := endTick_eq p
  obtain ⟨hfraction, hspd⟩ := divide_fraction p.clock r.fraction r.spdFrac
  rw [he]
  exact { r with fraction := hfraction, spdFrac := hspd, owned := roomsOwnedBut_congr rfl rfl r.owned }

/-! ### Every step -/

theorem ownEffect_rooms (c : Instr) (h : p.Accounts) : (ownEffect c p).Rooms := by
  rcases ownEffect_cases p c with ⟨l, rfl | rfl⟩ | k | ⟨r, -, hr | hr, k⟩
  · exact powerOn_rooms p l
  · exact controllerReset_rooms l h.rooms
  · exact k.rooms h.rooms
  · exact k.rooms (hr ▸ h)
  · exact k.rooms (hr ▸ h.toHunt)

theorem step_rooms {s t : State} (h : s.toPart.Accounts) (hst : step s = .next t) : t.toPart.Rooms := by
  rcases step_cases hst with ⟨c, hc⟩ | ⟨-, rfl⟩
  · rw [hc]
    exact (close_all _).rooms (ownEffect_rooms c h.start)
  · exact endTick_rooms ((fireAll_all _).rooms h.start.rooms)

/-- There is at most one allowance entry to a group, so no more than the Group Table holds (R142). -/
theorem Part.Rooms.ranged (r : p.Rooms) (hb : p.Bounded) : p.Ranged := by
  obtain ⟨-, -, hnodup, hallow⟩ := r.owned
  have hsub : p.stacker.allowances.map Allowance.group ⊆ p.groups.entries.map Group.key := by
    intro k hk
    obtain ⟨a, ha, rfl⟩ := List.mem_map.1 hk
    obtain ⟨-, g, hg, hgk, -⟩ := hallow a ha
    exact hgk ▸ List.mem_map_of_mem hg
  have hle := (hnodup.subperm hsub).length_le
  rw [List.length_map, List.length_map] at hle
  exact ⟨r.loop, r.second, r.set, hle.trans ((bounded_iff p).1 hb).2.1, fun a ha => (hallow a ha).1, r.stacked,
    r.purgeStacked, r.fraction, r.spdFrac⟩

/-- Settles O8: the sizes by what every command keeps, the ranges from the accounts of bills, room and loop that hold
before the step. -/
theorem stepKeepsBounds : Obligations.StepKeepsBounds := by
  intro s t h
  have hbounded := (step_keeps h).bounded
  exact ⟨hbounded, fun hs => (step_rooms (Part.Sound.accounts hs) h).ranged (hbounded hs.1)⟩

end
end Sys2Proof.Machine

namespace Sys2Proof.Machine

/-! ### What a deadline may do within an event -/

/-- The conversion starts that a record has still to come (R97). -/
def Sheet.startsLeft (s : Sheet) : Nat :=
  match s.sampling with
  | .sampling _ starts => starts.length
  | _ => 0

theorem startsLeft_sampling {s : Sheet} {v : List Byte} {l : List Tick} (h : s.sampling = .sampling v l) :
    s.startsLeft = l.length := by
  unfold Sheet.startsLeft
  rw [h]

theorem startsLeft_congr {s x : Sheet} (h : s.sampling = x.sampling) : s.startsLeft = x.startsLeft := by
  unfold Sheet.startsLeft
  rw [h]

/-- Fewer starts to come than for a record of the seq, or none. -/
def Fewer (l : List Sheet) (s : Sheet) : Prop :=
  s.startsLeft = 0 ∨ ∃ x ∈ l, x.seq = s.seq ∧ s.startsLeft < x.startsLeft

/-- The records go on: each in its place with its seq, its sampling as it was or with fewer starts to come, and new
records only behind them. -/
def Onward (l l' : List Sheet) : Prop :=
  ∃ (f : Sheet → Sheet) (new : List Sheet), l' = l.map f ++ new ∧ (∀ s ∈ new, Fewer l s)
    ∧ ∀ s ∈ l, (f s).seq = s.seq ∧ ((f s).sampling = s.sampling ∨ Fewer l (f s))

theorem Onward.of_map {l : List Sheet} (f : Sheet → Sheet) (hs : ∀ s, (f s).seq = s.seq)
    (hf : ∀ s ∈ l, (f s).sampling = s.sampling ∨ Fewer l (f s)) : Onward l (l.map f) :=
  ⟨f, [], (List.append_nil _).symm, fun _ h => (nomatch h), fun s h => ⟨hs s, hf s h⟩⟩

theorem Onward.refl (l : List Sheet) : Onward l l := by
  have h := Onward.of_map (l := l) id (fun _ => rfl) fun _ _ => .inl rfl
  rwa [List.map_id] at h

/-- No record has more starts to come than one of its seq had. -/
theorem Onward.at_most {l l' : List Sheet} (h : Onward l l') {y : Sheet} (hy : y ∈ l') :
    y.startsLeft = 0 ∨ ∃ x ∈ l, x.seq = y.seq ∧ y.startsLeft ≤ x.startsLeft := by
  have hless : Fewer l y → y.startsLeft = 0 ∨ ∃ x ∈ l, x.seq = y.seq ∧ y.startsLeft ≤ x.startsLeft :=
    Or.imp id fun ⟨x, hx, hk, e⟩ => ⟨x, hx, hk, Nat.le_of_lt e⟩
  obtain ⟨f, n, rfl, hn, hf⟩ := h
  rcases List.mem_append.1 hy with hy | hy
  · obtain ⟨x, hx, rfl⟩ := List.mem_map.1 hy
    rcases (hf x hx).2 with e | e
    · exact .inr ⟨x, hx, (hf x hx).1.symm, Nat.le_of_eq (startsLeft_congr e)⟩
    · exact hless e
  · exact hless (hn y hy)

theorem Fewer.before {l l' : List Sheet} (h : Onward l l') {s : Sheet} (hs : Fewer l' s) : Fewer l s := by
  rcases hs with e | ⟨y, hy, hk, e⟩
  · exact .inl e
  · rcases h.at_most hy with e' | ⟨x, hx, hk', e'⟩
    · rw [e'] at e
      cases e
    · exact .inr ⟨x, hx, hk'.trans hk, e.trans_le e'⟩

theorem Onward.trans {l l' l'' : List Sheet} (h : Onward l l') (k : Onward l' l'') : Onward l l'' := by
  obtain ⟨f, n, e, hn, hf⟩ := id h
  obtain ⟨g, m, rfl, hm, hg⟩ := k
  have hl : ∀ s ∈ l, f s ∈ l' := fun s hs => e ▸ List.mem_append_left _ (List.mem_map_of_mem hs)
  refine ⟨g ∘ f, n.map g ++ m, by rw [e, List.map_append, List.map_map, List.append_assoc], fun s hs => ?_, fun s hs =>
    ⟨(hg _ (hl s hs)).1.trans (hf s hs).1, ?_⟩⟩
  · rcases List.mem_append.1 hs with hs | hs
    · obtain ⟨x, hx, rfl⟩ := List.mem_map.1 hs
      obtain ⟨hseq, e' | e'⟩ := hg x (e ▸ List.mem_append_right _ hx)
      · unfold Fewer
        rw [startsLeft_congr e', hseq]
        exact hn x hx
      · exact e'.before h
    · exact (hm s hs).before h
  · rcases (hg _ (hl s hs)).2 with e' | e'
    · rcases (hf s hs).2 with e'' | e''
      · exact .inl (e'.trans e'')
      · refine .inr ?_
        unfold Fewer
        rw [Function.comp_apply, startsLeft_congr e', (hg _ (hl s hs)).1]
        exact e''
    · exact .inr (e'.before h)

theorem Onward.append (l : List Sheet) {s : Sheet} (h : s.startsLeft = 0) : Onward l (l ++ [s]) :=
  ⟨id, [s], by rw [List.map_id], fun x hx => by rw [List.mem_singleton.1 hx]; exact .inl h, fun _ _ => ⟨rfl, .inl rfl⟩⟩

/-- What the deadlines read beside the records and the tables. -/
structure Timers where
  ctl : Control
  clock : Clock
  feeders : PerTray Feeder
  eject : Option Eject
  gates : Gates

def Part.timers (p : Part) : Timers := ⟨p.ctl, p.clock, p.feeders, p.acc.eject, p.gates⟩

/-- The staging position of a tray is held by a record in the Sheet Track (R56). -/
def Part.Holds (p : Part) (t : TrayId) : Prop := ∃ s ∈ p.track.sheets, (p.feeders.get t).holder = some s.seq

/-- What every event and everything that follows it keeps of the deadlines and of the state they run in: the states with
a deadline of their own are not entered and keep it; the transport starts to move only out of WARMUP; the watch is armed
anew or as it was; a pick deadline that is reached is no new one; no gate takes an occupant. -/
structure Advance (p q : Part) : Prop where
  warmup : q.ctl.state = .warmup → p.ctl.state = .warmup ∧ q.ctl.warmupEnd = p.ctl.warmupEnd
  recovery : q.ctl.state = .recovery → p.ctl.state = .recovery ∧ q.ctl.runEnd = p.ctl.runEnd
    ∧ (p.ctl.runEndReached = true → q.ctl.runEndReached = true)
  moving : q.ctl.state.moving = true → p.ctl.state.moving = true ∨ p.ctl.state = .warmup
  tick : q.clock.tick = p.clock.tick
  watch : q.clock.watchArmed = true → q.clock.watchReference = p.clock.tick
    ∨ p.clock.watchArmed = true ∧ q.clock.watchReference = p.clock.watchReference
  picks : ∀ t d, (q.feeders.get t).deadline = some d → p.reached d = true →
    (p.feeders.get t).deadline = some d ∧ (p.Holds t → q.Holds t)
  gates : ∀ g o, o ∈ q.gates.occupants g → o ∈ p.gates.occupants g
  sheets : Onward p.track.sheets q.track.sheets

theorem Advance.refl (p : Part) : Advance p p where
  warmup e := ⟨e, rfl⟩
  recovery e := ⟨e, rfl, id⟩
  moving := .inl
  tick := rfl
  watch e := .inr ⟨e, rfl⟩
  picks _ _ e _ := ⟨e, id⟩
  gates _ _ := id
  sheets := .refl _

theorem reached_congr {p q : Part} (h : q.clock.tick = p.clock.tick) (d : Tick) : q.reached d = p.reached d := by
  unfold Part.reached
  rw [h]

theorem Advance.trans {p q r : Part} (h : Advance p q) (k : Advance q r) : Advance p r where
  warmup e := by
    obtain ⟨hq, hw⟩ := k.warmup e
    obtain ⟨hp, hw'⟩ := h.warmup hq
    exact ⟨hp, hw.trans hw'⟩
  recovery e := by
    obtain ⟨hq, hr, hf⟩ := k.recovery e
    obtain ⟨hp, hr', hf'⟩ := h.recovery hq
    exact ⟨hp, hr.trans hr', hf ∘ hf'⟩
  moving e := (k.moving e).elim h.moving fun hw => .inr (h.warmup hw).1
  tick := k.tick.trans h.tick
  watch e := by
    rcases k.watch e with hr | ⟨ha, hr⟩
    · exact .inl (hr.trans h.tick)
    · rcases h.watch ha with hr' | ⟨ha', hr'⟩
      · exact .inl (hr.trans hr')
      · exact .inr ⟨ha', hr.trans hr'⟩
  picks t d e hd := by
    obtain ⟨hq, hh⟩ := k.picks t d e ((reached_congr h.tick d).trans hd)
    obtain ⟨hp, hh'⟩ := h.picks t d hq hd
    exact ⟨hp, hh ∘ hh'⟩
  gates g o := h.gates g o ∘ k.gates g o
  sheets := h.sheets.trans k.sheets

/-- What everything that follows an event keeps: an eject in flight too, and the pending load waits for the path. -/
structure Cascades (p q : Part) : Prop extends Advance p q where
  eject : ∀ e, p.acc.eject = some e → q.acc.eject = some e

theorem Cascades.refl (p : Part) : Cascades p p := ⟨.refl p, fun _ => id⟩

theorem Cascades.trans {p q r : Part} (h : Cascades p q) (k : Cascades q r) : Cascades p r :=
  ⟨h.toAdvance.trans k.toAdvance, fun e he => k.eject e (h.eject e he)⟩

section
variable {p q : Part}

theorem Onward.exists_seq {l l' : List Sheet} (h : Onward l l') {n : Half} (hn : ∃ s ∈ l, n = s.seq) :
    ∃ s ∈ l', n = s.seq := by
  obtain ⟨f, new, rfl, -, hf⟩ := h
  obtain ⟨s, hs, rfl⟩ := hn
  exact ⟨f s, List.mem_append_left _ (List.mem_map_of_mem hs), (hf s hs).1.symm⟩

/-- A record goes on holding a tray's position while the tray says so. -/
theorem Part.Holds.onward {t : TrayId} (h : p.Holds t) (hs : Onward p.track.sheets q.track.sheets)
    (hh : (q.feeders.get t).holder = (p.feeders.get t).holder) : q.Holds t := by
  obtain ⟨s, hm, e⟩ := h
  obtain ⟨x, hx, e'⟩ := hs.exists_seq ⟨s, hm, rfl⟩
  exact ⟨x, hx, hh.trans (e.trans (congrArg some e'))⟩

theorem Cascades.of_timers (h : q.timers = p.timers) (hs : Onward p.track.sheets q.track.sheets) : Cascades p q := by
  have hctl : q.ctl = p.ctl := congrArg Timers.ctl h
  have hclock : q.clock = p.clock := congrArg Timers.clock h
  have hfeeders : q.feeders = p.feeders := congrArg Timers.feeders h
  have hgates : q.gates = p.gates := congrArg Timers.gates h
  refine ⟨⟨fun e => ⟨hctl ▸ e, by rw [hctl]⟩, fun e => ⟨hctl ▸ e, by rw [hctl], fun e => hctl ▸ e⟩,
    fun e => .inl (hctl ▸ e),
    by rw [hclock], fun e => .inr ⟨hclock ▸ e, by rw [hclock]⟩, fun t d e _ =>
      ⟨hfeeders ▸ e, fun hh => hh.onward hs (by rw [hfeeders])⟩,
    fun g o e => hgates ▸ e, hs⟩, fun e he => ?_⟩
  rw [show q.acc.eject = p.acc.eject from congrArg Timers.eject h]
  exact he

/-- An update that leaves the records too. -/
theorem Cascades.of_same (h : q.timers = p.timers) (hs : q.track.sheets = p.track.sheets) : Cascades p q :=
  .of_timers h (hs ▸ .refl _)

/-- An update of the Stream Link alone. -/
theorem Cascades.of_link {l : Link} (h : { q with link := l } = { p with link := l }) : Cascades p q :=
  .of_same (congrArg Part.timers h :) (congrArg (fun x : Part => x.track.sheets) h :)

end
end Sys2Proof.Machine

namespace Sys2Proof.Machine

section
variable {p q : Part}

/-! ### Deadlines through the operations of the cascade -/

theorem takeHead_cascades (p : Part) : Cascades p p.takeHead := .of_link (l := p.link) (takeHead_same p)

theorem occur_cascades (p : Part) (k : CoalescedKind) (x : Report) (f : Report → Report) :
    Cascades p (p.occur k x f) := .of_link (l := p.link) (occur_leaves p k x f).1

theorem loadResult_cascades (p : Part) (t : TableId) (c : Option LoadCause) : Cascades p (p.loadResult t c) :=
  .of_link (l := p.link) (loadResult_same p t c).1

theorem Cascades.of_sheets {f : Sheet → Sheet} (h : q.timers = p.timers) (hs : q.track.sheets = p.track.sheets.map f)
    (hf : ∀ s, (f s).seq = s.seq ∧ (f s).sampling = s.sampling) : Cascades p q :=
  .of_timers h (by rw [hs]; exact .of_map f (fun s => (hf s).1) fun s _ => .inl (hf s).2)

theorem breakEffects_cascades (p : Part) (k : GroupKey) : Cascades p (p.breakEffects k) :=
  .of_sheets (f := fun s => if s.group == k then s.spoilWith .groupBroken else s) rfl rfl fun s => by
    split <;> exact ⟨rfl, rfl⟩

theorem mapGroup_cascades (p : Part) (k : GroupKey) (f : Group → Group) : Cascades p (p.mapGroup k f) :=
  .of_same rfl rfl

theorem clearOpen_cascades (p : Part) : Cascades p p.clearOpen := .of_same rfl rfl

theorem closeAtCap_cascades (p : Part) (k : GroupKey) : Cascades p (p.closeAtCap k) := by
  rcases closeAtCap_eq p k with e | e <;> rw [e] <;> exact .of_same rfl rfl

theorem breakGroup_cascades (p : Part) (k : GroupKey) (r : BreakReason) : Cascades p (p.breakGroup k r) := by
  rcases breakGroup_eq p k r with e | e | e <;> rw [e]
  · exact .refl p
  · exact ((mapGroup_cascades p k _).trans (breakEffects_cascades _ k)).trans (closeAtCap_cascades _ k)
  · exact (mapGroup_cascades p k _).trans (breakEffects_cascades _ k)

theorem breakOpen_cascades (p : Part) (r : BreakReason) : Cascades p (p.breakOpen r) := by
  unfold Part.breakOpen
  split
  · exact .refl p
  · exact breakGroup_cascades p _ r

theorem truncate_cascades (p : Part) : Cascades p p.truncate := by
  unfold Part.truncate
  split
  · exact .refl p
  · split
    · exact clearOpen_cascades p
    · split
      · exact ((mapGroup_cascades p _ _).trans (breakEffects_cascades _ _)).trans (clearOpen_cascades _)
      · exact (mapGroup_cascades p _ _).trans (clearOpen_cascades _)
      all_goals exact clearOpen_cascades p

theorem setBin_cascades (p : Part) (b : BinId) (x : Bin) : Cascades p (p.setBin b x) := by
  rw [setBin_eq]
  exact .of_same rfl rfl

theorem reformBins_cascades (p : Part) (f : BinId → Bin → Bin) : Cascades p (p.reformBins f) := by
  unfold Part.reformBins
  generalize BinId.list = bins
  induction bins generalizing p with
  | nil => exact .refl p
  | cons b bins ih => exact (setBin_cascades p b _).trans (ih _)

/-! ### Pick deadlines (R50, R55) -/

theorem lower_after {t : Tick} {n : Nat} (h : 1 ≤ n) (h' : n ≤ 65535) : lower t (t + BitVec.ofNat 32 n) = true := by
  unfold lower
  rw [BitVec.msb_eq_decide]
  have : (t - (t + BitVec.ofNat 32 n)).toNat = 2 ^ 32 - n := by
    rw [BitVec.toNat_sub, BitVec.toNat_add, BitVec.toNat_ofNat]
    omega
  rw [this]
  simp only [decide_eq_true_eq]
  omega

/-- A deadline set anew is not reached at once, where the transport picks. -/
def Part.PicksAhead (p : Part) : Prop := p.ctl.state.picking = true → p.reached (p.after p.params.pickLimit) = false

theorem pickLimit_congr (ht : q.clock.tick = p.clock.tick) (hx : q.tables = p.tables) :
    q.reached (q.after q.params.pickLimit) = p.reached (p.after p.params.pickLimit) := by
  unfold Part.reached Part.after Part.params
  rw [ht, hx]

theorem takeHead_pickLimit (p : Part) : p.takeHead.reached (p.takeHead.after p.takeHead.params.pickLimit)
    = p.reached (p.after p.params.pickLimit) :=
  pickLimit_congr (takeHead_cascades p).tick (congrArg Part.tables (takeHead_same p) :)

theorem reached_after {n : Nat} (h : 1 ≤ n) (h' : n ≤ 65535) : p.reached (p.after n) = false := by
  unfold Part.reached Part.after
  rw [lower_after h h']
  rfl

theorem params_at (h : p.TablesGood) (hs : p.ctl.state ≠ .halted) (i : Nat) {lo up : Nat}
    (hr : parameterRanges[i]? = some (lo, up)) : lo ≤ p.params.entries.getD i 0 ∧ p.params.entries.getD i 0 ≤ up := by
  obtain ⟨⟨-, hp, -⟩, hl⟩ := h
  obtain ⟨s, hs⟩ := Option.isSome_iff_exists.1 (hl.1 hs).2
  rw [hs] at hp
  rw [Part.params, hs]
  exact parametersOk_at hp i hr

theorem TransportState.not_halted_of_picking {x : TransportState} (h : x.picking = true) : x ≠ .halted := by
  rintro rfl
  cases h

theorem Part.TablesGood.picksAhead (h : p.TablesGood) : p.PicksAhead := fun hp => by
  have := params_at h (TransportState.not_halted_of_picking hp) 12 rfl
  exact reached_after (by exact Nat.le_trans (by decide) this.1) (by exact this.2.trans (by decide))

/-- A tray's new deadline is not reached, or is none. -/
theorem Cascades.of_feeders {v : PerTray Feeder} (hv : ∀ t d, (v.get t).deadline = some d → p.reached d = true →
      (p.feeders.get t).deadline = some d ∧ (v.get t).holder = (p.feeders.get t).holder) :
    Cascades p { p with feeders := v } :=
  ⟨{ Advance.refl p with picks := fun t d e hd => ⟨(hv t d e hd).1, fun hh => hh.onward (.refl _) (hv t d e hd).2⟩ },
    fun _ => id⟩

theorem mapFeeder_cascades (t : TrayId) {f : Feeder → Feeder}
    (hf : ∀ x d, (f x).deadline = some d → p.reached d = true → x.deadline = some d ∧ (f x).holder = x.holder) :
    Cascades p (p.mapFeeder t f) := by
  refine .of_feeders fun u d => ?_
  rw [PerTray.get_set]
  split
  · rename_i e
    rw [e]
    exact hf _ d
  · exact fun e _ => ⟨e, rfl⟩

theorem mapSheet_cascades (p : Part) (n : Half) {f : Sheet → Sheet}
    (hf : ∀ s, (f s).seq = s.seq ∧ (f s).sampling = s.sampling) : Cascades p (p.mapSheet n f) :=
  .of_sheets (f := fun s => if s.seq == n then f s else s) rfl rfl fun s => by
    split
    · exact hf s
    · exact ⟨rfl, rfl⟩

theorem requestPick_cascades (t : TrayId) (h : p.reached (p.after p.params.pickLimit) = false) :
    Cascades p (p.requestPick t) := by
  refine (mapFeeder_cascades (p := p) t
    (f := fun f => { f with request := true, deadline := some (p.after p.params.pickLimit) })
    fun x d e hd => ?_).trans (.of_same rfl rfl)
  cases e
  rw [h] at hd
  cases hd

/-- A deadline dropped, whatever becomes of the holder. -/
theorem dropDeadline_cascades (p : Part) (t : TrayId) {f : Feeder → Feeder} (hf : ∀ x, (f x).deadline = none) :
    Cascades p (p.mapFeeder t f) :=
  mapFeeder_cascades t fun x d e => by rw [hf] at e; cases e

theorem moveTo_cascades (s : Sheet) (t : TrayId) (h : p.reached (p.after p.params.pickLimit) = false) :
    Cascades p (p.moveTo s t) := by
  have hfeeders : Cascades p { p with feeders := (p.moveTo s t).feeders } := by
    refine .of_feeders fun u d => ?_
    have hget : ∃ a b c, (p.moveTo s t).feeders = ((p.feeders.set s.tray a).set t b).set t c
        ∧ a.deadline = none ∧ c.deadline = some (p.after p.params.pickLimit) := ⟨_, _, _, rfl, rfl, rfl⟩
    obtain ⟨a, b, c, hv, ha, hc⟩ := hget
    rw [hv, PerTray.get_set, PerTray.get_set, PerTray.get_set]
    split
    · intro e hd
      rw [hc] at e
      cases e
      exact absurd (h.symm.trans hd) Bool.false_ne_true
    · split
      · exact fun e => nomatch ha.symm.trans e
      · exact fun e _ => ⟨e, rfl⟩
  refine hfeeders.trans (.of_sheets (f := fun r => if r.seq == s.seq then { r with tray := t, attempts := 0 } else r)
    rfl rfl fun s => ?_)
  split <;> exact ⟨rfl, rfl⟩

theorem moveOn_cascades (s : Sheet) (h : p.PicksAhead) : Cascades p (p.moveOn s) := by
  unfold Part.moveOn
  split
  · rename_i hp
    split
    · exact moveTo_cascades s _ (h hp)
    · exact .refl p
  · exact .refl p

theorem stallEnd_cascades (hp : p.PicksAhead) (h : p.stallEnd = some q) : Cascades p q := by
  unfold Part.stallEnd at h
  split at h
  · rename_i hpick
    split at h
    · cases h
    · split at h
      · cases h
      · split at h <;> cases h
        · exact (mapSheet_cascades p _ (f := fun r => { r with attempts := 0 }) fun _ => ⟨rfl, rfl⟩).trans
            (requestPick_cascades _ (hp hpick))
        · exact moveTo_cascades _ _ (hp hpick)
  · cases h

/-- A new record comes behind the others and holds the staging position of its tray. -/
theorem takeIntoPick_cascades (o : SheetOrder) (m : MediaEntry) (k : GroupKey) (t : TrayId)
    (h : p.reached (p.after p.params.pickLimit) = false) : Cascades p (p.takeIntoPick o m k t) := by
  have hadd : ∀ n, Cascades p { p with track := { p.track with
      sheets := p.track.sheets ++ [sheetOf o m k p.track.nextSeq t], nextSeq := n } } := fun n =>
    .of_timers rfl (.append _ rfl)
  have hhold : ∀ x : Part, (∃ s ∈ x.track.sheets, s.seq = p.track.nextSeq) →
      Cascades x (x.mapFeeder t fun f => { f with holder := some p.track.nextSeq }) := by
    intro x ⟨s, hs, e⟩
    refine ⟨{ Advance.refl x with picks := fun u d hd hr => ?_ }, fun _ => id⟩
    have hget : ((x.mapFeeder t fun f => { f with holder := some p.track.nextSeq }).feeders.get u)
        = if u = t then { x.feeders.get t with holder := some p.track.nextSeq } else x.feeders.get u :=
          PerTray.get_set ..
    unfold Part.Holds
    rw [hget] at hd ⊢
    by_cases hu : u = t
    · rw [if_pos hu] at hd ⊢
      exact ⟨hu ▸ hd, fun _ => ⟨s, hs, congrArg some e.symm⟩⟩
    · rw [if_neg hu] at hd ⊢
      exact ⟨hd, id⟩
  have hbase := ((hadd (p.track.nextSeq + 1)).trans (hhold _ ⟨sheetOf o m k p.track.nextSeq t,
    List.mem_append_right _ (List.mem_singleton_self _), rfl⟩)).trans
    (mapGroup_cascades _ k fun g => { g with accepted := g.accepted + 1, inPath := g.inPath + 1 })
  unfold Part.takeIntoPick
  dsimp only
  split
  · exact hbase.trans (requestPick_cascades t h)
  · exact hbase

/-! ### Orders taken -/

theorem closeIfLast_cascades (p : Part) (o : SheetOrder) (k : GroupKey) : Cascades p (p.closeIfLast o k) := by
  unfold Part.closeIfLast
  split
  · exact .of_same rfl rfl
  · exact .refl p

theorem discard_cascades (p : Part) (o : SheetOrder) (k : GroupKey) : Cascades p (p.discard o k) := by
  unfold Part.discard
  dsimp only
  split
  · exact (takeHead_cascades p).trans (.of_same rfl rfl)
  · exact ((takeHead_cascades p).trans (mapGroup_cascades _ k _)).trans (closeAtCap_cascades _ k)

theorem discardOrphan_cascades (p : Part) : Cascades p p.discardOrphan :=
  ((takeHead_cascades p).trans (occur_cascades ..)).trans (breakOpen_cascades _ _)

theorem headTruncation_cascades (h : p.headTruncation = some q) : Cascades p q := by
  unfold Part.headTruncation at h
  split at h
  · split at h
    · cases h; exact truncate_cascades p
    · cases h
  · cases h

theorem openGroupWith_cascades (o : SheetOrder) (f : FirstFields) (g : Grant)
    (h : p.reached (p.after p.params.pickLimit) = false) : Cascades p (p.openGroupWith o f g) := by
  have hopen : Cascades p.takeHead (((p.takeHead.addGroup
      { groupOf p.groups.nextKey o f with bin := some g.bin, policy := g.policy }).setOpen p.groups.nextKey).reserve
      { group := p.groups.nextKey, bin := g.bin, count := f.declared.toNat, alternate := g.alternate }) :=
        .of_same rfl rfl
  refine (((takeHead_cascades p).trans hopen).trans (takeIntoPick_cascades o g.media p.groups.nextKey g.tray ?_)).trans
    (closeIfLast_cascades _ o _)
  exact (takeHead_pickLimit p).trans h

theorem groupAdmission_cascades (hp : p.PicksAhead) (h : p.groupAdmission = some q) : Cascades p q := by
  unfold Part.groupAdmission at h
  split at h
  · cases h
  · split at h
    · cases h
    · dsimp only at h
      split at h
      · rename_i hc
        cases h
        refine (truncate_cascades p).trans (openGroupWith_cascades _ _ _ ?_)
        rw [pickLimit_congr (truncate_cascades p).tick (truncate_leaves p).2.1]
        exact hp (truncate_ctl p ▸ (admissionCheck_ok hc).1)
      · cases h

theorem brokenFromStart_cascades (h : p.brokenFromStart = some q) : Cascades p q := by
  unfold Part.brokenFromStart at h
  split at h
  · cases h
  · split at h
    · cases h
    · dsimp only at h
      split at h
      · cases h
        refine (truncate_cascades p).trans ?_
        unfold Part.openBroken
        dsimp only
        split
        · exact (takeHead_cascades _).trans (.of_same rfl rfl)
        · exact (takeHead_cascades _).trans (.of_same rfl rfl)
      · cases h

theorem furtherOrderPick_cascades (hp : p.PicksAhead) (h : p.furtherOrderPick = some q) : Cascades p q := by
  unfold Part.furtherOrderPick at h
  split at h
  · cases h
  · split at h
    · cases h
    · split at h
      · split at h
        · rename_i g _ _ _ r _
          cases h
          refine Cascades.trans (breakGroup_cascades p g.key r) ?_
          split
          · exact discard_cascades _ _ _
          · exact discardOrphan_cascades _
        · split at h
          · cases h
          · split at h
            · rename_i hpick
              split at h
              · cases h
                refine ((takeHead_cascades p).trans (takeIntoPick_cascades _ _ _ _ ?_)).trans
                  (closeIfLast_cascades _ _ _)
                exact (takeHead_pickLimit p).trans (hp hpick)
              · cases h
            · cases h
      · cases h

theorem discardedAsUnfed_cascades (h : p.discardedAsUnfed = some q) : Cascades p q := by
  unfold Part.discardedAsUnfed at h
  split at h
  · cases h
  · split at h
    · split at h
      · cases h; exact discard_cascades p _ _
      · cases h
    · cases h

theorem orphanTaken_cascades (h : p.orphanTaken = some q) : Cascades p q := by
  unfold Part.orphanTaken at h
  split at h
  · cases h
  · split at h
    · cases h; exact discardOrphan_cascades p
    · cases h

theorem purgeTaken_cascades (h : p.purgeTaken = some q) : Cascades p q := by
  unfold Part.purgeTaken at h
  split at h
  · split at h
    · cases h; exact (takeHead_cascades p).trans (breakOpen_cascades _ _)
    · cases h
  · cases h

end
end Sys2Proof.Machine

namespace Sys2Proof.Machine

section
variable {p q : Part}

/-! ### Deadlines through the moves of the transport -/

theorem discardSampling_onward (l : List Sheet) : Onward l (l.map Sheet.discardSampling) := by
  refine .of_map _ (fun s => ?_) fun s _ => ?_
  · unfold Sheet.discardSampling
    split <;> rfl
  · unfold Sheet.discardSampling
    split
    · exact .inr (.inl rfl)
    · exact .inl rfl

/-- A transport at rest, outside WARMUP: nothing runs there. -/
theorem Cascades.of_rest (hm : q.ctl.state.moving = false) (hw : q.ctl.state ≠ .warmup)
    (ht : q.clock.tick = p.clock.tick) (ha : q.clock.watchArmed = false)
    (hd : q.feeders = p.feeders.map fun f => { f with deadline := none }) (hg : q.gates = p.gates)
    (hs : Onward p.track.sheets q.track.sheets) (he : q.acc.eject = p.acc.eject) : Cascades p q where
  warmup e := absurd e hw
  recovery e := by rw [e] at hm; cases hm
  moving e := by rw [e] at hm; cases hm
  tick := ht
  watch e := by rw [e] at ha; cases ha
  picks t d e := by
    rw [hd, PerTray.get_map] at e
    cases e
  gates g o e := hg ▸ e
  sheets := hs
  eject e h := he.trans h

theorem enterStandby_cascades (p : Part) : Cascades p p.enterStandby := by
  rw [enterStandby_eq]
  exact .of_rest rfl (by simp) rfl rfl rfl rfl (discardSampling_onward _) rfl

theorem enterSafe_cascades (p : Part) : Cascades p p.enterSafe :=
  .of_rest rfl (by simp [Part.enterSafe, Part.setTransport]) rfl rfl rfl rfl (discardSampling_onward _) rfl

theorem stoppedBy_rest (c : Control) (r : FaultRecord) :
    (c.stoppedBy r).state.moving = false ∧ (c.stoppedBy r).state ≠ .warmup := by
  unfold Control.stoppedBy
  dsimp only
  split <;> exact ⟨rfl, by decide⟩

theorem raise_cascades (p : Part) (k : FaultKind) (x : Option Station) (a b : Option Half) :
    Cascades p (p.raise k x a b) := by
  obtain ⟨-, hgates, -, -, -, -, -, -, hacc, -⟩ := raise_leaves p k x a b
  cases h : p.ctl.locked with
  | true =>
    rw [raise_locked k x a b h]
    exact ⟨{ Advance.refl p with
      warmup := fun e => ⟨e, rfl⟩, recovery := fun e => ⟨e, rfl, id⟩, moving := .inl }, fun _ => id⟩
  | false =>
    obtain ⟨hctl, hclock, hfeeders, htrack, -⟩ := raise_unlocked (p := p) k x a b h
    obtain ⟨hm, hw⟩ := stoppedBy_rest p.ctl (p.faultOf k x a b)
    exact .of_rest (by rw [hctl]; exact hm) (by rw [hctl]; exact hw) (by rw [hclock]) (by rw [hclock]) hfeeders hgates
      (by rw [htrack]; exact discardSampling_onward _) (by rw [hacc])

/-- A fault raised where Fault Capture is unlocked stops the transport (R165). -/
theorem raise_rest (k : FaultKind) (x : Option Station) (a b : Option Half) (h : p.ctl.locked = false) :
    (p.raise k x a b).ctl.state.moving = false ∧ (p.raise k x a b).ctl.state ≠ .warmup := by
  rw [(raise_unlocked (p := p) k x a b h).1]
  exact stoppedBy_rest _ _

theorem armWatch_cascades (p : Part) : Cascades p p.armWatch := by
  rw [armWatch_eq]
  refine ⟨{ Advance.refl p with tick := rfl, watch := fun e => ?_, picks := fun _ _ e _ => ⟨e, id⟩ }, fun _ => id⟩
  have e' : p.sourceIsLine = true := e
  exact .inl (by dsimp only; rw [if_pos e'])

/-- Transport Control moved out of a moving state or WARMUP to RUNNING or DRAINING. -/
theorem Cascades.of_ctl {c : Control} (hp : p.ctl.state.moving = true ∨ p.ctl.state = .warmup)
    (hw : c.state ≠ .warmup) (hr : c.state ≠ .recovery) : Cascades p { p with ctl := c } :=
  ⟨{ Advance.refl p with
    warmup := fun e => absurd e hw, recovery := fun e => absurd e hr, moving := fun _ => hp }, fun _ => id⟩

theorem dropPickDeadlines_cascades (p : Part) : Cascades p p.dropPickDeadlines :=
  .of_feeders fun t d e => by rw [PerTray.get_map] at e; cases e

theorem renewPickDeadlines_cascades (h : p.reached (p.after p.params.pickLimit) = false) :
    Cascades p p.renewPickDeadlines := by
  refine .of_feeders fun t d => ?_
  rw [PerTray.get_map]
  split
  · intro e hd
    cases e
    rw [h] at hd
    cases hd
  · exact fun e _ => ⟨e, rfl⟩

theorem enterDraining_cascades (x : DrainReason) (hp : p.ctl.state.moving = true) : Cascades p (p.enterDraining x) :=
  (Cascades.of_ctl (p := p) (c := { p.ctl with state := .draining, drainReason := some x }) (.inl hp) (by simp)
    (by simp)).trans (dropPickDeadlines_cascades _)

theorem Part.TablesGood.pickLimit_ahead (h : p.TablesGood) (hs : p.ctl.state ≠ .halted) :
    p.reached (p.after p.params.pickLimit) = false := by
  have := params_at h hs 12 rfl
  exact reached_after (by exact Nat.le_trans (by decide) this.1) (by exact this.2.trans (by decide))

theorem resumeRunning_cascades (h : p.TablesGood) (hs : p.ctl.state = .draining) : Cascades p p.resumeRunning :=
  ((Cascades.of_ctl (p := p) (c := (p.setTransport .running).dropTimed.ctl) (.inl (by rw [hs]; rfl)) (by
    simp [Part.dropTimed, Part.setTransport]) (by simp [Part.dropTimed, Part.setTransport])).trans
    (renewPickDeadlines_cascades (by exact h.pickLimit_ahead (by rw [hs]; decide)))).trans (armWatch_cascades _)

theorem drainEnd_cascades (hg : p.TablesGood) (h : p.drainEnd = some q) : Cascades p q := by
  unfold Part.drainEnd at h
  split at h
  · rename_i hd
    cases h
    split
    · exact resumeRunning_cascades hg hd.1
    · exact enterStandby_cascades p
  · cases h

theorem runoutEnd_cascades (h : p.runoutEnd = some q) : Cascades p q := by
  unfold Part.runoutEnd at h
  split at h
  · cases h
    split
    · exact enterSafe_cascades p
    · exact (enterSafe_cascades p).trans (enterStandby_cascades _)
  · cases h

theorem recoveryEnd_cascades (h : p.recoveryEnd = some q) : Cascades p q := by
  unfold Part.recoveryEnd at h
  split at h
  · cases h
    have hdrop : Cascades p p.dropSweepClass :=
      ⟨{ Advance.refl p with
        warmup := fun e => ⟨e, rfl⟩, recovery := fun e => ⟨e, rfl, id⟩, moving := .inl }, fun _ => id⟩
    exact hdrop.trans (enterStandby_cascades _)
  · cases h

theorem stopTaken_cascades (h : p.stopTaken = some q) : Cascades p q := by
  have htrunc := (takeHead_cascades p).trans (truncate_cascades _)
  have hctl : p.takeHead.truncate.ctl = p.ctl := (truncate_ctl _).trans (takeHead_ctl p)
  unfold Part.stopTaken at h
  split at h
  · split at h
    case h_1 hs =>
      cases h
      exact htrunc.trans (enterDraining_cascades _ (by rw [hctl, hs]; rfl))
    case h_2 hs =>
      cases h
      dsimp only
      split
      · refine htrunc.trans (.of_ctl (.inl (by rw [hctl, hs]; rfl)) ?_ ?_)
        · show p.takeHead.truncate.ctl.state ≠ .warmup
          rw [hctl, hs]; decide
        · show p.takeHead.truncate.ctl.state ≠ .recovery
          rw [hctl, hs]; decide
      · exact htrunc
    all_goals cases h
    all_goals exact htrunc
  · cases h

/-! ### Ejects and resolution -/

theorem startEject_cascades (x : EjectTarget) (j : Jog) (h : p.acc.eject = none) : Cascades p (p.startEject x j) :=
  ⟨{ Advance.refl p with picks := fun _ _ e _ => ⟨e, id⟩ }, fun e he => by rw [h] at he; cases he⟩

theorem redirect_cascades (p : Part) (g : Group) (b : BinId) : Cascades p (p.redirect g b) := .of_same rfl rfl

theorem setEjectStart_cascades (h : p.setEjectStart = some q) : Cascades p q := by
  unfold Part.setEjectStart at h
  split at h
  · cases h
  · rename_i g _
    split at h
    · cases h
    · split at h
      · rename_i hd
        have hnone : p.acc.eject = none := by
          unfold Part.dueIntact at hd
          simp only [Bool.and_eq_true] at hd
          exact Option.isNone_iff_eq_none.1 hd.1.2
        cases h
        unfold Part.ejectIntact
        split
        · exact startEject_cascades _ _ hnone
        · split
          · exact (redirect_cascades p g _).trans (startEject_cascades _ _ (by exact hnone))
          · exact (breakGroup_cascades p _ _).trans
              (startEject_cascades _ _ (by rw [(breakGroup_leaves p _ _).acc]; exact hnone))
      · split at h
        · rename_i hd
          cases h
          unfold Part.dueBroken at hd
          simp only [Bool.and_eq_true] at hd
          exact startEject_cascades _ _ (Option.isNone_iff_eq_none.1 hd.1.2)
        · cases h

theorem groupResolution_cascades (h : p.groupResolution = some q) : Cascades p q := by
  unfold Part.groupResolution at h
  split at h
  · cases h
  · split at h <;> cases h <;> exact .of_same rfl rfl

/-! ### Loads -/

theorem liveLoad_cascades (p : Part) (t : TableId) (n : Nat) (b : List Byte) : Cascades p (p.liveLoad t n b).1 := by
  rcases liveLoad_cases p t n b with h | ⟨c, -, h⟩ | ⟨c, -, h⟩ <;> rw [h]
  · exact .refl p
  · exact .of_same rfl rfl
  · exact (Cascades.of_same (p := p) (q := p.withBinMap c) rfl rfl).trans (reformBins_cascades _ _)

theorem liveLoadTaken_cascades (h : p.liveLoadTaken = some q) : Cascades p q := by
  unfold Part.liveLoadTaken at h
  split at h
  · split at h
    · cases h
      exact (liveLoad_cascades p _ _ _).trans (loadResult_cascades _ _ _)
    · cases h
  · cases h

theorem applyLocked_cascades (p : Part) (c : PendingLoad) : Cascades p (p.applyLocked c) := by
  cases c with
  | parameters c =>
    rw [Part.applyLocked, applyParameters_eq]
    refine ⟨{ Advance.refl p with tick := rfl, watch := fun e => ?_, picks := fun _ _ e _ => ⟨e, id⟩ }, fun _ => id⟩
    dsimp only at e ⊢
    by_cases hr : p.ctl.state = .running
    · rw [if_pos hr] at e
      exact .inl (if_pos ⟨hr, e⟩)
    · rw [if_neg hr] at e
      exact .inr ⟨e, if_neg fun h => hr h.1⟩
  | _ => exact .of_same rfl rfl

theorem lockedLoadTaken_cascades (h : p.lockedLoadTaken = some q) : Cascades p q := by
  unfold Part.lockedLoadTaken at h
  split at h
  · rename_i t first body _ _
    split at h
    · have hres := loadResult_cascades p t
      split at h
      · cases h
        exact hres _
      · rename_i c _
        dsimp only at h
        split at h
        · cases h
          exact (hres none).trans (applyLocked_cascades _ c)
        · have hpending : Cascades p (((p.loadResult t none).setPendingLoad (some c)).truncate) :=
            ((hres none).trans (.of_same (q := (p.loadResult t none).setPendingLoad (some c)) rfl rfl)).trans
              (truncate_cascades _)
          cases h
          split
          · rename_i hs
            refine hpending.trans (enterDraining_cascades _ ?_)
            rw [truncate_ctl]
            show (p.loadResult t none).ctl.state.moving = true
            rw [loadResult_ctl, hs]
            rfl
          · exact hpending
    · cases h
  · cases h

theorem pendingLoadApplied_cascades (h : p.pendingLoadApplied = some q) : Cascades p q := by
  unfold Part.pendingLoadApplied at h
  split at h
  · split at h
    · cases h
      exact (Cascades.of_same (p := p) (q := p.setPendingLoad none) rfl rfl).trans (applyLocked_cascades _ _)
    · cases h
  · cases h

/-! ### The cascade -/

theorem internal_cascades (hg : p.TablesGood) (h : p.internal = some q) : Cascades p q := by
  rcases internal_cases h with h | h | h | h | h | h | h | h | h | h | h | h | h | h | h | h | h
  · exact pendingLoadApplied_cascades h
  · exact drainEnd_cascades hg h
  · exact runoutEnd_cascades h
  · exact setEjectStart_cascades h
  · exact groupResolution_cascades h
  · exact stallEnd_cascades hg.picksAhead h
  · exact headTruncation_cascades h
  · exact groupAdmission_cascades hg.picksAhead h
  · exact brokenFromStart_cascades h
  · exact furtherOrderPick_cascades hg.picksAhead h
  · exact discardedAsUnfed_cascades h
  · exact orphanTaken_cascades h
  · exact stopTaken_cascades h
  · exact purgeTaken_cascades h
  · exact liveLoadTaken_cascades h
  · exact lockedLoadTaken_cascades h
  · exact recoveryEnd_cascades h

theorem settle_cascades (ha : p.TransportAgrees) (hg : p.TablesGood) : Cascades p p.settle := by
  have h := settleIn_keeps (I := fun x => Cascades p x ∧ x.TransportAgrees ∧ x.TablesGood)
    (fun x y ⟨hx, hax, hgx⟩ e =>
      have hk := internal_all e
      ⟨hx.trans (internal_cascades hgx e), hk.agrees hax, hk.good hax hgx⟩) p.fuel p ⟨.refl p, ha, hg⟩
  exact h.1

theorem updateWaits_cascades (p : Part) : Cascades p p.updateWaits := by
  unfold Part.updateWaits
  dsimp only
  split
  · exact .refl p
  · exact .of_same rfl rfl

theorem attend_cascades (p : Part) : Cascades p p.attend := by
  unfold Part.attend
  dsimp only
  split
  · exact ((updateWaits_cascades p).trans (.of_same (q := p.updateWaits.noticed) rfl rfl)).trans
      (occur_cascades _ _ _ _)
  · exact updateWaits_cascades p

theorem beginSending_cascades (p : Part) : Cascades p p.beginSending := by
  unfold Part.beginSending
  split
  · split
    · exact .of_same rfl rfl
    · exact .refl p
  · exact .refl p

theorem finish_cascades (p : Part) : Cascades p p.finish :=
  ((attend_cascades p).trans (attend_cascades _)).trans (beginSending_cascades _)

theorem close_cascades (ha : p.TransportAgrees) (hg : p.TablesGood) : Cascades p p.close :=
  (settle_cascades ha hg).trans (finish_cascades _)

end
end Sys2Proof.Machine

namespace Sys2Proof.Machine

section
variable {p q : Part}

/-! ### The own effects of the clock's events -/

theorem followCadence_timers (p : Part) (s : Sheet) :
    (p.followCadence s).timers = p.timers ∧ (p.followCadence s).track = p.track ∧ (p.followCadence s).loop = p.loop
    ∧ (p.followCadence s).link = p.link := by
  obtain ⟨c, hc⟩ := followCadence_eq p s
  rw [hc]
  exact ⟨rfl, rfl, rfl, rfl⟩

theorem launched_onward (p : Part) (n : Half) (pass : Pass) (route : Route) (c : Sheet → List CoverEntry) :
    Cascades p (p.mapSheet n fun r => p.launched r pass route (c r)) := by
  refine .of_timers rfl (.of_map (fun s => if s.seq == n then p.launched s pass route (c s) else s) (fun s => ?_)
    fun s _ => ?_)
  · split <;> rfl
  · split
    · by_cases h : s.thickness.isSome = true
      · exact .inl (if_pos h)
      · exact .inr (.inl (by
          unfold Sheet.startsLeft
          rw [show (p.launched s pass route (c s)).sampling = .idle from if_neg h]))
    · exact .inl rfl

/-- A launch changes one record, the arbiter and the messages, and takes the loop's head when it is a second pass. -/
theorem launchFF_leaves (p : Part) (s : Sheet) : ∃ (route : Route) (c : Sheet → List CoverEntry),
    (p.launchFF s).track = (p.mapSheet s.seq fun r => p.launched r .first route (c r)).track
    ∧ (p.launchFF s).timers = p.timers ∧ (p.launchFF s).loop = p.loop ∧ (p.launchFF s).link = p.link := by
  unfold Part.launchFF
  dsimp only
  obtain ⟨htimers, htrack, hloop, hlink⟩ := followCadence_timers { p.mapSheet s.seq _ with arbiter := _ } s
  exact ⟨_, _, htrack, htimers, hloop, hlink⟩

theorem launchFF_cascades (p : Part) (s : Sheet) : Cascades p (p.launchFF s) := by
  obtain ⟨route, c, htrack, htimers, -⟩ := launchFF_leaves p s
  exact (launched_onward p s.seq .first route c).trans (.of_same htimers (congrArg Track.sheets htrack))

theorem launchDR_cascades (p : Part) (s : Sheet) : Cascades p (p.launchDR s) :=
  (launched_onward p s.seq .second .second fun _ => []).trans (.of_same rfl rfl)

theorem boundary_cascades (p : Part) (line : Bool) : Cascades p (p.boundary line) := by
  have hraise : Cascades p p.raiseSlot := .of_same rfl rfl
  rcases boundary_cases p line with ⟨-, h⟩ | h | ⟨-, h⟩
  · rw [h]; exact .of_same rfl rfl
  · rcases choice_cases _ h with ⟨f, -, -, e⟩ | ⟨d, -, -, e⟩ <;> rw [e]
    · exact hraise.trans (launchFF_cascades _ f)
    · exact hraise.trans (launchDR_cascades _ d)
  · rw [h]
    split
    · rcases starve_cases p.raiseSlot with e | ⟨k, -, e⟩ <;> rw [e]
      · exact hraise
      · exact hraise.trans (breakGroup_cascades _ _ _)
    · exact hraise

theorem pitchExpiry_cascades (h : p.pitchExpiry = some q) : Cascades p q := by
  unfold Part.pitchExpiry at h
  split at h
  · cases h
    have hdue : Cascades p { p with arbiter := { p.arbiter with expiryDue := false } } := .of_same rfl rfl
    dsimp only
    split
    · exact hdue
    · exact hdue.trans (boundary_cascades _ false)
  · cases h

theorem setTrayState_cascades (p : Part) (t : TrayId) (x : TrayState) : Cascades p (p.setTrayState t x) := by
  unfold Part.setTrayState
  split
  · exact .refl p
  · exact (mapFeeder_cascades (p := p) t (f := fun f => { f with state := x }) fun _ _ e _ => ⟨e, rfl⟩).trans
      (.of_same rfl rfl)

theorem setTrayState_pickLimit (p : Part) (t : TrayId) (x : TrayState) (h : p.PicksAhead) :
    (p.setTrayState t x).PicksAhead := by
  unfold Part.setTrayState
  split
  · exact h
  · exact h

theorem misfeed_cascades (t : TrayId) (s : Sheet) (hs : p.ctl.state.picking = true) (h : p.PicksAhead) :
    Cascades p (p.misfeed t s) := by
  have hdrop := dropDeadline_cascades p t (f := fun f => { f with request := false, deadline := none }) fun _ => rfl
  have hahead : (p.mapFeeder t fun f => { f with request := false, deadline := none }).PicksAhead := h
  unfold Part.misfeed
  dsimp only
  split
  · split
    · exact (hdrop.trans (mapSheet_cascades _ s.seq (f := fun r => { r with attempts := r.attempts + 1 })
        fun _ => ⟨rfl, rfl⟩)).trans (requestPick_cascades t (by exact h hs))
    · exact (hdrop.trans (setTrayState_cascades _ t .fault)).trans
        (moveOn_cascades s (setTrayState_pickLimit _ t .fault hahead))
  · exact hdrop.trans (moveOn_cascades s hahead)

/-- A pick deadline taken: the request's sheet is misfed (R52). -/
theorem pickDeadline_some {t : TrayId} (h : p.pickDeadline t = some q) : ∃ s, p.ctl.state.picking = true
    ∧ (p.feeders.get t).holder.bind p.sheet? = some s ∧ q = p.misfeed t s := by
  unfold Part.pickDeadline at h
  dsimp only at h
  split at h
  · rename_i hc
    simp only [Bool.and_eq_true] at hc
    split at h
    · rename_i s hs
      cases h
      exact ⟨s, hc.1.1, hs, rfl⟩
    · cases h
  · cases h

theorem setOccupants_mem {g : Gates} {x y : Gate} {l : List Occupant} {o : Occupant} (hl : ∀ o ∈ l, o ∈ g.occupants x)
    (h : o ∈ (g.setOccupants x l).occupants y) : o ∈ g.occupants y := by
  cases x <;> cases y <;> first | exact h | exact hl o h

theorem gateRelease_cascades {x : Gate} {n : Half} (h : p.gateRelease x n = some q) : Cascades p q := by
  unfold Part.gateRelease at h
  dsimp only at h
  split at h
  · cases h
    exact ⟨{ Advance.refl p with
      picks := fun _ _ e _ => ⟨e, id⟩, gates := fun g o => setOccupants_mem fun o => List.mem_of_mem_filter },
        fun _ => id⟩
  · cases h

/-- A conversion started: a start fewer to come for every record of the seq, or its sampling abandoned (R97). -/
theorem conversionStart_some {n : Half} (h : p.conversionStart n = some q) :
    p.ctl.state.moving = true ∧ ∃ s v d rest, p.sheet? n = some s ∧ s.sampling = .sampling v (d :: rest)
      ∧ p.reached d = true ∧ ∃ x, (x = .sampling v rest ∨ x = .abandoned)
        ∧ q.track.sheets = (p.mapSheet n fun r => { r with sampling := x }).track.sheets
        ∧ q.timers = p.timers ∧ q.loop = p.loop ∧ q.link = p.link := by
  unfold Part.conversionStart at h
  split at h
  · rename_i hm
    split at h
    · cases h
    · rename_i s hs
      split at h
      · rename_i v d rest hsamp
        split at h
        · rename_i hd
          refine ⟨hm, s, v, d, rest, hs, hsamp, hd, ?_⟩
          split at h <;> cases h
          · exact ⟨_, .inl rfl, rfl, rfl, rfl, rfl⟩
          · exact ⟨_, .inr rfl, rfl, rfl, rfl, rfl⟩
        · cases h
      · cases h
  · cases h

theorem conversionStart_cascades {n : Half} (h : p.conversionStart n = some q) : Cascades p q := by
  obtain ⟨-, s, v, d, rest, hs, hsamp, -, x, hx, hsheets, htimers, -⟩ := conversionStart_some h
  refine .of_timers htimers ?_
  rw [hsheets]
  refine .of_map (fun r => if r.seq == n then { r with sampling := x } else r) (fun r => by split <;> rfl)
    fun r hr => ?_
  split
  · rename_i hrn
    refine .inr ?_
    rcases hx with rfl | rfl
    · refine .inr ⟨s, mem_of_sheet? hs, (sheet?_seq hs).trans (eq_of_beq hrn).symm, ?_⟩
      rw [startsLeft_sampling rfl, startsLeft_sampling hsamp]
      exact Nat.lt_succ_self _
    · exact .inl rfl
  · exact .inl rfl

theorem loseCadence_cascades (p : Part) : Cascades p p.loseCadence :=
  ⟨{ Advance.refl p with tick := rfl, watch := fun e => (nomatch e), picks := fun _ _ e _ => ⟨e, id⟩ }, fun _ => id⟩

theorem drainForCadence_cascades (p : Part) : Cascades p p.drainForCadence := by
  unfold Part.drainForCadence
  split
  · rename_i hs
    exact enterDraining_cascades _ (by rw [hs]; rfl)
  · rename_i hs
    split
    · exact .of_ctl (.inl (by rw [hs]; rfl)) (by simp [hs]) (by simp [hs])
    · exact .refl p
  · exact .refl p

theorem notice_cascades (p : Part) : Cascades p p.notice := .of_same rfl rfl

theorem eq_of_cadenceLoss (h : p.cadenceLoss = some q) :
    q = (p.loseCadence.breakOpen .cadence).drainForCadence.notice := by
  unfold Part.cadenceLoss at h
  split at h
  · exact (Option.some.inj h).symm
  · cases h

theorem cadenceLoss_cascades (h : p.cadenceLoss = some q) : Cascades p q := by
  rw [eq_of_cadenceLoss h]
  exact (((loseCadence_cascades p).trans (breakOpen_cascades _ _)).trans (drainForCadence_cascades _)).trans
    (notice_cascades _)

theorem warmupEnd_cascades (h : p.warmupEnd = some q) : Cascades p q := by
  unfold Part.warmupEnd at h
  split at h
  · rename_i hw
    cases h
    exact (Cascades.of_ctl (p := p) (c := (p.setTransport .running).dropTimed.ctl)
      (.inr (eq_of_beq (Bool.and_eq_true_iff.1 hw).1)) (by simp [Part.dropTimed, Part.setTransport])
      (by simp [Part.dropTimed, Part.setTransport])).trans (armWatch_cascades _)
  · cases h

theorem runEndReached_cascades (h : p.runEndReached = some q) : Cascades p q := by
  unfold Part.runEndReached at h
  split at h
  · cases h
    have hflag : Cascades p { p with ctl := { p.ctl with runEndReached := true } } :=
      ⟨{ Advance.refl p with
        warmup := fun e => ⟨e, rfl⟩, recovery := fun e => ⟨e, rfl, fun _ => rfl⟩, moving := .inl }, fun _ => id⟩
    unfold Part.attempt
    cases he : Part.recoveryEnd { p with ctl := { p.ctl with runEndReached := true } } with
    | none => exact hflag
    | some q => exact hflag.trans (recoveryEnd_cascades he)
  · cases h

/-! #### Deadlines that stop the transport (R87, R90, R121, R137) -/

/-- A fault raised in a moving state, after a change that leaves Transport Control and the Stream Link. -/
def Raises (p q : Part) : Prop :=
  ∃ r k x a b, q = Part.raise r k x a b ∧ p.ctl.state.moving = true ∧ Advance p r ∧ r.ctl = p.ctl ∧ r.link = p.link

theorem lateLimit_raises {n : Half} (h : p.lateLimit n = some q) : Raises p q := by
  unfold Part.lateLimit at h
  split at h
  · rename_i hm
    split at h
    · cases h
    · split at h
      · cases h
      · split at h
        · exact ⟨_, _, _, _, _, (Option.some.inj h).symm, hm,
            (mapSheet_cascades p n (f := fun r => { r with window := none })
            fun _ => ⟨rfl, rfl⟩).toAdvance, rfl, rfl⟩
        · cases h
  · cases h

theorem stallAt_raises {n : Half} {x : Sensor} (h : p.stallAt n x = some q) : Raises p q := by
  unfold Part.stallAt at h
  split at h
  · rename_i hm
    split at h
    · cases h
    · split at h
      · exact ⟨p, _, _, _, _, (Option.some.inj h).symm, hm, .refl p, rfl, rfl⟩
      · cases h
  · cases h

theorem parkDeadline_raises (h : p.parkDeadline = some q) : Raises p q := by
  have hloop : ∀ l, Advance p { p with loop := l } := fun l =>
    Cascades.toAdvance (.of_same (q := { p with loop := l }) rfl rfl)
  unfold Part.parkDeadline at h
  split at h
  · rename_i hm
    split at h
    · cases h
    · dsimp only at h
      split at h <;> exact ⟨_, _, _, _, _, (Option.some.inj h).symm, hm, hloop _, rfl, rfl⟩
  · cases h

theorem ejectTimeout_raises (h : p.ejectTimeout = some q) : Raises p q := by
  have hacc : ∀ a, Advance p { p with acc := a } := fun a => { Advance.refl p with picks := fun _ _ e _ => ⟨e, id⟩ }
  unfold Part.ejectTimeout at h
  split at h
  · cases h
  · dsimp only at h
    split at h
    · rename_i hc
      rw [Bool.and_eq_true, Bool.and_eq_true] at hc
      exact ⟨_, _, _, _, _, (Option.some.inj h).symm, hc.1.1, hacc _, rfl, rfl⟩
    · cases h

theorem Raises.advance (h : Raises p q) : Advance p q := by
  obtain ⟨r, k, x, a, b, rfl, -, hr, -, -⟩ := h
  exact hr.trans (raise_cascades r k x a b).toAdvance

theorem not_stopped_of_moving {x : TransportState} (h : x.moving = true) : x.stopped = false := by
  cases x <;> first | rfl | cases h

theorem Raises.rest (h : Raises p q) (ha : p.TransportAgrees) : q.ctl.state.moving = false ∧ q.ctl.state ≠ .warmup := by
  obtain ⟨r, k, x, a, b, rfl, hm, -, hctl, -⟩ := h
  refine raise_rest k x a b ?_
  rw [hctl, ha.1.1]
  exact not_stopped_of_moving hm

theorem clockEvent_advance {e : Part → Option Part} (h : ClockEvent e) (hg : p.TablesGood) (hq : e p = some q) :
    Advance p q := by
  cases h with
  | pitchExpiry => exact (pitchExpiry_cascades hq).toAdvance
  | pickDeadline t =>
    obtain ⟨s, hs, -, rfl⟩ := pickDeadline_some hq
    exact (misfeed_cascades t s hs hg.picksAhead).toAdvance
  | lateLimit n => exact (lateLimit_raises hq).advance
  | stallAt n x => exact (stallAt_raises hq).advance
  | gateRelease g n => exact (gateRelease_cascades hq).toAdvance
  | conversionStart n => exact (conversionStart_cascades hq).toAdvance
  | parkDeadline => exact (parkDeadline_raises hq).advance
  | ejectTimeout => exact (ejectTimeout_raises hq).advance
  | cadenceLoss => exact (cadenceLoss_cascades hq).toAdvance
  | warmupEnd => exact (warmupEnd_cascades hq).toAdvance
  | runEndReached => exact (runEndReached_cascades hq).toAdvance

/-! ### Every event with what follows -/

/-- What the events of a tick rest on, whichever came before. -/
def Part.Ready (p : Part) : Prop := p.TransportAgrees ∧ p.TablesGood

theorem KeepsAll.ready (h : KeepsAll p q) (hr : p.Ready) : q.Ready := ⟨h.agrees hr.1, h.good hr.1 hr.2⟩

theorem fire_cases (e : Part → Option Part) (p : Part) :
    (e p = none ∧ p.fire e = p) ∨ ∃ q, e p = some q ∧ p.fire e = q.close := by
  unfold Part.fire
  cases e p with
  | none => exact .inl ⟨rfl, rfl⟩
  | some q => exact .inr ⟨q, rfl, rfl⟩

theorem fire_advance {e : Part → Option Part} (h : ClockEvent e) (hr : p.Ready) : Advance p (p.fire e) := by
  rcases fire_cases e p with ⟨-, e'⟩ | ⟨q, hq, e'⟩ <;> rw [e']
  · exact .refl p
  · have hq' := (clockEvent_calm h hq).all.ready hr
    exact (clockEvent_advance h hr.2 hq).trans (close_cascades hq'.1 hq'.2).toAdvance

theorem fire_ready {e : Part → Option Part} (h : ClockEvent e) (hr : p.Ready) : (p.fire e).Ready :=
  (fire_all h p).ready hr

end
end Sys2Proof.Machine

namespace Sys2Proof.Machine

section
variable {p q : Part}

/-! ### The records that wait, through the clock's events -/

theorem boundary_link (p : Part) (line : Bool) : (p.boundary line).link = p.link := by
  rcases boundary_cases p line with ⟨-, h⟩ | h | ⟨-, h⟩
  · rw [h]
  · rcases choice_cases _ h with ⟨f, -, -, e⟩ | ⟨d, -, -, e⟩ <;> rw [e]
    · obtain ⟨-, -, -, -, -, hlink⟩ := launchFF_leaves p.raiseSlot f
      exact hlink
    · rfl
  · rw [h]
    split
    · rcases starve_cases p.raiseSlot with e | ⟨k, -, e⟩ <;> rw [e]
      · rfl
      · exact (breakGroup_leaves p.raiseSlot k .starved).link
    · rfl

theorem pitchExpiry_some (h : p.pitchExpiry = some q) : p.arbiter.expiryDue = true
    ∧ (q = { p with arbiter := { p.arbiter with expiryDue := false } }
      ∨ q = Part.boundary { p with arbiter := { p.arbiter with expiryDue := false } } false) := by
  unfold Part.pitchExpiry at h
  split at h
  · rename_i hx
    refine ⟨hx, ?_⟩
    rw [← Option.some.inj h]
    dsimp only
    split
    · exact .inl rfl
    · exact .inr rfl
  · cases h

theorem setTrayState_link (p : Part) (t : TrayId) (x : TrayState) : (p.setTrayState t x).link = p.link := by
  unfold Part.setTrayState
  split <;> rfl

theorem moveOn_link (p : Part) (s : Sheet) : (p.moveOn s).link = p.link := by
  unfold Part.moveOn
  split
  · split <;> rfl
  · rfl

theorem misfeed_link (p : Part) (t : TrayId) (s : Sheet) : (p.misfeed t s).link = p.link := by
  unfold Part.misfeed
  dsimp only
  split
  · split
    · rfl
    · exact (moveOn_link _ s).trans (setTrayState_link _ _ _)
  · exact moveOn_link _ s

theorem raise_orders (p : Part) (k : FaultKind) (x : Option Station) (a b : Option Half) :
    (p.raise k x a b).link.orders = p.link.orders := by
  cases h : p.ctl.locked with
  | true => rw [raise_locked k x a b h]
  | false =>
    obtain ⟨-, -, -, -, -, hlink⟩ := raise_unlocked (p := p) k x a b h
    rw [hlink]
    split <;> rfl

theorem Raises.orders (h : Raises p q) : q.link.orders = p.link.orders := by
  obtain ⟨r, k, x, a, b, rfl, -, -, -, hlink⟩ := h
  rw [raise_orders, hlink]

theorem drainForCadence_link (p : Part) : p.drainForCadence.link = p.link := by
  unfold Part.drainForCadence
  split
  · rfl
  · split <;> rfl
  · rfl

theorem recoveryEnd_link (h : p.recoveryEnd = some q) : q.link = p.link := by
  unfold Part.recoveryEnd at h
  split at h
  · rw [← Option.some.inj h, enterStandby_eq]
    rfl
  · cases h

theorem runEndReached_link (h : p.runEndReached = some q) : q.link = p.link := by
  unfold Part.runEndReached at h
  split at h
  · rw [← Option.some.inj h]
    unfold Part.attempt
    cases he : Part.recoveryEnd { p with ctl := { p.ctl with runEndReached := true } } with
    | none => rfl
    | some q =>
      have hlink := recoveryEnd_link he
      exact hlink
  · cases h

/-- The clock's events take no record from the Order Queue and add none. -/
theorem clockEvent_orders {e : Part → Option Part} (h : ClockEvent e) (hq : e p = some q) :
    q.link.orders = p.link.orders := by
  cases h with
  | pitchExpiry =>
    rcases (pitchExpiry_some hq).2 with rfl | rfl
    · rfl
    · rw [boundary_link]
  | pickDeadline t =>
    obtain ⟨s, -, -, rfl⟩ := pickDeadline_some hq
    rw [misfeed_link]
  | lateLimit n => exact (lateLimit_raises hq).orders
  | stallAt n x => exact (stallAt_raises hq).orders
  | gateRelease g n =>
    unfold Part.gateRelease at hq
    dsimp only at hq
    split at hq <;> cases hq
    rfl
  | conversionStart n =>
    obtain ⟨-, _, _, _, _, -, -, -, _, -, -, -, -, hlink⟩ := conversionStart_some hq
    rw [hlink]
  | parkDeadline => exact (parkDeadline_raises hq).orders
  | ejectTimeout => exact (ejectTimeout_raises hq).orders
  | cadenceLoss =>
    rw [eq_of_cadenceLoss hq]
    show (p.loseCadence.breakOpen .cadence).drainForCadence.link.orders = _
    rw [drainForCadence_link, (breakOpen_leaves _ _).link]
    rfl
  | warmupEnd =>
    unfold Part.warmupEnd at hq
    split at hq
    · rw [← Option.some.inj hq, armWatch_eq]
      rfl
    · cases hq
  | runEndReached => rw [runEndReached_link hq]

/-! ### A tick with no Parameter Set to come into force -/

/-- No Parameter Set is pending. -/
def Part.NonePending (p : Part) : Prop := ∀ c, p.link.pendingLoad ≠ some (.parameters c)

theorem Part.NonePending.congr (h : p.NonePending) (e : q.link.pendingLoad = p.link.pendingLoad) : q.NonePending :=
  fun c => by rw [e]; exact h c

/-- No Parameter Set is pending and no LOAD of one is queued. -/
def Part.ParametersRest (p : Part) : Prop :=
  p.NonePending ∧ ∀ i b, Queued.load .parameters i b ∉ p.link.orders

/-- The divider, the fraction accumulator and the pitch counter as they were (R6, R9). -/
structure SameRates (p q : Part) : Prop where
  parameters : q.tables.parameters = p.tables.parameters
  spdInt : q.clock.spdInt = p.clock.spdInt
  spdFrac : q.clock.spdFrac = p.clock.spdFrac
  fraction : q.clock.fraction = p.clock.fraction
  pitch : q.arbiter.pitch = p.arbiter.pitch

theorem SameRates.refl (p : Part) : SameRates p p := ⟨rfl, rfl, rfl, rfl, rfl⟩

theorem SameRates.trans {r : Part} (h : SameRates p q) (k : SameRates q r) : SameRates p r :=
  ⟨k.parameters.trans h.parameters, k.spdInt.trans h.spdInt, k.spdFrac.trans h.spdFrac, k.fraction.trans h.fraction,
    k.pitch.trans h.pitch⟩

theorem Mild.sameRates (h : Mild p q) : SameRates p q := ⟨by rw [h.tables], h.spdInt, h.spdFrac, h.fraction, h.pitch⟩

theorem loadResult_sameRates (p : Part) (t : TableId) (c : Option LoadCause) : SameRates p (p.loadResult t c) := by
  have h := (loadResult_same p t c).1
  exact ⟨(congrArg (fun x : Part => x.tables.parameters) h :), (congrArg (fun x : Part => x.clock.spdInt) h :),
    (congrArg (fun x : Part => x.clock.spdFrac) h :), (congrArg (fun x : Part => x.clock.fraction) h :),
    (congrArg (fun x : Part => x.arbiter.pitch) h :)⟩

theorem applyLocked_sameRates {c : PendingLoad} (hc : ∀ x, c ≠ .parameters x) : SameRates p (p.applyLocked c) := by
  cases c with
  | parameters x => exact absurd rfl (hc x)
  | _ => exact ⟨rfl, rfl, rfl, rfl, rfl⟩

theorem checkLocked_table {t : TableId} {first : Nat} {body : List Byte} {x : List Nat}
    (h : p.checkLocked t first body = .ok (.parameters x)) : t = .parameters := by
  unfold Part.checkLocked at h
  cases t with
  | parameters => rfl
  | geometry => dsimp only at h; cases hg : p.checkGeometry first (wordEntries body) <;> rw [hg] at h <;> cases h
  | media => dsimp only at h; cases hg : p.checkMedia first (mediaEntries body) <;> rw [hg] at h <;> cases h
  | routing => cases h
  | binMap => cases h

theorem liveLoad_sameRates (p : Part) (t : TableId) (n : Nat) (b : List Byte) : SameRates p (p.liveLoad t n b).1 := by
  rcases liveLoad_cases p t n b with e | ⟨c, -, e⟩ | ⟨c, -, e⟩ <;> rw [e]
  · exact .refl p
  · exact ⟨rfl, rfl, rfl, rfl, rfl⟩
  · have hmap : SameRates p (p.withBinMap c) := ⟨rfl, rfl, rfl, rfl, rfl⟩
    exact hmap.trans (reformBins_calm _ fun b x => underMode_stacked x _ _).toMild.sameRates

theorem liveLoadTaken_sameRates (h : p.liveLoadTaken = some q) :
    SameRates p q ∧ q.link.pendingLoad = p.link.pendingLoad := by
  unfold Part.liveLoadTaken at h
  split at h
  · rename_i t first body rest _
    split at h
    · cases h
      exact ⟨(liveLoad_sameRates p t first body).trans (loadResult_sameRates _ t _),
        (loadResult_same _ t _).2.trans (congrArg Link.pendingLoad (liveLoad_link p t first body))⟩
    · cases h
  · cases h

theorem pendingLoadApplied_sameRates (hr : p.NonePending) (h : p.pendingLoadApplied = some q) :
    SameRates p q ∧ q.NonePending := by
  unfold Part.pendingLoadApplied at h
  split at h
  · rename_i c hc
    split at h
    · cases h
      have hne : ∀ x, c ≠ .parameters x := fun x e => hr x (e ▸ hc)
      have hclear : SameRates p (p.setPendingLoad none) := ⟨rfl, rfl, rfl, rfl, rfl⟩
      refine ⟨hclear.trans (applyLocked_sameRates hne), fun x => ?_⟩
      rw [applyLocked_link]
      exact fun e => nomatch e
    · cases h
  · cases h

/-- A Path Geometry, Parameter Set or Media Table load taken is applied at once on an empty path (R183); any other
leaves the tables as they are, and is pending with the path not empty (R182). -/
theorem lockedLoadTaken_cases (h : p.lockedLoadTaken = some q) : ∃ t first body rest,
    p.link.orders = Queued.load t first body :: rest
    ∧ ((∃ c, p.checkLocked t first body = .ok c ∧ p.pathEmpty = true ∧ q = (p.loadResult t none).applyLocked c)
      ∨ SameRates p q ∧ (q.link.pendingLoad = p.link.pendingLoad
        ∨ p.pathEmpty = false ∧ ∃ c, p.checkLocked t first body = .ok c ∧ q.link.pendingLoad = some c)) := by
  unfold Part.lockedLoadTaken at h
  split at h
  · rename_i t first body rest horders
    refine ⟨t, first, body, rest, horders, ?_⟩
    split at h
    · have hres := loadResult_sameRates p t
      split at h
      · cases h
        exact .inr ⟨hres _, .inl (loadResult_same p t _).2⟩
      · rename_i c hc
        dsimp only at h
        split at h
        · rename_i hempty
          exact .inl ⟨c, hc, hempty, (Option.some.inj h).symm⟩
        · rename_i hempty
          have hr := hres none
          generalize p.loadResult t none = r at h hr
          have htrunc := (truncate_calm (r.setPendingLoad (some c))).toMild
          have hset : SameRates r (r.setPendingLoad (some c)) := ⟨rfl, rfl, rfl, rfl, rfl⟩
          have hall := (hr.trans hset).trans htrunc.sameRates
          refine .inr ?_
          cases h
          split
          · exact ⟨hall.trans ⟨rfl, rfl, rfl, rfl, rfl⟩, .inr ⟨Bool.eq_false_iff.2 hempty, c, hc, htrunc.pendingLoad⟩⟩
          · exact ⟨hall, .inr ⟨Bool.eq_false_iff.2 hempty, c, hc, htrunc.pendingLoad⟩⟩
    · cases h
  · cases h

theorem lockedLoadTaken_sameRates (hr : p.ParametersRest) (h : p.lockedLoadTaken = some q) :
    SameRates p q ∧ q.NonePending := by
  obtain ⟨t, first, body, rest, horders, h⟩ := lockedLoadTaken_cases h
  have hne : ∀ c, p.checkLocked t first body = .ok c → ∀ x, c ≠ .parameters x := fun c hc x e => by
    have ht := checkLocked_table (e ▸ hc)
    exact hr.2 first body (by rw [horders, ht]; exact List.mem_cons_self ..)
  rcases h with ⟨c, hc, -, rfl⟩ | ⟨hs, hsame | ⟨-, c, hc, hpend⟩⟩
  · exact ⟨(loadResult_sameRates p t none).trans (applyLocked_sameRates (hne c hc)),
      hr.1.congr (by rw [applyLocked_link, (loadResult_same p t none).2])⟩
  · exact ⟨hs, hr.1.congr hsame⟩
  · exact ⟨hs, fun x e => hne c hc x (Option.some.inj (hpend.symm.trans e))⟩

/-- What follows in the same event leaves the tables and the pending load, a LOAD applied or taken aside. -/
theorem internal_mild (h : p.internal = some q) :
    p.pendingLoadApplied = some q ∨ p.liveLoadTaken = some q ∨ p.lockedLoadTaken = some q ∨ Mild p q := by
  rcases internal_cases h with h | h | h | h | h | h | h | h | h | h | h | h | h | h | h | h | h
  · exact .inl h
  · exact .inr (.inr (.inr (drainEnd_calm h).toMild))
  · exact .inr (.inr (.inr (runoutEnd_calm h).toMild))
  · exact .inr (.inr (.inr (setEjectStart_roomed h).toMild))
  · exact .inr (.inr (.inr (groupResolution_calm h).toMild))
  · exact .inr (.inr (.inr (stallEnd_calm h).toMild))
  · exact .inr (.inr (.inr (headTruncation_calm h).toMild))
  · exact .inr (.inr (.inr (groupAdmission_roomed h).toMild))
  · exact .inr (.inr (.inr (brokenFromStart_roomed h).toMild))
  · exact .inr (.inr (.inr (furtherOrderPick_roomed h).toMild))
  · exact .inr (.inr (.inr (discardedAsUnfed_roomed h).toMild))
  · exact .inr (.inr (.inr (orphanTaken_calm h).toMild))
  · exact .inr (.inr (.inr (stopTaken_calm h).toMild))
  · exact .inr (.inr (.inr (purgeTaken_calm h).toMild))
  · exact .inr (.inl h)
  · exact .inr (.inr (.inl h))
  · exact .inr (.inr (.inr (recoveryEnd_calm h).toMild))

theorem internal_sameRates (hr : p.ParametersRest) (h : p.internal = some q) : q.ParametersRest ∧ SameRates p q := by
  have horders : ∀ i b, Queued.load .parameters i b ∉ q.link.orders := fun i b hm =>
    hr.2 i b ((internal_follows h).orders.subset hm)
  have hload : SameRates p q ∧ q.NonePending → q.ParametersRest ∧ SameRates p q :=
    fun ⟨hs, hp⟩ => ⟨⟨hp, horders⟩, hs⟩
  rcases internal_mild h with h | h | h | h
  · exact hload (pendingLoadApplied_sameRates hr.1 h)
  · exact hload ((liveLoadTaken_sameRates h).imp id hr.1.congr)
  · exact hload (lockedLoadTaken_sameRates hr h)
  · exact hload ⟨h.sameRates, hr.1.congr h.pendingLoad⟩

theorem close_sameRates (hr : p.ParametersRest) : p.close.ParametersRest ∧ SameRates p p.close := by
  have hsettle : p.settle.ParametersRest ∧ SameRates p p.settle :=
    settleIn_keeps (I := fun x => x.ParametersRest ∧ SameRates p x)
      (fun x y ⟨hx, hs⟩ e => (internal_sameRates hx e).imp id hs.trans) _ p ⟨hr, .refl p⟩
  have hfinish := (finish_calm p.settle).toMild
  refine ⟨⟨fun c => ?_, fun i b hm => ?_⟩, hsettle.2.trans hfinish.sameRates⟩
  · show p.settle.finish.link.pendingLoad ≠ _
    rw [hfinish.pendingLoad]
    exact hsettle.1.1 c
  · exact hsettle.1.2 i b ((finish_follows p.settle).orders.subset hm)

theorem fire_sameRates {e : Part → Option Part} (h : ClockEvent e) (hr : p.ParametersRest) :
    (p.fire e).ParametersRest ∧ SameRates p (p.fire e) := by
  rcases fire_cases e p with ⟨-, e'⟩ | ⟨q, hq, e'⟩ <;> rw [e']
  · exact ⟨hr, .refl p⟩
  · have hm := (clockEvent_calm h hq).toMild
    have hr' : q.ParametersRest := ⟨fun c => by rw [hm.pendingLoad]; exact hr.1 c, fun i b => by
      rw [clockEvent_orders h hq]; exact hr.2 i b⟩
    exact (close_sameRates hr').imp id hm.sameRates.trans

end
end Sys2Proof.Machine

namespace Sys2Proof.Machine

section
variable {p q : Part}

/-! ### The events of a tick in their order -/

/-- The events of the clock but for the pitch expiry. -/
def Part.deadlines (p : Part) : List (Part → Option Part) :=
  TrayId.list.map Part.pickDeadline
  ++ p.track.sheets.map (fun s => Part.lateLimit s.seq)
  ++ p.track.sheets.flatMap Sheet.stallTests
  ++ p.gates.gdOccupants.map (fun o => Part.gateRelease .gd o.seq)
  ++ p.gates.gxOccupants.map (fun o => Part.gateRelease .gx o.seq)
  ++ p.track.sheets.map (fun s => Part.conversionStart s.seq)
  ++ p.loop.map (fun _ => Part.parkDeadline)
  ++ [Part.ejectTimeout, Part.cadenceLoss, Part.warmupEnd, Part.runEndReached]

theorem clockEvents_eq (p : Part) : p.clockEvents = Part.pitchExpiry :: p.deadlines := rfl

theorem fireAll_eq (p : Part) : p.fireAll = p.deadlines.foldl Part.fire (p.fire Part.pitchExpiry) := rfl

theorem clockEvent_of_deadline {e : Part → Option Part} (h : e ∈ p.deadlines) : ClockEvent e :=
  clockEvent_of_mem (p := p) (List.mem_cons_of_mem _ h)

/-- What every event keeps, the events of a tick keep. -/
theorem foldl_fire_keeps {I : Part → Prop} (hI : ∀ e x, ClockEvent e → I x → I (x.fire e))
    (l : List (Part → Option Part)) : ∀ {p : Part}, (∀ e ∈ l, ClockEvent e) → I p → I (l.foldl Part.fire p) := by
  induction l with
  | nil => exact fun _ h => h
  | cons e l ih =>
    exact fun hl h => ih (fun x hx => hl x (List.mem_cons_of_mem _ hx)) (hI e _ (hl e (List.mem_cons_self ..)) h)

/-- After the pitch expiry none waits (R9). -/
theorem fire_pitchExpiry_expiry (p : Part) : (p.fire Part.pitchExpiry).arbiter.expiryDue = false := by
  rcases fire_cases Part.pitchExpiry p with ⟨hn, e⟩ | ⟨q, hq, e⟩ <;> rw [e]
  · refine Bool.eq_false_iff.2 fun hx => ?_
    unfold Part.pitchExpiry at hn
    rw [if_pos hx] at hn
    cases hn
  · refine Bool.eq_false_iff.2 fun hx => ?_
    have hx' := (close_all q).expiry hx
    rcases (pitchExpiry_some hq).2 with rfl | rfl
    · cases hx'
    · exact nomatch (boundary_calm _ false).expiry hx'

theorem deadlines_expiry (h : p.arbiter.expiryDue = false) {l : List (Part → Option Part)}
    (hl : ∀ e ∈ l, ClockEvent e) :
    (l.foldl Part.fire p).arbiter.expiryDue = false :=
  foldl_fire_keeps (I := fun x => x.arbiter.expiryDue = false)
    (fun _ x he hx => Bool.eq_false_iff.2 fun e => Bool.eq_false_iff.1 hx ((fire_all he x).expiry e)) l hl h

theorem fireAll_expiry (p : Part) : p.fireAll.arbiter.expiryDue = false := by
  rw [fireAll_eq]
  exact deadlines_expiry (fire_pitchExpiry_expiry p) fun _ => clockEvent_of_deadline

theorem fireAll_sameRates (h : p.ParametersRest) : SameRates p p.fireAll :=
  (foldl_fire_keeps (I := fun x => x.ParametersRest ∧ SameRates p x)
    (fun _ _ he hx => (fire_sameRates he hx.1).imp id hx.2.trans) _ (fun _ => clockEvent_of_mem) ⟨h, .refl p⟩).2

/-- With no event due a tick's events change nothing. -/
theorem fireAll_none (h : ∀ e ∈ p.clockEvents, e p = none) : p.fireAll = p := by
  have hall : ∀ l : List (Part → Option Part), (∀ e ∈ l, e p = none) → l.foldl Part.fire p = p := by
    intro l
    induction l with
    | nil => exact fun _ => rfl
    | cons e l ih =>
      intro hl
      have hfire : p.fire e = p := by
        unfold Part.fire
        rw [hl e (List.mem_cons_self ..)]
      rw [List.foldl_cons, hfire]
      exact ih fun x hx => hl x (List.mem_cons_of_mem _ hx)
  exact hall _ h

/-! ### Totality and the idle tick (R6, R8, R9) -/

/-- Of the commands only a power-on reset moves the tick counter. -/
theorem ownEffect_tick (c : Instr) (hc : ∀ l, c ≠ .powerOnReset l) : (ownEffect c p).clock.tick = p.clock.tick := by
  rcases ownEffect_cases p c with ⟨l, rfl | rfl⟩ | h | ⟨r, hr, -, h⟩
  · exact absurd rfl (hc l)
  · rfl
  · exact h.tick
  · exact (hr.toMild.trans h.mild).tick

/-- The length of the tick that begins, and the fraction it leaves (R6). -/
theorem divide_cases (k : Clock) : k.divide.spdInt = k.spdInt ∧ k.divide.spdFrac = k.spdFrac
    ∧ (k.fraction + k.spdFrac < 16 → k.divide.period = k.spdInt ∧ k.divide.fraction = k.fraction + k.spdFrac)
    ∧ (16 ≤ k.fraction + k.spdFrac →
      k.divide.period = k.spdInt + 1 ∧ k.divide.fraction = k.fraction + k.spdFrac - 16) := by
  unfold Clock.divide
  split
  · exact ⟨rfl, rfl, fun _ => ⟨rfl, rfl⟩, fun _ => by omega⟩
  · exact ⟨rfl, rfl, fun _ => by omega, fun _ => ⟨rfl, rfl⟩⟩

theorem endTick_clock (p : Part) : p.endTick.clock = { p.clock.divide with tick := p.clock.tick + 1 } := by
  obtain ⟨n, e, he⟩ := endTick_eq p
  rw [he]

/-- The pitch counter at the end of a tick (R9). -/
theorem endTick_pitch (p : Part) : (p.tables.parameters = none → p.endTick.arbiter = p.arbiter)
    ∧ ∀ c, p.tables.parameters = some c →
      (p.arbiter.pitch + 1 < c.pitch →
        p.endTick.arbiter = { p.arbiter with pitch := p.arbiter.pitch + 1 })
      ∧ (c.pitch ≤ p.arbiter.pitch + 1 → p.endTick.arbiter = { p.arbiter with pitch := 0, expiryDue := true }) := by
  refine ⟨fun h => ?_, fun c h => ⟨fun hlt => ?_, fun hle => ?_⟩⟩
  · unfold Part.endTick
    rw [countPitch_none (by exact h)]
  · unfold Part.endTick
    rw [countPitch_some (s := c) (by exact h)]
    exact congrArg Part.arbiter (if_pos hlt)
  · unfold Part.endTick
    rw [countPitch_some (s := c) (by exact h)]
    exact congrArg Part.arbiter (if_neg (Nat.not_lt.2 hle))

theorem tick_tick (p : Part) : p.tick.clock.tick = p.clock.tick + 1 := by
  show p.start.fireAll.endTick.clock.tick = _
  rw [endTick_clock]
  exact congrArg (· + 1) (fireAll_all p.start).tick

/-- A tick in which no event is due changes the clock and the pitch counter alone. -/
theorem tick_none (h : ∀ e ∈ p.clockEvents, e p.start = none) :
    p.tick = { p with sent := [], clock := p.tick.clock, arbiter := p.tick.arbiter }
    ∧ p.tick.arbiter = { p.arbiter with pitch := p.tick.arbiter.pitch, expiryDue := p.tick.arbiter.expiryDue }
    ∧ p.tick.clock = { p.clock with
        tick := p.clock.tick + 1, period := p.tick.clock.period, fraction := p.tick.clock.fraction } := by
  have htick : p.tick = p.start.endTick := congrArg Part.endTick (fireAll_none (p := p.start) h)
  obtain ⟨n, e, he⟩ := endTick_eq p.start
  have hdivide : p.clock.divide
      = { p.clock with period := p.clock.divide.period, fraction := p.clock.divide.fraction } := by
    unfold Clock.divide
    split <;> rfl
  rw [htick, he]
  refine ⟨rfl, rfl, ?_⟩
  exact congrArg (fun k : Clock => { k with tick := p.clock.tick + 1 }) hdivide

/-- Settles O2: a command's own effect and what follows keep the tick counter; the events of an idle tick keep the
divider and the pitch counter while no Parameter Set comes into force, and the end of the tick moves them. -/
theorem commandsNeverStop : Obligations.CommandsNeverStop := by
  intro s
  refine ⟨fun c => ⟨_, exec_ownEffect c s, rfl, fun hc => ?_⟩, fun hp => ⟨s.idle, ?_, hp, tick_tick s.toPart, ?_,
    tick_none⟩⟩
  · exact (close_all _).tick.trans (ownEffect_tick c hc)
  · unfold step
    rw [hp]
  · intro hpending hqueued
    have hsame := fireAll_sameRates (p := s.toPart.start) ⟨hpending, hqueued⟩
    have hexpiry := fireAll_expiry s.toPart.start
    obtain ⟨hint, hfrac, hlow, hhigh⟩ := divide_cases s.toPart.start.fireAll.clock
    obtain ⟨hnone, hsome⟩ := endTick_pitch s.toPart.start.fireAll
    rw [hsame.spdInt, hsame.spdFrac, hsame.fraction] at hlow hhigh
    rw [hsame.parameters] at hnone hsome
    have hclock : s.idle.clock
        = { s.toPart.start.fireAll.clock.divide with tick := s.toPart.start.fireAll.clock.tick + 1 } :=
      endTick_clock _
    rw [hclock]
    refine ⟨hint.trans hsame.spdInt, hfrac.trans hsame.spdFrac, hlow, hhigh, fun h => ?_, fun c h => ⟨fun hlt => ?_,
      fun hle => ?_⟩⟩
    · exact (congrArg Arbiter.pitch (hnone h)).trans hsame.pitch
    · have := (hsome c h).1 (by rw [hsame.pitch]; exact hlt)
      refine ⟨(congrArg Arbiter.pitch this).trans ?_, (congrArg Arbiter.expiryDue this).trans hexpiry⟩
      exact congrArg (· + 1) hsame.pitch
    · have := (hsome c h).2 (by rw [hsame.pitch]; exact hle)
      exact ⟨congrArg Arbiter.pitch this, congrArg Arbiter.expiryDue this⟩

end
end Sys2Proof.Machine

namespace Sys2Proof.Machine

section
variable {p q : Part}

/-! ### A deadline that is reached is taken (R8) -/

/-- An event of the list brings about what every event then keeps. -/
theorem foldl_fire_reaches {I J : Part → Prop} {l : List (Part → Option Part)} {e : Part → Option Part}
    (hl : ∀ x ∈ l, ClockEvent x) (he : e ∈ l) (hI : ∀ e x, ClockEvent e → x.Ready → I x → I (x.fire e))
    (hJ : ∀ e x, ClockEvent e → x.Ready → J x → J (x.fire e)) (hIJ : ∀ x, x.Ready → I x → J (x.fire e))
    (hr : p.Ready) (h : I p) : J (l.foldl Part.fire p) := by
  have hkeep : ∀ {K : Part → Prop}, (∀ e x, ClockEvent e → x.Ready → K x → K (x.fire e)) → ∀ e x, ClockEvent e →
      x.Ready ∧ K x → (x.fire e).Ready ∧ K (x.fire e) := fun hK e x he hx =>
    ⟨fire_ready he hx.1, hK e x he hx.1 hx.2⟩
  obtain ⟨l₁, l₂, rfl⟩ := List.append_of_mem he
  rw [List.foldl_append, List.foldl_cons]
  have hbefore := foldl_fire_keeps (I := fun x => x.Ready ∧ I x) (hkeep hI) l₁ (p := p)
    (fun x hx => hl x (List.mem_append_left _ hx)) ⟨hr, h⟩
  exact (foldl_fire_keeps (I := fun x => x.Ready ∧ J x) (hkeep hJ) l₂
    (fun x hx => hl x (List.mem_append_right _ (List.mem_cons_of_mem _ hx)))
    ⟨fire_ready (hl e he) hbefore.1, hIJ _ hbefore.1 hbefore.2⟩).2

/-! #### Deadlines that stop the transport (R87, R90, R121, R137) -/

/-- The transport rests, and not to warm up. -/
def Part.Stopped (p : Part) : Prop := p.ctl.state.moving = false ∧ p.ctl.state ≠ .warmup

theorem Advance.stopped (h : Advance p q) (hs : p.Stopped) : q.Stopped := by
  refine ⟨Bool.eq_false_iff.2 fun e => ?_, fun e => hs.2 (h.warmup e).1⟩
  rcases h.moving e with hm | hw
  · exact Bool.eq_false_iff.1 hs.1 hm
  · exact hs.2 hw

/-- What the deadlines that stop the transport read stays. -/
structure Stays (p q : Part) : Prop where
  sheets : p.track.sheets.map Sheet.steady <+: q.track.sheets.map Sheet.steady
  loop : q.loop = p.loop
  eject : ∀ e, p.acc.eject = some e → q.acc.eject = some e

theorem Stays.of_same (hs : q.track.sheets.map Sheet.steady = p.track.sheets.map Sheet.steady) (hl : q.loop = p.loop)
    (he : q.acc.eject = p.acc.eject) : Stays p q := ⟨by rw [hs], hl, fun _ h => he.trans h⟩

theorem Stays.trans {r : Part} (h : Stays p q) (k : Stays q r) : Stays p r :=
  ⟨h.sheets.trans k.sheets, k.loop.trans h.loop, fun e he => k.eject e (h.eject e he)⟩

theorem close_stays (h : p.Ready) : Stays p p.close :=
  ⟨(close_follows p).sheets, congrArg Steady.loop (close_steady p), (close_cascades h.1 h.2).eject⟩

theorem mapSheet_steady_sheets (p : Part) (n : Half) {f : Sheet → Sheet} (hf : ∀ s, (f s).steady = s.steady) :
    (p.mapSheet n f).track.sheets.map Sheet.steady = p.track.sheets.map Sheet.steady :=
  map_steady (fun s => by split; exacts [hf s, rfl]) p.track.sheets

theorem moveOn_stays (p : Part) (s : Sheet) : Stays p (p.moveOn s) := by
  unfold Part.moveOn
  split
  · split
    · rename_i t _
      exact .of_same (mapSheet_steady_sheets p s.seq (f := fun r => { r with tray := t, attempts := 0 }) fun _ => rfl)
        rfl rfl
    · exact .of_same rfl rfl rfl
  · exact .of_same rfl rfl rfl

theorem setTrayState_stays (p : Part) (t : TrayId) (x : TrayState) : Stays p (p.setTrayState t x) := by
  unfold Part.setTrayState
  split <;> exact .of_same rfl rfl rfl

theorem misfeed_stays (p : Part) (t : TrayId) (s : Sheet) : Stays p (p.misfeed t s) := by
  have hdrop : Stays p (p.mapFeeder t fun f => { f with request := false, deadline := none }) := .of_same rfl rfl rfl
  unfold Part.misfeed
  dsimp only
  split
  · split
    · exact .of_same
        (mapSheet_steady_sheets p s.seq (f := fun r => { r with attempts := r.attempts + 1 }) fun _ => rfl) rfl rfl
    · exact (hdrop.trans (setTrayState_stays _ t .fault)).trans (moveOn_stays _ s)
  · exact hdrop.trans (moveOn_stays _ s)

theorem drainForCadence_stays (p : Part) : Stays p p.drainForCadence := by
  unfold Part.drainForCadence
  split
  · exact .of_same rfl rfl rfl
  · split <;> exact .of_same rfl rfl rfl
  · exact .of_same rfl rfl rfl

theorem recoveryEnd_stays (h : p.recoveryEnd = some q) : Stays p q := by
  unfold Part.recoveryEnd at h
  split at h
  · rw [← Option.some.inj h, enterStandby_eq]
    exact .of_same (map_steady discardSampling_steady _) rfl rfl
  · cases h

theorem runEndReached_eq (h : p.runEndReached = some q) :
    q = Part.attempt { p with ctl := { p.ctl with runEndReached := true } } Part.recoveryEnd := by
  unfold Part.runEndReached at h
  split at h
  · exact (Option.some.inj h).symm
  · cases h

/-- An event of the clock, the pitch expiry aside, stops the transport or leaves what such deadlines read. -/
theorem clockEvent_stays {e : Part → Option Part} (h : ClockEvent e) (ha : p.TransportAgrees)
    (hx : p.arbiter.expiryDue = false) (hq : e p = some q) : q.Stopped ∨ Stays p q := by
  cases h with
  | pitchExpiry => exact absurd ((pitchExpiry_some hq).1.symm.trans hx) Bool.noConfusion
  | pickDeadline t =>
    obtain ⟨s, -, -, rfl⟩ := pickDeadline_some hq
    exact .inr (misfeed_stays p t s)
  | lateLimit n => exact .inl ((lateLimit_raises hq).rest ha)
  | stallAt n x => exact .inl ((stallAt_raises hq).rest ha)
  | gateRelease g n =>
    unfold Part.gateRelease at hq
    dsimp only at hq
    split at hq <;> cases hq
    exact .inr (.of_same rfl rfl rfl)
  | conversionStart n =>
    obtain ⟨-, _, _, _, _, -, -, -, x, -, hsheets, htimers, hloop, -⟩ := conversionStart_some hq
    refine .inr (.of_same ?_ hloop (congrArg Timers.eject htimers))
    rw [hsheets]
    exact mapSheet_steady_sheets p n (f := fun r => { r with sampling := x }) fun _ => rfl
  | parkDeadline => exact .inl ((parkDeadline_raises hq).rest ha)
  | ejectTimeout => exact .inl ((ejectTimeout_raises hq).rest ha)
  | cadenceLoss =>
    rw [eq_of_cadenceLoss hq]
    have hb := breakOpen_leaves p.loseCadence .cadence
    have hbreak : Stays p (p.loseCadence.breakOpen .cadence) :=
      .of_same hb.sheets hb.loop (by rw [hb.acc]; rfl)
    have hnotice : ∀ x : Part, Stays x x.notice := fun _ => .of_same rfl rfl rfl
    exact .inr ((hbreak.trans (drainForCadence_stays _)).trans (hnotice _))
  | warmupEnd =>
    unfold Part.warmupEnd at hq
    split at hq
    · rw [← Option.some.inj hq, armWatch_eq]
      exact .inr (.of_same rfl rfl rfl)
    · cases hq
  | runEndReached =>
    rw [runEndReached_eq hq]
    have hflag : Stays p { p with ctl := { p.ctl with runEndReached := true } } := .of_same rfl rfl rfl
    unfold Part.attempt
    cases he : Part.recoveryEnd { p with ctl := { p.ctl with runEndReached := true } } with
    | none => exact .inr hflag
    | some q => exact .inr (hflag.trans (recoveryEnd_stays he))

theorem fire_stays {e : Part → Option Part} (h : ClockEvent e) (hr : p.Ready) (hx : p.arbiter.expiryDue = false) :
    (p.fire e).Stopped ∨ Stays p (p.fire e) := by
  rcases fire_cases e p with ⟨-, e'⟩ | ⟨q, hq, e'⟩ <;> rw [e']
  · exact .inr (.of_same rfl rfl rfl)
  · have hr' := (clockEvent_calm h hq).all.ready hr
    rcases clockEvent_stays h hr.1 hx hq with hs | hs
    · exact .inl ((close_cascades hr'.1 hr'.2).toAdvance.stopped hs)
    · exact .inr (hs.trans (close_stays hr'))

/-- Of a moving transport a deadline that stops it, reached before the tick's deadlines are looked at and resting on
what stays, leaves a stopped one. -/
theorem stops_of_due {P : Part → Prop} {e : Part → Option Part} {r : Part} (hP : ∀ x y, Stays x y → P x → P y)
    (he : e ∈ p.deadlines)
    (hfire : ∀ x, x.ctl.state.moving = true → x.clock.tick = r.clock.tick → P x → ∃ q, e x = some q ∧ Raises x q)
    (hr : r.Ready) (hx : r.arbiter.expiryDue = false) (hw : r.ctl.state ≠ .warmup)
    (hp : r.ctl.state.moving = true → P r) : (p.deadlines.foldl Part.fire r).Stopped := by
  refine foldl_fire_reaches (J := Part.Stopped)
    (I := fun x => x.arbiter.expiryDue = false ∧ x.ctl.state ≠ .warmup ∧ x.clock.tick = r.clock.tick
      ∧ (x.ctl.state.moving = true → P x))
    (fun _ => clockEvent_of_deadline) he (fun e x hc hr' ⟨hx', hw', ht', hp'⟩ => ?_)
    (fun _ _ hc hr' => (fire_advance hc hr').stopped) (fun x hr' ⟨hx', hw', ht', hp'⟩ => ?_) hr ⟨hx, hw, rfl, hp⟩
  · have hadv := fire_advance hc hr'
    refine ⟨Bool.eq_false_iff.2 fun h => Bool.eq_false_iff.1 hx' ((fire_all hc x).expiry h),
      fun h => hw' (hadv.warmup h).1,
      hadv.tick.trans ht', fun hm => ?_⟩
    rcases fire_stays hc hr' hx' with hs | hs
    · exact absurd hs.1 (by rw [hm]; decide)
    · exact hP _ _ hs (hp' ((hadv.moving hm).resolve_right hw'))
  · have hc := clockEvent_of_deadline he
    cases hm : x.ctl.state.moving with
    | false => exact (fire_advance hc hr').stopped ⟨hm, hw'⟩
    | true =>
      obtain ⟨q, hq, hraise⟩ := hfire x hm ht' (hp' hm)
      rcases fire_cases e x with ⟨hn, -⟩ | ⟨q', hq', e'⟩
      · rw [hn] at hq
        cases hq
      · cases hq.symm.trans hq'
        have hr'' := (clockEvent_calm hc hq).all.ready hr'
        rw [e']
        exact (close_cascades hr''.1 hr''.2).toAdvance.stopped (hraise.rest hr'.1)

/-- The first record of a seq stays the first, with its steady fields. -/
theorem sheet?_of_prefix (h : p.track.sheets.map Sheet.steady <+: q.track.sheets.map Sheet.steady)
    {n : Half} {x : Sheet}
    (hx : p.sheet? n = some x) : ∃ y, q.sheet? n = some y ∧ y.steady = x.steady := by
  obtain ⟨rest, hrest⟩ := h
  obtain ⟨a, b, hab, ha, -⟩ := List.map_eq_append_iff.1 hrest.symm
  have hfind : ∀ l : List Sheet, (l.map Sheet.steady).find? (fun s => s.seq == n)
      = (l.find? fun s => s.seq == n).map Sheet.steady := fun l => List.find?_map ..
  have heq : (a.find? fun s => s.seq == n).map Sheet.steady = some x.steady := by
    rw [← hfind, ha, hfind]
    exact congrArg (Option.map Sheet.steady) hx
  obtain ⟨y, hy, hyx⟩ := Option.map_eq_some_iff.1 heq
  refine ⟨y, ?_, hyx⟩
  unfold Part.sheet?
  rw [hab, List.find?_append, hy]
  rfl

end
end Sys2Proof.Machine

namespace Sys2Proof.Machine

section
variable {p q : Part}

/-! ### A boundary leaves the moving records (R63, R64, R68, R69) -/

/-- A record of another seq is found as it was. -/
theorem mapSheet_sheet?_other (p : Part) {m n : Half} {f : Sheet → Sheet} (hf : ∀ s, (f s).seq = s.seq) (h : m ≠ n) :
    (p.mapSheet n f).sheet? m = p.sheet? m := by
  unfold Part.sheet? Part.mapSheet
  dsimp only
  induction p.track.sheets with
  | nil => rfl
  | cons s l ih =>
    rw [List.map_cons, List.find?_cons, List.find?_cons, ih]
    by_cases hs : s.seq = n
    · have hm : (s.seq == m) = false := beq_eq_false_iff_ne.2 fun e => h (e.symm.trans hs)
      rw [if_pos (beq_iff_eq.2 hs), hf, hm]
    · rw [if_neg (by simpa using hs)]

theorem mem_of_lowestSeq {l : List Sheet} {s : Sheet} (h : lowestSeq l = some s) : s ∈ l := by
  refine (mem_of_foldl_eq_some (fun b y x hx => ?_) l none s h).resolve_right fun e => nomatch e
  cases b with
  | none => cases hx; exact .inl rfl
  | some b =>
    dsimp only at hx
    split at hx <;> cases hx
    · exact .inl rfl
    · exact .inr rfl

/-- With the seqs told apart every record is found by its seq (R79). -/
theorem sheet?_of_mem (hn : (p.track.sheets.map Sheet.seq).Nodup) {x : Sheet} (hx : x ∈ p.track.sheets) :
    p.sheet? x.seq = some x := by
  cases h : p.sheet? x.seq with
  | none =>
    have := List.find?_eq_none.1 h x hx
    simp at this
  | some y => rw [List.inj_on_of_nodup_map hn (mem_of_sheet? h) hx (sheet?_seq h)]

/-- A record that moves is not the one that a boundary launches. -/
theorem launch_other (hn : (p.track.sheets.map Sheet.seq).Nodup) (hp : p.SheetsPlaced) {x : Sheet}
    (hx : x ∈ p.track.sheets) (hm : x.state = .moving) :
    (∀ f, p.ffCandidate = some f → x.seq ≠ f.seq) ∧ ∀ d, p.drCandidate = some d → x.seq ≠ d.seq := by
  have hsame : ∀ y ∈ p.track.sheets, x.seq = y.seq → y.state = .moving := fun y hy e =>
    List.inj_on_of_nodup_map hn hx hy e ▸ hm
  refine ⟨fun f hf e => ?_, fun d hd e => ?_⟩
  · obtain ⟨hmem, hfresh⟩ := List.mem_filter.1 (mem_of_lowestSeq hf)
    unfold Sheet.fresh at hfresh
    rw [hsame f hmem e] at hfresh
    cases hfresh
  · unfold Part.drCandidate at hd
    split at hd
    · rename_i entry rest hloop
      split at hd
      · obtain ⟨y, hy, hseq, hlooped⟩ := hp.2.2.1 entry (hloop ▸ List.mem_cons_self ..)
        have := hsame y hy (e.trans ((sheet?_seq hd).trans hseq.symm))
        rw [hlooped] at this
        cases this
      · cases hd
    · cases hd

theorem boundary_moving (line : Bool) (hn : (p.track.sheets.map Sheet.seq).Nodup) (hp : p.SheetsPlaced) {x : Sheet}
    (hx : x ∈ p.track.sheets) (hm : x.state = .moving) :
    ∃ y, (p.boundary line).sheet? x.seq = some y ∧ y.steady = x.steady := by
  have hfound := sheet?_of_mem hn hx
  have hother := launch_other (p := p.raiseSlot) hn hp hx hm
  rcases boundary_cases p line with ⟨-, h⟩ | h | ⟨-, h⟩
  · rw [h]; exact ⟨x, hfound, rfl⟩
  · rcases choice_cases _ h with ⟨f, hf, -, e⟩ | ⟨d, hd, -, e⟩ <;> rw [e]
    · obtain ⟨route, c, htrack, -⟩ := launchFF_leaves p.raiseSlot f
      refine ⟨x, ?_, rfl⟩
      unfold Part.sheet?
      rw [htrack]
      exact (mapSheet_sheet?_other p.raiseSlot (f := fun r => p.raiseSlot.launched r .first route (c r)) (fun _ => rfl)
        (hother.1 f hf)).trans hfound
    · exact ⟨x, (mapSheet_sheet?_other p.raiseSlot (f := fun r => p.raiseSlot.launched r .second .second [])
        (fun _ => rfl)
        (hother.2 d hd)).trans hfound, rfl⟩
  · rw [h]
    split
    · rcases starve_cases p.raiseSlot with e | ⟨k, -, e⟩ <;> rw [e]
      · exact ⟨x, hfound, rfl⟩
      · refine sheet?_of_prefix (p := p) ?_ hfound
        rw [(breakGroup_leaves p.raiseSlot k .starved).sheets]
        exact List.prefix_refl _
    · exact ⟨x, hfound, rfl⟩

/-- A boundary takes from the loop no more than its head, PARKED. -/
theorem boundary_loop (p : Part) (line : Bool) {e : LoopEntry} (he : e ∈ p.loop) (hi : e.state = .inbound) :
    e ∈ (p.boundary line).loop := by
  rcases boundary_cases p line with ⟨-, h⟩ | h | ⟨-, h⟩
  · rw [h]; exact he
  · rcases choice_cases _ h with ⟨f, -, -, e'⟩ | ⟨d, hd, -, e'⟩ <;> rw [e']
    · obtain ⟨_, _, -, -, hloop, -⟩ := launchFF_leaves p.raiseSlot f
      rw [hloop]
      exact he
    · show e ∈ p.loop.tail
      unfold Part.drCandidate at hd
      split at hd
      · rename_i entry rest hloop
        split at hd
        · rename_i hparked
          have hloop' : p.loop = entry :: rest := hloop
          rw [hloop'] at he ⊢
          refine (List.mem_cons.1 he).resolve_left fun h => ?_
          rw [← h, hi] at hparked
          cases hparked
        · cases hd
      · cases hd
  · rw [h]
    split
    · rcases starve_cases p.raiseSlot with e' | ⟨k, -, e'⟩ <;> rw [e']
      · exact he
      · rw [(breakGroup_leaves p.raiseSlot k .starved).loop]
        exact he
    · exact he

/-! ### The tick after its pitch expiry -/

/-- The part with its pitch expiry taken, with all that follows in it. -/
def Part.expired (p : Part) : Part := p.fire Part.pitchExpiry

theorem expired_moving (hn : (p.track.sheets.map Sheet.seq).Nodup) (hp : p.SheetsPlaced) {x : Sheet}
    (hx : x ∈ p.track.sheets) (hm : x.state = .moving) :
    ∃ y, p.expired.sheet? x.seq = some y ∧ y.steady = x.steady := by
  have hfound := sheet?_of_mem hn hx
  unfold Part.expired
  rcases fire_cases Part.pitchExpiry p with ⟨-, e⟩ | ⟨q, hq, e⟩ <;> rw [e]
  · exact ⟨x, hfound, rfl⟩
  · have hown : ∃ y, q.sheet? x.seq = some y ∧ y.steady = x.steady := by
      rcases (pitchExpiry_some hq).2 with rfl | rfl
      · exact ⟨x, hfound, rfl⟩
      · exact boundary_moving (p := { p with arbiter := { p.arbiter with expiryDue := false } }) false hn hp hx hm
    obtain ⟨y, hy, hyx⟩ := hown
    obtain ⟨z, hz, hzy⟩ := sheet?_of_prefix (close_follows q).sheets hy
    exact ⟨z, hz, hzy.trans hyx⟩

theorem expired_loop {e : LoopEntry} (he : e ∈ p.loop) (hi : e.state = .inbound) : e ∈ p.expired.loop := by
  unfold Part.expired
  rcases fire_cases Part.pitchExpiry p with ⟨-, e'⟩ | ⟨q, hq, e'⟩ <;> rw [e']
  · exact he
  · rw [show q.close.loop = q.loop from congrArg Steady.loop (close_steady q)]
    rcases (pitchExpiry_some hq).2 with rfl | rfl
    · exact he
    · exact boundary_loop _ false he hi

theorem expired_eject (hr : p.Ready) {e : Eject} (he : p.acc.eject = some e) : p.expired.acc.eject = some e := by
  unfold Part.expired
  rcases fire_cases Part.pitchExpiry p with ⟨-, e'⟩ | ⟨q, hq, e'⟩ <;> rw [e']
  · exact he
  · have hr' := (clockEvent_calm .pitchExpiry hq).all.ready hr
    exact (close_cascades hr'.1 hr'.2).eject e ((pitchExpiry_cascades hq).eject e he)

/-- A deadline that stops a moving transport, once reached, stops it in the tick. -/
theorem tick_stops {P : Part → Prop} {e : Part → Option Part} (hP : ∀ x y, Stays x y → P x → P y) (he : e ∈ p.deadlines)
    (hfire : ∀ x, x.ctl.state.moving = true → x.clock.tick = p.clock.tick → P x → ∃ q, e x = some q ∧ Raises x q)
    (hr : p.Ready) (hm : p.ctl.state.moving = true) (hp : P p.expired) : p.fireAll.Stopped := by
  have hadv : Advance p p.expired := fire_advance .pitchExpiry hr
  rw [fireAll_eq]
  refine stops_of_due (r := p.expired) hP he (fun x hx ht => hfire x hx (ht.trans hadv.tick))
    (fire_ready .pitchExpiry hr) (fire_pitchExpiry_expiry p) (fun e => ?_) fun _ => hp
  rw [(hadv.warmup e).1] at hm
  cases hm

/-! ### Late and long limits, park and eject deadlines (R87, R90, R121, R137) -/

theorem lateLimit_due {n : Half} {s : Sheet} {w : Window} (hm : p.ctl.state.moving = true) (hs : p.sheet? n = some s)
    (hw : s.window = some w) (hd : p.reached w.late = true) : ∃ q, p.lateLimit n = some q := by
  unfold Part.lateLimit
  rw [if_pos hm, hs]
  dsimp only
  rw [hw]
  dsimp only
  rw [if_pos hd]
  exact ⟨_, rfl⟩

theorem stallAt_due {n : Half} {s : Sheet} {e : CoverEntry} (hm : p.ctl.state.moving = true) (hs : p.sheet? n = some s)
    (he : e ∈ s.covered) (hd : p.reached e.long = true) : ∃ q, p.stallAt n e.station = some q := by
  unfold Part.stallAt
  rw [if_pos hm, hs]
  dsimp only
  rw [if_pos (List.any_eq_true.2 ⟨e, he, by rw [hd, beq_self_eq_true]; rfl⟩)]
  exact ⟨_, rfl⟩

theorem parkDeadline_due {e : LoopEntry} (hm : p.ctl.state.moving = true) (he : e ∈ p.loop)
    (hd : p.parkOverdue e = true) : ∃ q, p.parkDeadline = some q := by
  unfold Part.parkDeadline
  rw [if_pos hm]
  cases h : p.loop.find? p.parkOverdue with
  | none => exact absurd hd (List.find?_eq_none.1 h e he)
  | some x =>
    dsimp only
    cases p.sheet? x.seq with
    | none => exact ⟨_, rfl⟩
    | some s => exact ⟨_, rfl⟩

theorem ejectTimeout_due {e : Eject} (hm : p.ctl.state.moving = true) (he : p.acc.eject = some e)
    (hs : e.status = .active) (hd : p.reachedBy e.deadline = true) : ∃ q, p.ejectTimeout = some q := by
  unfold Part.ejectTimeout
  rw [he]
  dsimp only
  rw [if_pos (by rw [hm, hs, hd]; rfl)]
  exact ⟨_, rfl⟩

/-- The first record of the seq has the steady fields of `x`. -/
def Part.Shows (p : Part) (x : Sheet) : Prop := ∃ y, p.sheet? x.seq = some y ∧ y.steady = x.steady

theorem Stays.shows (h : Stays p q) {x : Sheet} (hx : p.Shows x) : q.Shows x := by
  obtain ⟨y, hy, e⟩ := hx
  obtain ⟨z, hz, e'⟩ := sheet?_of_prefix h.sheets hy
  exact ⟨z, hz, e'.trans e⟩

theorem mem_deadlines_of_sheet {x : Sheet} (hx : x ∈ p.track.sheets) :
    Part.lateLimit x.seq ∈ p.deadlines ∧ (∀ e ∈ x.covered, Part.stallAt x.seq e.station ∈ p.deadlines)
    ∧ Part.conversionStart x.seq ∈ p.deadlines := by
  unfold Part.deadlines
  simp only [List.mem_append, List.mem_flatMap, List.mem_map]
  refine ⟨?_, fun e he => ?_, ?_⟩
  · exact .inl (.inl (.inl (.inl (.inl (.inl (.inr ⟨x, hx, rfl⟩))))))
  · exact .inl (.inl (.inl (.inl (.inl (.inr ⟨x, hx, List.mem_map.2 ⟨e, he, rfl⟩⟩)))))
  · exact .inl (.inl (.inr ⟨x, hx, rfl⟩))

/-- A late or long limit reached stops the transport in the tick (R87, R90). -/
theorem limits_stop (hr : p.Ready) (hn : (p.track.sheets.map Sheet.seq).Nodup) (hp : p.SheetsPlaced)
    (hm : p.ctl.state.moving = true) {x : Sheet} (hx : x ∈ p.track.sheets)
    (hd : (∃ w, x.window = some w ∧ p.reached w.late = true) ∨ ∃ e ∈ x.covered, p.reached e.long = true) :
    p.fireAll.Stopped := by
  have hmoving : x.state = .moving := by
    by_contra h
    obtain ⟨hwindow, hcovered⟩ := hp.1 x hx h
    rcases hd with ⟨w, hw, -⟩ | ⟨e, he, -⟩
    · rw [hwindow] at hw
      cases hw
    · rw [hcovered] at he
      cases he
  have hshows : p.expired.Shows x := expired_moving hn hp hx hmoving
  obtain ⟨hlate, hstall, -⟩ := mem_deadlines_of_sheet hx
  rcases hd with ⟨w, hw, hd⟩ | ⟨e, he, hd⟩
  · refine tick_stops (P := fun y => y.Shows x) (fun _ _ h => h.shows) hlate (fun y hy ht ⟨z, hz, hzx⟩ => ?_)
      hr hm hshows
    have hwindow : z.window = x.window := congrArg SheetSteady.window hzx
    obtain ⟨q, hq⟩ := lateLimit_due hy hz (hwindow.trans hw) ((reached_congr ht _).trans hd)
    exact ⟨q, hq, lateLimit_raises hq⟩
  · refine tick_stops (P := fun y => y.Shows x) (fun _ _ h => h.shows) (hstall e he) (fun y hy ht ⟨z, hz, hzx⟩ => ?_)
      hr hm
      hshows
    have hcovered : z.covered = x.covered := congrArg SheetSteady.covered hzx
    obtain ⟨q, hq⟩ := stallAt_due hy hz (hcovered ▸ he) ((reached_congr ht _).trans hd)
    exact ⟨q, hq, stallAt_raises hq⟩

/-- The park deadline of an INBOUND entry reached stops the transport in the tick (R121). -/
theorem park_stops (hr : p.Ready) (hm : p.ctl.state.moving = true) {e : LoopEntry} (he : e ∈ p.loop)
    (hi : e.state = .inbound) {d : Tick} (hd : e.deadline = some d) (hdue : p.reached d = true) :
    p.fireAll.Stopped := by
  have hmem : Part.parkDeadline ∈ p.deadlines := by
    unfold Part.deadlines
    simp only [List.mem_append, List.mem_map]
    exact .inl (.inr ⟨e, he, trivial⟩)
  refine tick_stops (P := fun y => e ∈ y.loop) (fun _ _ h => h.loop ▸ id) hmem (fun y hy ht hy' => ?_) hr hm
    (expired_loop he hi)
  obtain ⟨q, hq⟩ := parkDeadline_due hy hy' (by
    unfold Part.parkOverdue
    rw [hi, hd]
    exact (reached_congr ht d).trans hdue)
  exact ⟨q, hq, parkDeadline_raises hq⟩

/-- The eject deadline reached stops the transport in the tick (R137). -/
theorem eject_stops (hr : p.Ready) (hm : p.ctl.state.moving = true) {e : Eject} (he : p.acc.eject = some e)
    (hs : e.status = .active) {d : Tick} (hd : e.deadline = some d) (hdue : p.reached d = true) :
    p.fireAll.Stopped := by
  have hmem : Part.ejectTimeout ∈ p.deadlines := by
    unfold Part.deadlines
    simp
  refine tick_stops (P := fun y => y.acc.eject = some e) (fun _ _ h => h.eject e) hmem (fun y hy ht hy' => ?_) hr hm
    (expired_eject hr he)
  obtain ⟨q, hq⟩ := ejectTimeout_due hy hy' hs (by
    rw [hd]
    exact (reached_congr ht d).trans hdue)
  exact ⟨q, hq, ejectTimeout_raises hq⟩

end
end Sys2Proof.Machine

namespace Sys2Proof.Machine

section
variable {p q : Part}

/-! ### What a tick's events bring about -/

theorem fireAll_advance (hr : p.Ready) : Advance p p.fireAll :=
  (foldl_fire_keeps (I := fun x => x.Ready ∧ Advance p x)
    (fun _ _ he hx => ⟨fire_ready he hx.1, hx.2.trans (fire_advance he hx.1)⟩) p.clockEvents
    (fun _ => clockEvent_of_mem) ⟨hr, .refl p⟩).2

/-- An event of the tick brings about what every event then keeps. -/
theorem fireAll_reaches {I J : Part → Prop} {e : Part → Option Part} (he : e ∈ p.clockEvents)
    (hI : ∀ x y, Advance x y → I x → I y) (hJ : ∀ x y, Advance x y → J x → J y)
    (hIJ : ∀ x, x.Ready → I x → J (x.fire e)) (hr : p.Ready) (h : I p) : J p.fireAll :=
  foldl_fire_reaches (fun _ => clockEvent_of_mem) he (fun _ _ hc hx => hI _ _ (fire_advance hc hx))
    (fun _ _ hc hx => hJ _ _ (fire_advance hc hx)) hIJ hr h

theorem mem_clockEvents_of_deadlines {e : Part → Option Part} (h : e ∈ p.deadlines) : e ∈ p.clockEvents := by
  rw [clockEvents_eq]
  exact List.mem_cons_of_mem _ h

/-- What follows an event of the clock that was due. -/
theorem close_advance {e : Part → Option Part} (hc : ClockEvent e) (hr : p.Ready) (hq : e p = some q) :
    Advance q q.close := by
  have hr' := (clockEvent_calm hc hq).all.ready hr
  exact (close_cascades hr'.1 hr'.2).toAdvance

/-! ### Release ticks (R95) -/

/-- No occupant of the gate with the seq has its release tick reached while the transport moves. -/
def Part.Released (g : Gate) (n : Half) (p : Part) : Prop :=
  p.ctl.state ≠ .warmup ∧ (p.ctl.state.moving = true →
    ∀ o ∈ p.gates.occupants g, o.seq = n → ∀ d, o.release = some d → p.reached d = false)

theorem Advance.released {g : Gate} {n : Half} (h : Advance p q) (hp : p.Released g n) : q.Released g n := by
  refine ⟨fun e => hp.1 (h.warmup e).1, fun hm o ho hs d hd => ?_⟩
  rw [reached_congr h.tick]
  exact hp.2 ((h.moving hm).resolve_right hp.1) o (h.gates g o ho) hs d hd

theorem gateRelease_released (g : Gate) (n : Half) (hr : p.Ready) (hw : p.ctl.state ≠ .warmup) :
    (p.fire (Part.gateRelease g n)).Released g n := by
  rcases fire_cases (Part.gateRelease g n) p with ⟨hn, e⟩ | ⟨q, hq, e⟩ <;> rw [e]
  · refine ⟨hw, fun hm o ho hs d hd => Bool.eq_false_iff.2 fun hdue => ?_⟩
    unfold Part.gateRelease at hn
    dsimp only at hn
    split at hn
    · cases hn
    · rename_i hc
      refine hc ?_
      rw [hm, Bool.true_and, List.any_eq_true]
      exact ⟨o, ho, by rw [hs, hd, beq_self_eq_true]; exact hdue⟩
  · refine (close_advance (.gateRelease g n) hr hq).released ?_
    unfold Part.gateRelease at hq
    dsimp only at hq
    split at hq
    · cases hq
      refine ⟨hw, fun _ o ho hs d hd => Bool.eq_false_iff.2 fun hdue => ?_⟩
      have ho' : o ∈ (p.gates.occupants g).filter fun o => !(o.seq == n && p.reachedBy o.release) := by
        cases g <;> exact ho
      have := (List.mem_filter.1 ho').2
      rw [hs, hd, beq_self_eq_true, Bool.true_and] at this
      rw [show p.reachedBy (some d) = true from hdue] at this
      cases this
    · cases hq

/-- Where the transport still moves, no release tick stands reached after the tick's events (R95). -/
theorem gates_released (hr : p.Ready) (hm : p.ctl.state.moving = true) (hm' : p.fireAll.ctl.state.moving = true)
    (g : Gate) : ∀ o ∈ p.fireAll.gates.occupants g, ∀ d, o.release = some d → p.reached d = false := by
  intro o ho d hd
  have hw : p.ctl.state ≠ .warmup := fun e => by rw [e] at hm; cases hm
  have hmem : Part.gateRelease g o.seq ∈ p.clockEvents := by
    have hocc := (fireAll_advance hr).gates g o ho
    refine mem_clockEvents_of_deadlines ?_
    unfold Part.deadlines
    simp only [List.mem_append, List.mem_map]
    cases g with
    | gd => exact .inl (.inl (.inl (.inl (.inr ⟨o, hocc, rfl⟩))))
    | gx => exact .inl (.inl (.inl (.inr ⟨o, hocc, rfl⟩)))
  have hreleased := fireAll_reaches (I := fun x => x.ctl.state ≠ .warmup) (J := Part.Released g o.seq) hmem
    (fun _ _ h hx e => hx (h.warmup e).1) (fun _ _ h => h.released) (fun x hx => gateRelease_released g o.seq hx) hr hw
  rw [← reached_congr (fireAll_advance hr).tick]
  exact hreleased.2 hm' o ho rfl d hd

/-! ### Conversion starts (R97) -/

/-- The records of the seq have fewer starts to come than `x`, but for the first, with `x`'s sampling. -/
def Part.Awaits (x : Sheet) (p : Part) : Prop := ∀ y ∈ p.track.sheets, y.seq = x.seq →
  y.startsLeft < x.startsLeft ∨ y.sampling = x.sampling ∧ p.sheet? x.seq = some y

/-- The records of the seq have fewer starts to come than `x`. -/
def Part.Started (x : Sheet) (p : Part) : Prop := ∀ y ∈ p.track.sheets, y.seq = x.seq → y.startsLeft < x.startsLeft

theorem Fewer.lt {l : List Sheet} {x y : Sheet} (h : Fewer l y) (hx : 0 < x.startsLeft)
    (hl : ∀ z ∈ l, z.seq = y.seq → z.startsLeft ≤ x.startsLeft) : y.startsLeft < x.startsLeft := by
  rcases h with e | ⟨z, hz, hk, e⟩
  · rw [e]; exact hx
  · exact e.trans_le (hl z hz hk)

theorem Advance.started {x : Sheet} (hx : 0 < x.startsLeft) (h : Advance p q) (hp : p.Started x) : q.Started x := by
  intro y hy hs
  rcases h.sheets.at_most hy with e | ⟨z, hz, hk, e⟩
  · rw [e]; exact hx
  · exact e.trans_lt (hp z hz (hk.trans hs))

theorem Advance.awaits {x : Sheet} (hx : 0 < x.startsLeft) (h : Advance p q) (hp : p.Awaits x) : q.Awaits x := by
  obtain ⟨f, new, hlist, hnew, hf⟩ := h.sheets
  have hmost : ∀ z ∈ p.track.sheets, z.seq = x.seq → z.startsLeft ≤ x.startsLeft := fun z hz hk =>
    (hp z hz hk).elim Nat.le_of_lt fun e => Nat.le_of_eq (startsLeft_congr e.1)
  intro y hy hs
  rw [hlist] at hy
  rcases List.mem_append.1 hy with hy | hy
  · obtain ⟨z, hz, rfl⟩ := List.mem_map.1 hy
    obtain ⟨hseq, hsame | hfewer⟩ := hf z hz
    · rcases hp z hz (hseq.symm.trans hs) with e | ⟨e, hfirst⟩
      · exact .inl ((startsLeft_congr hsame).trans_lt e)
      · refine .inr ⟨hsame.trans e, ?_⟩
        have hfind : (p.track.sheets.map f).find? (fun s => s.seq == x.seq) = some (f z) := by
          rw [List.find?_map, List.find?_congr (p₂ := fun s => s.seq == x.seq) fun s hs => by
            rw [Function.comp_apply, (hf s hs).1]]
          exact congrArg (Option.map f) hfirst
        unfold Part.sheet?
        rw [hlist, List.find?_append, hfind]
        rfl
    · exact .inl (hfewer.lt hx fun w hw hk => hmost w hw (hk.trans hs))
  · exact .inl ((hnew y hy).lt hx fun w hw hk => hmost w hw (hk.trans hs))

theorem conversionStart_started {x : Sheet} {v : List Byte} {d : Tick} {rest : List Tick}
    (hx : x.sampling = .sampling v (d :: rest)) (hr : p.Ready) (hm : p.ctl.state.moving = true)
    (hd : p.reached d = true)
    (ha : p.Awaits x) : (p.fire (Part.conversionStart x.seq)).Started x := by
  have hleft : x.startsLeft = rest.length + 1 := startsLeft_sampling hx
  have hpos : 0 < x.startsLeft := by rw [hleft]; exact Nat.succ_pos _
  rcases fire_cases (Part.conversionStart x.seq) p with ⟨hn, e⟩ | ⟨q, hq, e⟩ <;> rw [e]
  · intro y hy hs
    refine (ha y hy hs).resolve_right fun ⟨hsame, hfirst⟩ => ?_
    unfold Part.conversionStart at hn
    rw [if_pos hm, hfirst] at hn
    dsimp only at hn
    rw [hsame, hx] at hn
    dsimp only at hn
    rw [if_pos hd] at hn
    split at hn <;> cases hn
  · refine (close_advance (.conversionStart x.seq) hr hq).started hpos ?_
    obtain ⟨-, s, v', d', rest', hs, hsampling, -, z, hz, hsheets, -⟩ := conversionStart_some hq
    have hmost : rest'.length < x.startsLeft := by
      have hsl : s.startsLeft = rest'.length + 1 := startsLeft_sampling hsampling
      rcases ha s (mem_of_sheet? hs) (sheet?_seq hs) with e | e
      · omega
      · have := startsLeft_congr e.1
        omega
    intro y hy hseq
    rw [hsheets] at hy
    obtain ⟨w, -, rfl⟩ := List.mem_map.1 hy
    by_cases hw : (w.seq == x.seq) = true
    · rw [if_pos hw]
      rcases hz with rfl | rfl
      · exact (startsLeft_sampling rfl).trans_lt hmost
      · exact hpos
    · rw [if_neg hw] at hseq
      exact absurd (beq_iff_eq.2 hseq) hw

/-- Where the transport still moves, no conversion start stands reached after the tick's events (R97). -/
theorem conversions_started (hr : p.Ready) (hn : (p.track.sheets.map Sheet.seq).Nodup) (hm : p.ctl.state.moving = true)
    (hm' : p.fireAll.ctl.state.moving = true) {x : Sheet} (hx : x ∈ p.track.sheets) {v : List Byte} {d : Tick}
    {rest : List Tick} (hs : x.sampling = .sampling v (d :: rest)) (hd : p.reached d = true) :
    ∀ y ∈ p.fireAll.track.sheets, y.seq = x.seq → y.sampling ≠ x.sampling := by
  have hw : p.ctl.state ≠ .warmup := fun e => by rw [e] at hm; cases hm
  have hpos : 0 < x.startsLeft := by rw [startsLeft_sampling hs]; exact Nat.succ_pos _
  have hstart : p.Awaits x := fun y hy hk => .inr (by
    rw [List.inj_on_of_nodup_map hn hy hx hk]
    exact ⟨rfl, sheet?_of_mem hn hx⟩)
  have hreach := fireAll_reaches
    (I := fun y => y.ctl.state ≠ .warmup ∧ y.clock.tick = p.clock.tick ∧ y.Awaits x)
    (J := fun y => y.ctl.state ≠ .warmup ∧ (y.ctl.state.moving = true → y.Started x))
    (mem_clockEvents_of_deadlines (mem_deadlines_of_sheet hx).2.2)
    (fun _ _ h ⟨hw, ht, hy⟩ => ⟨fun e => hw (h.warmup e).1, h.tick.trans ht, h.awaits hpos hy⟩)
    (fun _ _ h ⟨hw, hy⟩ => ⟨fun e => hw (h.warmup e).1, fun e => h.started hpos (hy ((h.moving e).resolve_right hw))⟩)
    (fun y hy ⟨hw, ht, ha⟩ => by
      have h := fire_advance (.conversionStart x.seq) hy
      exact ⟨fun e => hw (h.warmup e).1, fun e => conversionStart_started hs hy ((h.moving e).resolve_right hw)
        ((reached_congr ht d).trans hd) ha⟩)
    hr ⟨hw, rfl, hstart⟩
  intro y hy hk e
  exact Nat.lt_irrefl _ ((startsLeft_congr e).symm.trans_lt (hreach.2 hm' y hy hk))

/-! ### Pick deadlines (R52) -/

theorem misfeed_renews (t : TrayId) (s : Sheet) (hs : p.ctl.state.picking = true) (h : p.PicksAhead) {d : Tick}
    (hd : p.reached d = true) : ((p.misfeed t s).feeders.get t).deadline ≠ some d := by
  intro e
  have hnone : ((p.mapFeeder t fun f => { f with request := false, deadline := none }).feeders.get t).deadline
      = none := by
    show ((p.feeders.set t _).get t).deadline = none
    rw [PerTray.get_set, if_pos rfl]
  have hrest : Cascades (p.mapFeeder t fun f => { f with request := false, deadline := none }) (p.misfeed t s) := by
    have hahead : (p.mapFeeder t fun f => { f with request := false, deadline := none }).PicksAhead := h
    unfold Part.misfeed
    dsimp only
    split
    · split
      · exact (mapSheet_cascades _ s.seq (f := fun r => { r with attempts := r.attempts + 1 })
          fun _ => ⟨rfl, rfl⟩).trans (requestPick_cascades t (by exact h hs))
      · exact (setTrayState_cascades _ t .fault).trans (moveOn_cascades s (setTrayState_pickLimit _ t .fault hahead))
    · exact moveOn_cascades s hahead
  have hold := (hrest.picks t d e hd).1
  rw [hnone] at hold
  cases hold

/-- A pick deadline reached is taken in the tick: none stands reached after it (R52, R55). -/
theorem picks_taken (hr : p.Ready) {t : TrayId} (hold : p.Holds t) {d : Tick} (hd : p.reached d = true) :
    (p.fireAll.feeders.get t).deadline ≠ some d := by
  have hmem : Part.pickDeadline t ∈ p.clockEvents := by
    refine mem_clockEvents_of_deadlines ?_
    unfold Part.deadlines
    simp only [List.mem_append]
    exact .inl (.inl (.inl (.inl (.inl (.inl (.inl (List.mem_map_of_mem (by cases t <;> decide))))))))
  refine (fireAll_reaches
    (I := fun x => x.clock.tick = p.clock.tick ∧ ((x.feeders.get t).deadline = some d → x.Holds t))
    (J := fun x => x.clock.tick = p.clock.tick ∧ (x.feeders.get t).deadline ≠ some d) hmem
    (fun x y h ⟨ht, hx⟩ => ⟨h.tick.trans ht, fun e => ?_⟩) (fun x y h ⟨ht, hx⟩ => ⟨h.tick.trans ht, fun e => ?_⟩)
    (fun x hx ⟨ht, hold⟩ => ⟨(fire_advance (.pickDeadline t) hx).tick.trans ht, fun e => ?_⟩) hr ⟨rfl, fun _ => hold⟩).2
  · obtain ⟨hdeadline, hholds⟩ := h.picks t d e ((reached_congr ht d).trans hd)
    exact hholds (hx hdeadline)
  · exact hx (h.picks t d e ((reached_congr ht d).trans hd)).1
  · have hdx := (reached_congr ht d).trans hd
    have hdeadline := ((fire_advance (.pickDeadline t) hx).picks t d e hdx).1
    obtain ⟨s, hs, hholder⟩ := hold hdeadline
    have hpick := hx.1.picks t
    rw [hdeadline, Option.isSome_some, eq_comm, Bool.and_eq_true] at hpick
    rcases fire_cases (Part.pickDeadline t) x with ⟨hn, -⟩ | ⟨q, hq, e'⟩
    · unfold Part.pickDeadline at hn
      dsimp only at hn
      rw [if_pos (by rw [hpick.1, hpick.2, hdeadline]; exact hdx), hholder] at hn
      cases hf : x.sheet? s.seq with
      | none => exact absurd (beq_self_eq_true s.seq) (by simpa using List.find?_eq_none.1 hf s hs)
      | some y =>
        rw [Option.bind_some, hf] at hn
        cases hn
    · rw [e'] at e
      have hown := ((close_advance (.pickDeadline t) hx hq).picks t d e
        ((reached_congr (clockEvent_calm (.pickDeadline t) hq).toMild.tick d).trans hdx)).1
      obtain ⟨s', -, -, rfl⟩ := pickDeadline_some hq
      exact misfeed_renews t s' hpick.2 hx.2.picksAhead hdx hown

/-! ### Warm-up end and run end (R156, R170) -/

theorem mem_last_deadlines (p : Part) :
    Part.cadenceLoss ∈ p.clockEvents ∧ Part.warmupEnd ∈ p.clockEvents ∧ Part.runEndReached ∈ p.clockEvents := by
  refine ⟨mem_clockEvents_of_deadlines ?_, mem_clockEvents_of_deadlines ?_, mem_clockEvents_of_deadlines ?_⟩ <;>
    exact List.mem_append_right _ (by simp)

/-- The warm-up end reached, WARMUP is left in the tick (R156). -/
theorem warmup_ends (hr : p.Ready) {d : Tick} (hd : p.ctl.warmupEnd = some d) (hdue : p.reached d = true) :
    p.fireAll.ctl.state ≠ .warmup := by
  refine fireAll_reaches
    (I := fun x => x.clock.tick = p.clock.tick ∧ (x.ctl.state = .warmup → x.ctl.warmupEnd = some d))
    (J := fun x => x.ctl.state ≠ .warmup) (mem_last_deadlines p).2.1
    (fun x y h ⟨ht, hx⟩ => ⟨h.tick.trans ht, fun e => ?_⟩) (fun x y h hx e => hx (h.warmup e).1)
    (fun x hx ⟨ht, hend⟩ e => ?_) hr ⟨rfl, fun _ => hd⟩
  · obtain ⟨hw, hsame⟩ := h.warmup e
    exact hsame.trans (hx hw)
  · have hw := ((fire_advance .warmupEnd hx).warmup e).1
    have hq := warmupEnd_some x hw (by rw [hend hw]; exact (reached_congr ht d).trans hdue)
    rcases fire_cases Part.warmupEnd x with ⟨hn, -⟩ | ⟨q, hq', e'⟩
    · rw [hn] at hq
      cases hq
    · rw [e'] at e
      have hown := ((close_advance .warmupEnd hx hq').warmup e).1
      cases hq'.symm.trans hq
      rw [armWatch_eq] at hown
      cases hown

/-- The run end reached, RECOVERY is left in the tick or has noted it (R170). -/
theorem run_ends (hr : p.Ready) {d : Tick} (hd : p.ctl.runEnd = some d) (hdue : p.reached d = true) :
    p.fireAll.ctl.state = .recovery → p.fireAll.ctl.runEndReached = true := by
  refine fireAll_reaches
    (I := fun x => x.clock.tick = p.clock.tick ∧ (x.ctl.state = .recovery → x.ctl.runEnd = some d))
    (J := fun x => x.ctl.state = .recovery → x.ctl.runEndReached = true) (mem_last_deadlines p).2.2
    (fun x y h ⟨ht, hx⟩ => ⟨h.tick.trans ht, fun e => ?_⟩) (fun x y h hx e => ?_) (fun x hx ⟨ht, hend⟩ e => ?_) hr
    ⟨rfl, fun _ => hd⟩
  · obtain ⟨hs, hsame, -⟩ := h.recovery e
    exact hsame.trans (hx hs)
  · obtain ⟨hs, -, hkept⟩ := h.recovery e
    exact hkept (hx hs)
  · have hs := ((fire_advance .runEndReached hx).recovery e).1
    have hq := runEndReached_some x hs (by rw [hend hs]; exact (reached_congr ht d).trans hdue)
    rcases fire_cases Part.runEndReached x with ⟨hn, -⟩ | ⟨q, hq', e'⟩
    · rw [hn] at hq
      cases hq
    · rw [e'] at e ⊢
      obtain ⟨hown, -, hkept⟩ := (close_advance .runEndReached hx hq').recovery e
      refine hkept ?_
      cases hq'.symm.trans hq
      unfold Part.attempt at hown ⊢
      cases hrec : Part.recoveryEnd { x with ctl := { x.ctl with runEndReached := true } } with
      | none => rfl
      | some r =>
        rw [hrec] at hown
        exact ((recoveryEnd_cascades hrec).recovery hown).2.2 rfl

end
end Sys2Proof.Machine

namespace Sys2Proof.Machine

section
variable {p q : Part}

/-! ### The cadence watch (R12, R13)

A Parameter Set that comes into force changes PITCH and so the watch's deadline. Where the watch is armed then, it is
armed anew in the same event: in RUNNING by the load itself, in DRAINING by the end of the drain, which an empty path
brings. -/

/-- The watch is armed anew, or armed as it was with the Parameter Set as it was. -/
def WatchKept (p q : Part) : Prop := q.clock.watchArmed = true → q.clock.watchReference = p.clock.tick
  ∨ p.clock.watchArmed = true ∧ q.clock.watchReference = p.clock.watchReference
    ∧ q.tables.parameters = p.tables.parameters

theorem WatchKept.trans {r : Part} (h : WatchKept p q) (ht : q.clock.tick = p.clock.tick) (k : WatchKept q r) :
    WatchKept p r := fun e => by
  rcases k e with hr | ⟨ha, hr, hs⟩
  · exact .inl (hr.trans ht)
  · rcases h ha with hr' | ⟨ha', hr', hs'⟩
    · exact .inl (hr.trans hr')
    · exact .inr ⟨ha', hr.trans hr', hs.trans hs'⟩

theorem Advance.watchKept (h : Advance p q) (hs : q.tables.parameters = p.tables.parameters) : WatchKept p q :=
  fun e => (h.watch e).imp id fun ⟨ha, hr⟩ => ⟨ha, hr, hs⟩

/-- In no state but DRAINING has a Parameter Set applied an armed watch that is not armed anew (R12, R17). -/
theorem applyLocked_watchKept (c : PendingLoad) (ha : p.TransportAgrees) (hs : p.ctl.state ≠ .draining) :
    WatchKept p (p.applyLocked c) := by
  obtain ⟨-, -, -, -, -, hwatch, -⟩ := ha
  cases c with
  | parameters c =>
    rw [Part.applyLocked, applyParameters_eq]
    intro e
    dsimp only at e ⊢
    by_cases hr : p.ctl.state = .running
    · rw [if_pos hr] at e
      rw [if_pos ⟨hr, e⟩]
      exact .inl rfl
    · rw [if_neg hr] at e
      exact absurd (hwatch e).1 (not_or.2 ⟨hr, hs⟩)
  | _ => exact fun e => .inr ⟨e, rfl, rfl⟩

theorem applyLocked_path (p : Part) (c : PendingLoad) :
    (p.applyLocked c).ctl = p.ctl ∧ (p.applyLocked c).pathEmpty = p.pathEmpty := by
  cases c with
  | parameters c =>
    rw [Part.applyLocked, applyParameters_eq]
    exact ⟨rfl, rfl⟩
  | _ => exact ⟨rfl, rfl⟩

theorem drainEnd_watch (h : p.drainEnd = some q) (e : q.clock.watchArmed = true) :
    q.clock.watchReference = p.clock.tick := by
  unfold Part.drainEnd at h
  split at h
  · cases h
    split at e
    · rename_i hr
      rw [if_pos hr]
      unfold Part.resumeRunning at e ⊢
      rw [armWatch_eq] at e ⊢
      dsimp only at e ⊢
      rw [if_pos e]
      rfl
    · rw [enterStandby_eq] at e
      cases e
  · cases h

/-- A pending load waits for the path to empty (R183). -/
def Part.LoadWaits (p : Part) : Prop := p.pathEmpty = true → p.link.pendingLoad = none

theorem pathEmpty_iff (p : Part) :
    p.pathEmpty = true ↔ p.track.sheets = [] ∧ p.acc.sheets = [] ∧ p.acc.eject = none := by
  unfold Part.pathEmpty
  simp only [Bool.and_eq_true, List.isEmpty_iff, Option.isNone_iff_eq_none, and_assoc]

/-- What follows in the same event empties no path. -/
theorem internal_pathEmpty (hg : p.TablesGood) (h : p.internal = some q) (he : q.pathEmpty = true) :
    p.pathEmpty = true := by
  obtain ⟨htrack, hset, heject⟩ := (pathEmpty_iff q).1 he
  have hf := internal_follows h
  refine (pathEmpty_iff p).2 ⟨?_, (congrArg Steady.setSheets hf.steady).symm.trans hset, ?_⟩
  · have hprefix := hf.sheets
    rw [htrack] at hprefix
    exact List.map_eq_nil_iff.1 (List.prefix_nil.1 hprefix)
  · cases hp : p.acc.eject with
    | none => rfl
    | some e => exact ((internal_cascades hg h).eject e hp).symm.trans heject

/-- With no load pending, an empty path in DRAINING ends the drain first (R158). -/
theorem internal_eq_drainEnd (hl : p.link.pendingLoad = none) (hs : p.ctl.state = .draining) (he : p.pathEmpty = true) :
    p.internal = p.drainEnd := by
  have hload : p.pendingLoadApplied = none := by
    unfold Part.pendingLoadApplied
    rw [hl]
  unfold Part.internal
  rw [hload]
  unfold Part.drainEnd
  rw [if_pos ⟨hs, he⟩]
  rfl

theorem lockedLoadTaken_watchKept (ha : p.TransportAgrees) (hd : p.pathEmpty = true → p.ctl.state ≠ .draining)
    (h : p.lockedLoadTaken = some q) : WatchKept p q := by
  obtain ⟨t, first, body, rest, -, ⟨c, -, hempty, rfl⟩ | ⟨hs, -⟩⟩ := lockedLoadTaken_cases h
  · have hsame := (loadResult_same p t none).1
    have hload := loadResult_cascades p t none
    have hctl : (p.loadResult t none).ctl = p.ctl := loadResult_ctl p t none
    refine (hload.toAdvance.watchKept (congrArg (fun x : Part => x.tables.parameters) hsame :)).trans hload.tick
      (applyLocked_watchKept c ?_ (hctl ▸ hd hempty))
    have hagrees : ({ p.loadResult t none with link := p.link } : Part).TransportAgrees := hsame.symm ▸ ha
    exact hagrees
  · exact (lockedLoadTaken_cascades h).toAdvance.watchKept hs.parameters

/-- What follows in the same event keeps the watch, while a pending load waits for the path to empty. -/
theorem internal_watchKept (hr : p.Ready) (hl : p.LoadWaits) (h : p.internal = some q) :
    WatchKept p q ∧ q.LoadWaits := by
  have hsame : p.pathEmpty = false ∨ q.link.pendingLoad = p.link.pendingLoad → q.LoadWaits := fun hq he => by
    have hp := internal_pathEmpty hr.2 h he
    exact hq.elim (fun e => absurd (hp.symm.trans e) (by decide)) fun e => e.trans (hl hp)
  by_cases hd : p.pathEmpty = true ∧ p.ctl.state = .draining
  · rw [internal_eq_drainEnd (hl hd.1) hd.2 hd.1] at h
    exact ⟨fun e => .inl (drainEnd_watch h e), hsame (.inr (drainEnd_calm h).toMild.pendingLoad)⟩
  · have hkept : q.tables.parameters = p.tables.parameters → WatchKept p q :=
      (internal_cascades hr.2 h).toAdvance.watchKept
    rcases internal_mild h with h' | h' | h' | h'
    · unfold Part.pendingLoadApplied at h'
      split at h'
      · rename_i c hc
        split at h'
        · rename_i he
          exact nomatch hc.symm.trans (hl he)
        · cases h'
      · cases h'
    · obtain ⟨hs, hpend⟩ := liveLoadTaken_sameRates h'
      exact ⟨hkept hs.parameters, hsame (.inr hpend)⟩
    · refine ⟨lockedLoadTaken_watchKept hr.1 (fun he hs => hd ⟨he, hs⟩) h', hsame ?_⟩
      obtain ⟨t, -, -, -, -, ⟨c, -, -, rfl⟩ | ⟨-, hpend | ⟨he, -⟩⟩⟩ := lockedLoadTaken_cases h'
      · exact .inr (by rw [applyLocked_link, (loadResult_same p t none).2])
      · exact .inr hpend
      · exact .inl he
    · exact ⟨hkept h'.sameRates.parameters, hsame (.inr h'.pendingLoad)⟩

theorem settleIn_watchKept (n : Nat) (hr : p.Ready) (hl : p.LoadWaits) : WatchKept p (p.settleIn n) := by
  have h := settleIn_keeps (I := fun x => WatchKept p x ∧ x.clock.tick = p.clock.tick ∧ x.Ready ∧ x.LoadWaits)
    (fun x y ⟨hk, ht, hx, hlx⟩ e => by
      obtain ⟨hk', hly⟩ := internal_watchKept hx hlx e
      exact ⟨hk.trans ht hk', (internal_all e).tick.trans ht, (internal_all e).ready hx, hly⟩) n p
    ⟨fun e => .inr ⟨e, rfl, rfl⟩, rfl, hr, hl⟩
  exact h.1

theorem settleIn_succ (n : Nat) (h : p.internal = some q) : p.settleIn (n + 1) = q.settleIn n := by
  rw [Part.settleIn, h]

/-- A load that waited for the path is applied first; in DRAINING the drain then ends (R158, R183). -/
theorem settle_watchKept (hr : p.Ready) : WatchKept p p.settle := by
  by_cases hl : p.LoadWaits
  · exact settleIn_watchKept _ hr hl
  · obtain ⟨he, hl⟩ := Classical.not_imp.1 hl
    obtain ⟨c, hc⟩ := Option.ne_none_iff_exists'.1 hl
    have hload : p.internal = some ((p.setPendingLoad none).applyLocked c) := by
      unfold Part.internal Part.pendingLoadApplied
      rw [hc]
      dsimp only
      rw [if_pos he]
      rfl
    have hfuel : p.fuel = (p.fuel - 2) + 1 + 1 := by
      have : 8 ≤ p.fuel := Nat.le_add_left ..
      omega
    have hready := (internal_all hload).ready hr
    have hpend : ((p.setPendingLoad none).applyLocked c).link.pendingLoad = none := by rw [applyLocked_link]; rfl
    have htick := (internal_all hload).tick
    have hwaits : ((p.setPendingLoad none).applyLocked c).LoadWaits := fun _ => hpend
    have hkept := applyLocked_watchKept (p := p.setPendingLoad none) c ((clearPendingLoad_all p).agrees hr.1)
    obtain ⟨hctl, hempty⟩ := applyLocked_path (p.setPendingLoad none) c
    unfold Part.settle
    rw [hfuel, settleIn_succ _ hload]
    generalize (p.setPendingLoad none).applyLocked c = r at *
    by_cases hs : p.ctl.state = .draining
    · have hdraining : r.ctl.state = .draining := (congrArg Control.state hctl).trans hs
      have hend := internal_eq_drainEnd hpend hdraining (hempty.trans he)
      cases hx : r.drainEnd with
      | none =>
        rw [Part.drainEnd, if_pos ⟨hdraining, hempty.trans he⟩] at hx
        cases hx
      | some x =>
        rw [hx] at hend
        rw [settleIn_succ _ hend]
        obtain ⟨-, hx'⟩ := internal_watchKept hready hwaits hend
        refine WatchKept.trans (q := x) (fun e => .inl ((drainEnd_watch hx e).trans htick))
          ((internal_all hend).tick.trans htick) (settleIn_watchKept _ ((internal_all hend).ready hready) hx')
    · exact (hkept hs).trans htick (settleIn_watchKept _ hready hwaits)

theorem close_watchKept (hr : p.Ready) : WatchKept p p.close :=
  (settle_watchKept hr).trans (settle_all p).tick
    ((finish_cascades _).toAdvance.watchKept (finish_calm _).toMild.sameRates.parameters)

theorem fire_watchKept {e : Part → Option Part} (h : ClockEvent e) (hr : p.Ready) : WatchKept p (p.fire e) := by
  rcases fire_cases e p with ⟨-, e'⟩ | ⟨q, hq, e'⟩ <;> rw [e']
  · exact fun e => .inr ⟨e, rfl, rfl⟩
  · have hm := clockEvent_calm h hq
    exact ((clockEvent_advance h hr.2 hq).watchKept hm.toMild.sameRates.parameters).trans hm.toMild.tick
      (close_watchKept (hm.all.ready hr))

theorem cadenceLoss_disarms (h : p.cadenceLoss = some q) : q.clock.watchArmed = false := by
  rw [eq_of_cadenceLoss h]
  show (p.loseCadence.breakOpen .cadence).drainForCadence.clock.watchArmed = false
  obtain ⟨-, -, hclock, -⟩ := drainForCadence_leaves (p := p.loseCadence.breakOpen .cadence)
  rw [hclock, (breakOpen_leaves p.loseCadence .cadence).clock]
  rfl

/-- The watch's deadline reached, cadence is lost in the tick or the watch has been armed anew in it (R13). -/
theorem watch_ends (hr : p.Ready)
    (hdue : p.reached (p.clock.watchReference + BitVec.ofNat 32 (2 * p.params.pitch)) = true) :
    p.fireAll.clock.watchArmed = true → p.fireAll.clock.watchReference = p.clock.tick := by
  refine (foldl_fire_reaches
    (I := fun x => x.clock.tick = p.clock.tick ∧ WatchKept p x)
    (J := fun x => x.clock.tick = p.clock.tick ∧ (x.clock.watchArmed = true → x.clock.watchReference = p.clock.tick))
    (fun _ => clockEvent_of_mem) (mem_last_deadlines p).1
    (fun e x he hx ⟨ht, hk⟩ => ⟨(fire_all he x).tick.trans ht, hk.trans ht (fire_watchKept he hx)⟩)
    (fun e x he hx ⟨ht, hk⟩ => ⟨(fire_all he x).tick.trans ht, fun ha => ?_⟩)
    (fun x hx ⟨ht, hk⟩ => ⟨(fire_all .cadenceLoss x).tick.trans ht, fun ha => ?_⟩) hr
    ⟨rfl, fun e => .inr ⟨e, rfl, rfl⟩⟩).2
  · rcases (fire_advance he hx).watch ha with hr' | ⟨ha', hr'⟩
    · exact hr'.trans ht
    · exact hr'.trans (hk ha')
  · rcases (fire_advance .cadenceLoss hx).watch ha with hr' | ⟨ha', hr'⟩
    · exact hr'.trans ht
    · rcases hk ha' with hk | ⟨-, hk, hs⟩
      · exact hr'.trans hk
      · have hparams : x.params = p.params := by
          unfold Part.params
          rw [hs]
        rcases fire_cases Part.cadenceLoss x with ⟨hn, -⟩ | ⟨q, hq, e'⟩
        · unfold Part.cadenceLoss at hn
          rw [ha', hk, hparams, reached_congr ht, hdue] at hn
          cases hn
        · rw [e'] at ha ⊢
          rcases (close_advance .cadenceLoss hx hq).watch ha with hq' | ⟨hq', -⟩
          · exact hq'.trans ((clockEvent_calm .cadenceLoss hq).toMild.tick.trans ht)
          · rw [cadenceLoss_disarms hq] at hq'
            cases hq'

end
end Sys2Proof.Machine

namespace Sys2Proof.Machine

section
variable {p : Part}

/-! ### Deadlines outside the states in which they run (R55, R100, R122, R137) -/

theorem lateLimit_rest (n : Half) (h : p.ctl.state.moving = false) : p.lateLimit n = none :=
  if_neg (Bool.eq_false_iff.1 h)

theorem stallAt_rest (n : Half) (x : Sensor) (h : p.ctl.state.moving = false) : p.stallAt n x = none :=
  if_neg (Bool.eq_false_iff.1 h)

theorem gateRelease_rest (g : Gate) (n : Half) (h : p.ctl.state.moving = false) : p.gateRelease g n = none := by
  unfold Part.gateRelease
  rw [h]
  rfl

theorem conversionStart_rest (n : Half) (h : p.ctl.state.moving = false) : p.conversionStart n = none :=
  if_neg (Bool.eq_false_iff.1 h)

theorem parkDeadline_rest (h : p.ctl.state.moving = false) : p.parkDeadline = none := if_neg (Bool.eq_false_iff.1 h)

theorem ejectTimeout_rest (h : p.ctl.state.moving = false) : p.ejectTimeout = none := by
  unfold Part.ejectTimeout
  rw [h]
  cases p.acc.eject <;> rfl

theorem TransportState.picking_iff (x : TransportState) : x.picking = true ↔ x = .warmup ∨ x = .running := by
  cases x <;> simp [TransportState.picking]

theorem pickDeadline_rest (t : TrayId) (h : p.ctl.state.picking = false) : p.pickDeadline t = none := by
  unfold Part.pickDeadline
  rw [h]
  rfl

/-! ### The tick's last changes -/

/-- The end of a tick moves the clock and the pitch counter, not the watch. -/
theorem endTick_leaves (p : Part) : p.endTick.ctl = p.ctl ∧ p.endTick.gates = p.gates ∧ p.endTick.track = p.track
    ∧ p.endTick.feeders = p.feeders ∧ p.endTick.clock.watchArmed = p.clock.watchArmed
    ∧ p.endTick.clock.watchReference = p.clock.watchReference := by
  obtain ⟨n, e, he⟩ := endTick_eq p
  have hdivide : p.clock.divide.watchReference = p.clock.watchReference := by
    unfold Clock.divide
    split <;> rfl
  rw [he]
  exact ⟨rfl, rfl, rfl, rfl, (divide_watch p.clock).1, hdivide⟩

/-- Settles O51: outside its states a deadline's event finds its condition false; in a tick the event of a deadline that
is reached stands in the list of the clock's events, and what it rests on survives the events before it. -/
theorem deadlinesWaitOutsideTheirStates : Obligations.DeadlinesWaitOutsideTheirStates := by
  refine ⟨fun s => ⟨fun hm c hc => ?_, fun hw hrun t => ?_⟩, ?_⟩
  · have hm : s.toPart.start.ctl.state.moving = false := hm
    rw [exec_ownEffect]
    rcases hc with ⟨n, rfl⟩ | ⟨n, x, rfl⟩ | ⟨g, n, rfl⟩ | ⟨n, rfl⟩ | rfl | rfl
    · exact congrArg _ (congrArg s.after (attempt_none (lateLimit_rest n hm)))
    · exact congrArg _ (congrArg s.after (attempt_none (stallAt_rest n x hm)))
    · exact congrArg _ (congrArg s.after (attempt_none (gateRelease_rest g n hm)))
    · exact congrArg _ (congrArg s.after (attempt_none (conversionStart_rest n hm)))
    · exact congrArg _ (congrArg s.after (attempt_none (parkDeadline_rest hm)))
    · exact congrArg _ (congrArg s.after (attempt_none (ejectTimeout_rest hm)))
  · have hpick : s.toPart.start.ctl.state.picking = false :=
      Bool.eq_false_iff.2 fun e => ((TransportState.picking_iff _).1 e).elim hw hrun
    rw [exec_ownEffect]
    exact congrArg _ (congrArg s.after (attempt_none (pickDeadline_rest t hpick)))
  · intro s t hpending hstep hn hplaced ha ht hl due
    have hready : s.toPart.start.Ready := ⟨ha, ht, hl⟩
    have hdue : ∀ d, due d ↔ s.toPart.start.reached d = true := fun d => iff_of_eq (Bool.not_eq_true' _).symm
    have hidle : t.toPart = s.toPart.start.fireAll.endTick := by
      unfold step at hstep
      rw [hpending] at hstep
      exact (congrArg State.toPart (Host.Outcome.next.inj hstep)).symm
    have hleaves := endTick_leaves s.toPart.start.fireAll
    rw [← hidle] at hleaves
    obtain ⟨hctl, hgates, htrack, hfeeders, harmed, hreference⟩ := hleaves
    rw [hctl, hgates, htrack, hfeeders, harmed, hreference]
    simp only [hdue]
    refine ⟨fun hm => ⟨fun x hx hd => (limits_stop hready hn hplaced hm hx hd).1,
        fun e he hi d hd hdue => (park_stops hready hm he hi hd hdue).1,
        fun e d he hs hd hdue => (eject_stops hready hm he hs hd hdue).1,
        fun hm' => ⟨fun o ho d hd => ?_, fun x hx v d rest hs hd => conversions_started hready hn hm hm' hx hs hd⟩⟩,
      fun hp k d hreq hd hdue => picks_taken hready ?_ hdue, fun hs d hd hdue => warmup_ends hready hd hdue,
      fun hs d hd hdue => ?_, fun _ => watch_ends hready⟩
    · have hreleased := (List.mem_append.1 ho).elim (fun ho => gates_released hready hm hm' .gd o ho d hd)
        fun ho => gates_released hready hm hm' .gx o ho d hd
      exact Bool.eq_false_iff.1 hreleased
    · obtain ⟨x, hx, hholder, -⟩ := hplaced.2.2.2.1 k hreq
      exact ⟨x, hx, hholder⟩
    · exact Classical.or_iff_not_imp_left.2 fun h => run_ends hready hd hdue (Classical.not_not.1 h)

end
end Sys2Proof.Machine

namespace Sys2Proof.Machine

/-! ### The work that one event can still bring about (R19, R40, R54, R131, R158, R170, R173, R183)

Each event of the cascade spends some of what it works through: a record of the Order Queue, an entry not resolved yet, a
stalled sheet, a pending load, the end of an operation, an eject to start, or the open group. `Agenda.work` counts what
is left with enough weight on a record that all it can bring about is paid for. -/

/-- What the events of the cascade work through. -/
structure Agenda where
  orders : Nat
  keys : List GroupKey
  results : List GroupKey
  spots : List (SheetState × TrayId)
  requests : PerTray Bool
  pending : Bool
  state : TransportState
  ejecting : Bool
  opened : Bool

def Part.agenda (p : Part) : Agenda :=
  { orders := p.link.orders.length
    keys := p.groups.entries.map Group.key
    results := p.link.held.results
    spots := p.track.sheets.map fun s => (s.state, s.tray)
    requests := p.feeders.map Feeder.request
    pending := p.link.pendingLoad.isSome
    state := p.ctl.state
    ejecting := p.acc.eject.isSome
    opened := p.planner.openGroup.isSome }

/-- The states that end by themselves once the path is empty or the run end has been reached. -/
def TransportState.ending : TransportState → Bool
  | .draining | .runout | .recovery => true
  | _ => false

/-- The entries whose result is not held. -/
def Agenda.unresolved (a : Agenda) : Nat := (a.keys.filter fun k => !a.results.contains k).length

/-- The sheets in PICKING with no request outstanding on their tray (R54). -/
def Agenda.stalls (a : Agenda) : Nat := (a.spots.filter fun x => x.1 == .picking && !a.requests.get x.2).length

def Agenda.work (a : Agenda) : Nat :=
  8 * a.orders + a.unresolved + a.stalls + a.pending.toNat + a.state.ending.toNat + (!a.ejecting).toNat + a.opened.toNat

theorem work_lt_fuel (p : Part) : p.agenda.work < p.fuel := by
  have hgroups : p.agenda.unresolved ≤ p.groups.entries.length :=
    (List.length_filter_le ..).trans (Nat.le_of_eq (List.length_map ..))
  have hsheets : p.agenda.stalls ≤ p.track.sheets.length :=
    (List.length_filter_le ..).trans (Nat.le_of_eq (List.length_map ..))
  have horders : p.agenda.orders = p.link.orders.length := rfl
  have hb : ∀ b : Bool, b.toNat ≤ 1 := fun b => by cases b <;> decide
  have h1 := hb p.agenda.pending
  have h2 := hb p.agenda.state.ending
  have h3 := hb (!p.agenda.ejecting)
  have h4 := hb p.agenda.opened
  unfold Agenda.work Part.fuel
  omega

theorem PerTray.map_map {α β γ : Type} (f : α → β) (g : β → γ) (v : PerTray α) :
    (v.map f).map g = v.map fun x => g (f x) := rfl

theorem PerTray.map_set {α β : Type} (f : α → β) (v : PerTray α) (t : TrayId) (x : α) :
    (v.set t x).map f = (v.map f).set t (f x) := by cases t <;> rfl

theorem PerTray.map_set_same {α β : Type} {f : α → β} {v : PerTray α} {t : TrayId} {x : α} (h : f x = f (v.get t)) :
    (v.set t x).map f = v.map f := by
  rw [PerTray.map_set, h]
  cases t <;> rfl

section
variable {p q : Part}

/-! ### What the shared operations leave of the agenda -/

theorem mapGroup_keys (p : Part) (k : GroupKey) {f : Group → Group} (hf : ∀ g, (f g).key = g.key) :
    (p.mapGroup k f).groups.entries.map Group.key = p.groups.entries.map Group.key := by
  rw [mapGroup_groups_entries, List.map_map]
  refine List.map_congr_left fun g _ => ?_
  rw [Function.comp_apply]
  split
  · exact hf g
  · rfl

theorem mapGroup_agenda (p : Part) (k : GroupKey) {f : Group → Group} (hf : ∀ g, (f g).key = g.key) :
    (p.mapGroup k f).agenda = p.agenda := by
  have h := mapGroup_keys p k hf
  unfold Part.agenda
  rw [h]
  rfl

/-- A change of the records that keeps their states and trays. -/
theorem sheets_agenda (p : Part) (l : List Sheet)
    (hl : (l.map fun s => (s.state, s.tray)) = p.track.sheets.map fun s => (s.state, s.tray)) :
    Part.agenda { p with track := { p.track with sheets := l } } = p.agenda := by
  unfold Part.agenda
  dsimp only
  rw [hl]

theorem mapSheet_agenda (p : Part) (n : Half) {f : Sheet → Sheet}
    (hf : ∀ s, (f s).state = s.state ∧ (f s).tray = s.tray) : (p.mapSheet n f).agenda = p.agenda := by
  refine sheets_agenda p _ ?_
  rw [List.map_map]
  refine List.map_congr_left fun s _ => ?_
  rw [Function.comp_apply]
  split
  · rw [(hf s).1, (hf s).2]
  · rfl

theorem breakEffects_agenda (p : Part) (k : GroupKey) : (p.breakEffects k).agenda = p.agenda := by
  refine Eq.trans ?_ (sheets_agenda p (p.track.sheets.map fun s => if s.group == k then s.spoilWith .groupBroken else s) ?_)
  · rfl
  · rw [List.map_map]
    refine List.map_congr_left fun s _ => ?_
    rw [Function.comp_apply]
    split <;> rfl

theorem clearOpen_agenda (p : Part) : p.clearOpen.agenda = { p.agenda with opened := false } := rfl

theorem closeAtCap_agenda (p : Part) (k : GroupKey) :
    (p.closeAtCap k).agenda = p.agenda ∨ (p.closeAtCap k).agenda = { p.agenda with opened := false } := by
  rcases closeAtCap_eq p k with h | h <;> rw [h]
  · exact .inl rfl
  · rw [clearOpen_agenda, mapGroup_agenda]
    · exact .inr rfl
    · exact fun _ => rfl

/-- A break leaves the agenda, but for an open group that it closes at 64 orders. -/
theorem breakGroup_agenda (p : Part) (k : GroupKey) (x : BreakReason) :
    (p.breakGroup k x).agenda = p.agenda ∨ (p.breakGroup k x).agenda = { p.agenda with opened := false } := by
  rcases breakGroup_eq p k x with h | h | h <;> rw [h]
  · exact .inl rfl
  · have := closeAtCap_agenda ((p.mapGroup k fun g => { g with state := .brokenOpen, reason := some x }).breakEffects k) k
    rwa [breakEffects_agenda, mapGroup_agenda] at this
    exact fun _ => rfl
  · rw [breakEffects_agenda, mapGroup_agenda]
    · exact .inl rfl
    · exact fun _ => rfl

theorem breakOpen_agenda (p : Part) (x : BreakReason) :
    (p.breakOpen x).agenda = p.agenda ∨ (p.breakOpen x).agenda = { p.agenda with opened := false } := by
  unfold Part.breakOpen
  split
  · exact .inl rfl
  · exact breakGroup_agenda p _ x

theorem truncate_agenda (p : Part) : p.truncate.agenda = { p.agenda with opened := false } := by
  unfold Part.truncate
  split
  · rename_i h
    unfold Part.agenda
    rw [h]
    rfl
  · split
    · rfl
    · split
      · rw [clearOpen_agenda, breakEffects_agenda, mapGroup_agenda]
        exact fun _ => rfl
      · rw [clearOpen_agenda, mapGroup_agenda]
        exact fun _ => rfl
      all_goals rfl

theorem occur_agenda (p : Part) (k : CoalescedKind) (x : Report) (f : Report → Report) :
    (p.occur k x f).agenda = p.agenda := by
  obtain ⟨hsame, -, horders, -, hpending, -, -, -, hresults⟩ := occur_leaves p k x f
  have h := congrArg Part.agenda hsame
  unfold Part.agenda at *
  simp only [Agenda.mk.injEq] at h
  obtain ⟨-, hkeys, -, hspots, hrequests, -, hstate, heject, hopen⟩ := h
  rw [horders, hpending, hresults, hkeys, hspots, hrequests, hstate, heject, hopen]

theorem countTaken_agenda (p : Part) : p.countTaken.agenda = p.agenda := by
  unfold Part.countTaken
  split
  · rfl
  · exact occur_agenda _ _ _ _

theorem takeHead_agenda (p : Part) :
    p.takeHead.agenda = { p.agenda with orders := p.link.orders.length - 1 } := by
  refine (countTaken_agenda _).trans ?_
  unfold Part.agenda
  rw [dropHead_link_orders, List.length_tail]
  rfl

theorem loadResult_agenda (p : Part) (t : TableId) (c : Option LoadCause) :
    (p.loadResult t c).agenda = { p.agenda with orders := p.link.orders.length - 1 } := by
  refine (countTaken_agenda _).trans ?_
  unfold Part.agenda
  rw [appendReport_link_orders, dropHead_link_orders, List.length_tail]
  rfl

theorem discard_agenda (p : Part) (o : SheetOrder) (k : GroupKey) :
    (p.discard o k).agenda = { p.agenda with orders := p.link.orders.length - 1 }
    ∨ (p.discard o k).agenda = { p.agenda with orders := p.link.orders.length - 1, opened := false } := by
  unfold Part.discard
  split
  · refine .inr ?_
    rw [clearOpen_agenda, mapGroup_agenda, mapGroup_agenda, takeHead_agenda]
    all_goals exact fun _ => rfl
  · have h := closeAtCap_agenda
      (p.takeHead.mapGroup k fun g => { g with accepted := g.accepted + 1, unfed := g.unfed + 1 }) k
    rwa [mapGroup_agenda, takeHead_agenda] at h
    exact fun _ => rfl

theorem discardOrphan_agenda (p : Part) :
    p.discardOrphan.agenda = { p.agenda with orders := p.link.orders.length - 1 }
    ∨ p.discardOrphan.agenda = { p.agenda with orders := p.link.orders.length - 1, opened := false } := by
  have h := breakOpen_agenda (p.takeHead.streamFault { StreamFault.zero with orphan := 1 }) .sequence
  have hs : (p.takeHead.streamFault { StreamFault.zero with orphan := 1 }).agenda = p.takeHead.agenda :=
    occur_agenda _ _ _ _
  rwa [hs, takeHead_agenda] at h

theorem discardSampling_agenda (p : Part) : p.discardSampling.agenda = p.agenda := by
  refine sheets_agenda p (p.track.sheets.map Sheet.discardSampling) ?_
  rw [List.map_map]
  refine List.map_congr_left fun s _ => ?_
  unfold Function.comp Sheet.discardSampling
  split <;> rfl

theorem renewPickDeadlines_agenda (p : Part) : p.renewPickDeadlines.agenda = p.agenda := by
  unfold Part.renewPickDeadlines Part.agenda
  dsimp only
  rw [PerTray.map_map]
  congr 2
  funext f
  split <;> rfl

theorem armWatch_agenda (p : Part) : p.armWatch.agenda = p.agenda := by
  unfold Part.armWatch
  split <;> rfl

theorem enterStandby_agenda (p : Part) : p.enterStandby.agenda = { p.agenda with state := .standby } := by
  have h := discardSampling_agenda (p.setTransport .standby).dropTimed.disarmWatch.dropPickDeadlines
  unfold Part.enterStandby
  simp only []
  split <;> exact h

theorem enterSafe_agenda (p : Part) : p.enterSafe.agenda = { p.agenda with state := .safe } :=
  discardSampling_agenda (p.setTransport .safe).dropTimed.disarmWatch.dropPickDeadlines

theorem applyLocked_agenda (p : Part) (c : PendingLoad) : (p.applyLocked c).agenda = p.agenda := by
  cases c with
  | geometry c => rfl
  | media c => rfl
  | parameters c =>
    unfold Part.applyLocked Part.applyParameters
    simp only []
    split
    · split
      · exact armWatch_agenda _
      · exact armWatch_agenda _
    · split <;> rfl

theorem reformBins_agenda (p : Part) (f : BinId → Bin → Bin) : (p.reformBins f).agenda = p.agenda := by
  unfold Part.reformBins
  generalize BinId.list = bins
  induction bins generalizing p with
  | nil => rfl
  | cons b bins ih =>
    refine (ih _).trans ?_
    unfold Part.setBin
    simp only []
    split <;> rfl

theorem liveLoad_agenda (p : Part) (t : TableId) (n : Nat) (b : List Byte) : (p.liveLoad t n b).1.agenda = p.agenda := by
  rcases liveLoad_cases p t n b with h | ⟨c, -, h⟩ | ⟨c, -, h⟩ <;> rw [h]
  · rfl
  · exact reformBins_agenda _ _

/-! ### Each event of the cascade spends some work -/

/-- The agenda after a record has been taken and nothing else has been added. -/
theorem work_lt_of_taken {a b : Agenda} (ho : b.orders + 1 = a.orders) (hk : b.keys = a.keys)
    (hr : b.results = a.results) (hs : b.spots = a.spots) (hq : b.requests = a.requests) (he : b.ejecting = a.ejecting) :
    b.work < a.work := by
  have hb : ∀ x : Bool, x.toNat ≤ 1 := fun x => by cases x <;> decide
  have h1 := hb b.pending
  have h2 := hb b.state.ending
  have h3 := hb b.opened
  unfold Agenda.work Agenda.unresolved Agenda.stalls
  rw [hk, hr, hs, hq, he]
  omega

theorem pendingLoadApplied_work (h : p.pendingLoadApplied = some q) : q.agenda.work < p.agenda.work := by
  unfold Part.pendingLoadApplied at h
  split at h
  · rename_i c hc
    split at h
    · cases h
      rw [applyLocked_agenda]
      have hp : p.agenda.pending = true := by unfold Part.agenda; rw [hc]; rfl
      have hq : (p.setPendingLoad none).agenda = { p.agenda with pending := false } := rfl
      rw [hq]
      unfold Agenda.work Agenda.unresolved Agenda.stalls
      rw [hp]
      simp
    · cases h
  · cases h

/-- The end of an operation. -/
theorem work_lt_of_ended {a : Agenda} {x : TransportState} (ha : a.state.ending = true) (hx : x.ending = false) :
    Agenda.work { a with state := x } < a.work := by
  unfold Agenda.work Agenda.unresolved Agenda.stalls
  rw [ha]
  dsimp only
  rw [hx]
  simp

theorem drainEnd_work (h : p.drainEnd = some q) : q.agenda.work < p.agenda.work := by
  unfold Part.drainEnd at h
  split at h
  · rename_i hd
    have ha : p.agenda.state.ending = true := by unfold Part.agenda; rw [hd.1]; rfl
    cases h
    split
    · have hq : p.resumeRunning.agenda = { p.agenda with state := .running } := by
        unfold Part.resumeRunning
        rw [armWatch_agenda, renewPickDeadlines_agenda]
        rfl
      rw [hq]
      exact work_lt_of_ended ha rfl
    · rw [enterStandby_agenda]
      exact work_lt_of_ended ha rfl
  · cases h

theorem runoutEnd_work (h : p.runoutEnd = some q) : q.agenda.work < p.agenda.work := by
  unfold Part.runoutEnd at h
  split at h
  · rename_i hr
    have ha : p.agenda.state.ending = true := by unfold Part.agenda; rw [hr.1]; rfl
    cases h
    split
    · rw [enterSafe_agenda]
      exact work_lt_of_ended ha rfl
    · rw [enterStandby_agenda, enterSafe_agenda]
      exact work_lt_of_ended ha rfl
  · cases h

theorem recoveryEnd_work (h : p.recoveryEnd = some q) : q.agenda.work < p.agenda.work := by
  unfold Part.recoveryEnd at h
  split at h
  · rename_i hr
    have ha : p.agenda.state.ending = true := by unfold Part.agenda; rw [hr.1]; rfl
    cases h
    rw [enterStandby_agenda]
    exact work_lt_of_ended (a := p.agenda) ha rfl
  · cases h

/-- An eject begins where none was in flight. -/
theorem work_lt_of_ejected {a b : Agenda} (ha : a.ejecting = false)
    (hb : b = { a with ejecting := true } ∨ b = { a with ejecting := true, opened := false }) : b.work < a.work := by
  rcases hb with rfl | rfl <;> unfold Agenda.work Agenda.unresolved Agenda.stalls <;> dsimp only <;>
    rw [ha, Bool.not_true, Bool.not_false, Bool.toNat_true, Bool.toNat_false]
  all_goals omega

theorem ejectIntact_agenda (p : Part) (g : Group) :
    (p.ejectIntact g).agenda = { p.agenda with ejecting := true }
    ∨ (p.ejectIntact g).agenda = { p.agenda with ejecting := true, opened := false } := by
  unfold Part.ejectIntact
  split
  · exact .inl rfl
  · split
    · refine .inl ?_
      rename_i b _
      exact congrArg (fun a : Agenda => { a with ejecting := true })
        (mapGroup_agenda p g.key (f := fun x => { x with bin := some b }) fun _ => rfl)
    · exact (breakGroup_agenda p g.key .bin).imp (congrArg fun a : Agenda => { a with ejecting := true })
        (congrArg fun a : Agenda => { a with ejecting := true })

theorem setEjectStart_work (h : p.setEjectStart = some q) : q.agenda.work < p.agenda.work := by
  unfold Part.setEjectStart at h
  split at h
  · cases h
  · rename_i g _
    split at h
    · cases h
    · split at h
      · rename_i hdue
        cases h
        simp only [Part.dueIntact, Bool.and_eq_true] at hdue
        exact work_lt_of_ejected (by unfold Part.agenda; dsimp only; rw [Option.isNone_iff_eq_none.1 hdue.1.2]; rfl)
          (ejectIntact_agenda p g)
      · split at h
        · rename_i hdue
          cases h
          simp only [Part.dueBroken, Bool.and_eq_true] at hdue
          exact work_lt_of_ejected (by unfold Part.agenda; dsimp only; rw [Option.isNone_iff_eq_none.1 hdue.1.2]; rfl)
            (.inl rfl)
        · cases h

theorem filter_length_lt {α : Type} {f g : α → Bool} {l : List α} (h : ∀ x, g x = true → f x = true) {x : α}
    (hx : x ∈ l) (hf : f x = true) (hg : g x = false) : (l.filter g).length < (l.filter f).length := by
  rw [← List.countP_eq_length_filter, ← List.countP_eq_length_filter]
  induction l with
  | nil => cases hx
  | cons a l ih =>
    rw [List.countP_cons, List.countP_cons]
    rcases List.mem_cons.1 hx with rfl | hx
    · have := List.countP_mono_left (p := g) (q := f) (l := l) fun x _ => h x
      rw [hf, hg]
      simp
      omega
    · have := ih hx
      have hle : (if g a = true then 1 else 0) ≤ (if f a = true then 1 else 0) := by
        split
        · rename_i e; rw [if_pos (h a e)]
        · exact Nat.zero_le _
      omega

/-- A resolution takes a key from those not resolved: the entry leaves, or its result is held. -/
theorem groupResolution_work (h : p.groupResolution = some q) : q.agenda.work < p.agenda.work := by
  unfold Part.groupResolution at h
  split at h
  · cases h
  · rename_i g hg
    have hmem : g.key ∈ p.groups.entries.map Group.key := List.mem_map_of_mem (List.mem_of_find?_eq_some hg)
    have hres : p.link.held.results.contains g.key = false := by
      have hr := List.find?_some hg
      unfold Part.resolvable at hr
      rw [Bool.and_eq_true] at hr
      simpa using hr.2
    split at h <;> cases h
    · have hlt : (p.reportGroup g).agenda.unresolved < p.agenda.unresolved := by
        have hq : (p.reportGroup g).agenda.unresolved
            = (p.agenda.keys.filter fun k => !(k == g.key) && !p.link.held.results.contains k).length := by
          unfold Agenda.unresolved Part.agenda Part.reportGroup
          dsimp only
          rw [List.filter_map, List.filter_map, List.length_map, List.length_map, List.filter_filter]
          refine congrArg List.length (List.filter_congr fun x _ => ?_)
          exact Bool.and_comm ..
        rw [hq]
        exact filter_length_lt (fun k hk => by rw [Bool.and_eq_true] at hk; exact hk.2) hmem
          (by show (!p.link.held.results.contains g.key) = true; rw [hres]; rfl) (by simp)
      unfold Agenda.work
      exact Nat.add_lt_add_right (Nat.add_lt_add_right (Nat.add_lt_add_right (Nat.add_lt_add_right
        (Nat.add_lt_add_right (Nat.add_lt_add_left hlt _) _) _) _) _) _
    · have hlt : ((p.groups.entries.map Group.key).filter fun k => !(p.link.held.results ++ [g.key]).contains k).length
          < ((p.groups.entries.map Group.key).filter fun k => !p.link.held.results.contains k).length := by
        refine filter_length_lt (fun k hk => ?_) hmem (by rw [hres]; rfl) (by simp)
        simp only [Bool.not_eq_true', List.contains_eq_mem, decide_eq_false_iff_not, List.mem_append, not_or] at hk ⊢
        exact hk.1
      unfold Agenda.work
      exact Nat.add_lt_add_right (Nat.add_lt_add_right (Nat.add_lt_add_right (Nat.add_lt_add_right
        (Nat.add_lt_add_right (Nat.add_lt_add_left hlt _) _) _) _) _) _


/-- A record taken pays for the entry, the sheet and the open group that it brings. -/
theorem work_lt_of_opened {a b : Agenda} (ho : b.orders + 1 = a.orders) (hu : b.unresolved ≤ a.unresolved + 1)
    (hs : b.stalls ≤ a.stalls + 1) (he : b.ejecting = a.ejecting) : b.work < a.work := by
  have hb : ∀ x : Bool, x.toNat ≤ 1 := fun x => by cases x <;> decide
  have h1 := hb b.pending
  have h2 := hb b.state.ending
  have h3 := hb b.opened
  unfold Agenda.work
  rw [he]
  omega

theorem mapFeeder_agenda (p : Part) (t : TrayId) (f : Feeder → Feeder) :
    (p.mapFeeder t f).agenda
      = { p.agenda with requests := p.agenda.requests.set t (f (p.feeders.get t)).request } := by
  unfold Part.agenda
  rw [mapFeeder_feeders, PerTray.map_set]
  rfl

theorem requestPick_requests (p : Part) (t : TrayId) :
    (p.requestPick t).agenda = { p.agenda with requests := p.agenda.requests.set t true } :=
  mapFeeder_agenda p t fun f => { f with request := true, deadline := some (p.after p.params.pickLimit) }

/-- A staging position that another record takes keeps its request. -/
theorem mapFeeder_agenda_same (p : Part) (t : TrayId) {f : Feeder → Feeder} (hf : ∀ x, (f x).request = x.request) :
    (p.mapFeeder t f).agenda = p.agenda := by
  unfold Part.agenda
  rw [mapFeeder_feeders, PerTray.map_set_same (hf _)]
  rfl

theorem moveTo_agenda (p : Part) (s : Sheet) (t : TrayId) :
    (p.moveTo s t).agenda = { p.agenda with
      spots := p.track.sheets.map fun r => (r.state, if r.seq = s.seq then t else r.tray)
      requests := (p.agenda.requests.set s.tray false).set t true } := by
  have hmove : ∀ q : Part, (q.mapSheet s.seq fun r => { r with tray := t, attempts := 0 }).agenda
      = { q.agenda with spots := q.track.sheets.map fun r => (r.state, if r.seq = s.seq then t else r.tray) } := by
    intro q
    unfold Part.agenda
    rw [mapSheet_track_sheets, List.map_map]
    have hspots : (q.track.sheets.map ((fun r : Sheet => (r.state, r.tray)) ∘ fun r =>
          if r.seq == s.seq then { r with tray := t, attempts := 0 } else r))
        = q.track.sheets.map fun r => (r.state, if r.seq = s.seq then t else r.tray) := by
      refine List.map_congr_left fun r _ => ?_
      simp only [Function.comp_apply, beq_iff_eq]
      split <;> rfl
    rw [hspots]
    rfl
  unfold Part.moveTo
  simp only []
  rw [requestPick_requests, hmove, mapFeeder_agenda_same, mapFeeder_agenda]
  · rfl
  · exact fun _ => rfl

/-- A request more makes no stall. -/
theorem stalls_set_le (a : Agenda) (t : TrayId) : Agenda.stalls { a with requests := a.requests.set t true } ≤ a.stalls := by
  unfold Agenda.stalls
  rw [← List.countP_eq_length_filter, ← List.countP_eq_length_filter]
  refine List.countP_mono_left fun x _ h => ?_
  rw [Bool.and_eq_true, PerTray.get_set] at h
  rw [Bool.and_eq_true]
  refine ⟨h.1, ?_⟩
  by_cases e : x.2 = t
  · rw [if_pos e] at h
    cases h.2
  · rw [if_neg e] at h
    exact h.2

/-- A sheet picked is one more sheet, that stalls if no request could be sent. -/
theorem takeIntoPick_agenda (p : Part) (o : SheetOrder) (m : MediaEntry) (k : GroupKey) (t : TrayId) :
    ∃ requests, (p.takeIntoPick o m k t).agenda
        = { p.agenda with spots := p.agenda.spots ++ [(.picking, t)], requests := requests }
      ∧ (requests = p.agenda.requests ∨ requests = p.agenda.requests.set t true) := by
  have hbase : ∀ x : Part, x.agenda = { p.agenda with spots := p.agenda.spots ++ [(.picking, t)] } →
      ∃ requests, Part.agenda (if x.usable t then x.requestPick t else x)
          = { p.agenda with spots := p.agenda.spots ++ [(.picking, t)], requests := requests }
        ∧ (requests = p.agenda.requests ∨ requests = p.agenda.requests.set t true) := by
    intro x hx
    split
    · refine ⟨p.agenda.requests.set t true, ?_, .inr rfl⟩
      rw [requestPick_requests, hx]
    · exact ⟨p.agenda.requests, hx, .inl rfl⟩
  have hrequests : (p.feeders.set t { p.feeders.get t with holder := some p.track.nextSeq }).map Feeder.request
      = p.feeders.map Feeder.request := PerTray.map_set_same rfl
  refine hbase _ ?_
  refine (mapGroup_agenda _ k (f := fun g => { g with accepted := g.accepted + 1, inPath := g.inPath + 1 })
    fun _ => rfl).trans ?_
  unfold Part.agenda
  simp only [mapFeeder_feeders, mapFeeder_track, List.map_append, List.map_cons, List.map_nil]
  rw [hrequests]
  rfl

theorem takeIntoPick_stalls (p : Part) (o : SheetOrder) (m : MediaEntry) (k : GroupKey) (t : TrayId) :
    (p.takeIntoPick o m k t).agenda.stalls ≤ p.agenda.stalls + 1 := by
  obtain ⟨requests, h, hr⟩ := takeIntoPick_agenda p o m k t
  rw [h]
  have hadd : Agenda.stalls { p.agenda with spots := p.agenda.spots ++ [(.picking, t)] } ≤ p.agenda.stalls + 1 := by
    unfold Agenda.stalls
    dsimp only
    rw [List.filter_append, List.length_append]
    exact Nat.add_le_add_left (List.length_filter_le ..) _
  rcases hr with rfl | rfl
  · exact hadd
  · exact (stalls_set_le { p.agenda with spots := p.agenda.spots ++ [(.picking, t)] } t).trans hadd

theorem closeIfLast_agenda (p : Part) (o : SheetOrder) (k : GroupKey) :
    (p.closeIfLast o k).agenda = p.agenda ∨ (p.closeIfLast o k).agenda = { p.agenda with opened := false } := by
  unfold Part.closeIfLast
  split
  · refine .inr ?_
    exact congrArg (fun a : Agenda => { a with opened := false })
      (mapGroup_agenda p k (f := fun g => { g with lastTag := some o.tag, state := .closed }) fun _ => rfl)
  · exact .inl rfl

theorem addGroup_agenda (p : Part) (g : Group) :
    (p.addGroup g).agenda = { p.agenda with keys := p.agenda.keys ++ [g.key] } := by
  unfold Part.agenda
  rw [addGroup_groups, List.map_append]
  rfl

theorem setOpen_agenda (p : Part) (k : GroupKey) : (p.setOpen k).agenda = { p.agenda with opened := true } := rfl

theorem reserve_agenda (p : Part) (a : Allowance) : (p.reserve a).agenda = p.agenda := rfl

/-- An entry more is one more to resolve. -/
theorem unresolved_append (a : Agenda) (k : GroupKey) :
    Agenda.unresolved { a with keys := a.keys ++ [k] } ≤ a.unresolved + 1 := by
  unfold Agenda.unresolved
  rw [List.filter_append, List.length_append]
  exact Nat.add_le_add_left (List.length_filter_le ..) _

/-- The agenda once a FIRST order has truncated the open group and left the queue. -/
theorem truncate_takeHead_agenda (p : Part) :
    p.truncate.takeHead.agenda = { p.agenda with opened := false, orders := p.link.orders.length - 1 } := by
  have hlink : p.truncate.link.orders.length = p.link.orders.length := congrArg Agenda.orders (truncate_agenda p)
  rw [takeHead_agenda, truncate_agenda, hlink]

theorem headOrder_orders {o : SheetOrder} (h : p.headOrder = some o) : ∃ rest, p.link.orders = .order o :: rest := by
  unfold Part.headOrder at h
  split at h
  · rename_i rest hl
    split at h <;> cases h
    exact ⟨rest, hl⟩
  · cases h

theorem orders_pred {x : Queued} {rest : List Queued} (h : p.link.orders = x :: rest) :
    p.link.orders.length - 1 + 1 = p.agenda.orders := by
  unfold Part.agenda
  rw [h]
  rfl

/-- A sheet picked after its order has been taken, whose group may close with it. -/
theorem picked_work (o : SheetOrder) (m : MediaEntry) (k : GroupKey) (t : TrayId) {x : Part} {a : Agenda}
    (ho : x.agenda.orders + 1 = a.orders) (hu : x.agenda.unresolved ≤ a.unresolved + 1)
    (hs : x.agenda.stalls = a.stalls) (he : x.agenda.ejecting = a.ejecting) :
    ((x.takeIntoPick o m k t).closeIfLast o k).agenda.work < a.work := by
  have hst := takeIntoPick_stalls x o m k t
  obtain ⟨requests, h, -⟩ := takeIntoPick_agenda x o m k t
  rcases closeIfLast_agenda (x.takeIntoPick o m k t) o k with hc | hc <;> rw [hc] <;>
    refine work_lt_of_opened ?_ ?_ (hs ▸ hst) ?_ <;> rw [h]
  · exact ho
  · exact hu
  · exact he
  · exact ho
  · exact hu
  · exact he

theorem headTruncation_work (h : p.headTruncation = some q) : q.agenda.work < p.agenda.work := by
  unfold Part.headTruncation at h
  split at h
  · rename_i o _
    split at h
    · rename_i hopen
      cases h
      rw [Bool.and_eq_true] at hopen
      rw [truncate_agenda]
      have ho : p.agenda.opened = true := hopen.2
      unfold Agenda.work Agenda.unresolved Agenda.stalls
      rw [ho]
      simp
    · cases h
  · cases h

theorem groupAdmission_work (h : p.groupAdmission = some q) : q.agenda.work < p.agenda.work := by
  unfold Part.groupAdmission at h
  split at h
  · cases h
  · rename_i o ho
    obtain ⟨rest, hl⟩ := headOrder_orders ho
    split at h
    · cases h
    · simp only [] at h
      split at h
      · rename_i f _ g _ _
        cases h
        unfold Part.openGroupWith
        simp only []
        refine picked_work o g.media _ g.tray ?_ ?_ ?_ ?_ <;>
          rw [reserve_agenda, setOpen_agenda, addGroup_agenda, truncate_takeHead_agenda]
        · exact orders_pred hl
        · exact unresolved_append p.agenda _
        · rfl
      · cases h

theorem brokenFromStart_work (h : p.brokenFromStart = some q) : q.agenda.work < p.agenda.work := by
  unfold Part.brokenFromStart at h
  split at h
  · cases h
  · rename_i o ho
    obtain ⟨rest, hl⟩ := headOrder_orders ho
    split at h
    · cases h
    · simp only [] at h
      split at h
      · cases h
        unfold Part.openBroken
        simp only []
        split <;> refine work_lt_of_opened ?_ ?_ ?_ ?_ <;>
          simp only [setOpen_agenda, addGroup_agenda, truncate_takeHead_agenda]
        · exact orders_pred hl
        · exact unresolved_append p.agenda _
        · exact Nat.le_succ _
        · exact orders_pred hl
        · exact unresolved_append p.agenda _
        · exact Nat.le_succ _
      · cases h

theorem discard_work {x : Queued} {rest : List Queued} (hl : p.link.orders = x :: rest) {a : Agenda}
    (ha : a = { p.agenda with orders := p.link.orders.length - 1 }
      ∨ a = { p.agenda with orders := p.link.orders.length - 1, opened := false }) : a.work < p.agenda.work := by
  rcases ha with rfl | rfl <;> exact work_lt_of_taken (orders_pred hl) rfl rfl rfl rfl rfl

theorem furtherOrderPick_work (h : p.furtherOrderPick = some q) : q.agenda.work < p.agenda.work := by
  unfold Part.furtherOrderPick at h
  split at h
  · cases h
  · rename_i o ho
    obtain ⟨rest, hl⟩ := headOrder_orders ho
    split at h
    · cases h
    · rename_i g _
      split at h
      · split at h
        · rename_i r _
          cases h
          have hbreak : ∀ a : Agenda,
              a = { (p.breakGroup g.key r).agenda with orders := (p.breakGroup g.key r).link.orders.length - 1 }
              ∨ a = { (p.breakGroup g.key r).agenda with
                  orders := (p.breakGroup g.key r).link.orders.length - 1, opened := false } → a.work < p.agenda.work := by
            intro a ha
            rw [(breakGroup_leaves p g.key r).link] at ha
            rcases breakGroup_agenda p g.key r with hb | hb <;> rw [hb] at ha
            · exact discard_work hl ha
            · refine discard_work hl (.inr ?_)
              rcases ha with rfl | rfl <;> rfl
          split
          · exact hbreak _ (discard_agenda ..)
          · exact hbreak _ (discardOrphan_agenda _)
        · split at h
          · cases h
          · split at h
            · split at h
              · cases h
                refine picked_work o _ g.key _ ?_ ?_ ?_ ?_ <;> rw [takeHead_agenda]
                · exact orders_pred hl
                · exact Nat.le_succ _
                · rfl
              · cases h
            · cases h
      · cases h

theorem discardedAsUnfed_work (h : p.discardedAsUnfed = some q) : q.agenda.work < p.agenda.work := by
  unfold Part.discardedAsUnfed at h
  split at h
  · cases h
  · rename_i o ho
    obtain ⟨rest, hl⟩ := headOrder_orders ho
    split at h
    · split at h
      · cases h
        exact discard_work hl (discard_agenda ..)
      · cases h
    · cases h

theorem orphanTaken_work (h : p.orphanTaken = some q) : q.agenda.work < p.agenda.work := by
  unfold Part.orphanTaken at h
  split at h
  · cases h
  · rename_i o ho
    obtain ⟨rest, hl⟩ := headOrder_orders ho
    split at h
    · cases h
      exact discard_work hl (discardOrphan_agenda p)
    · cases h

/-- A drain that begins as a record is taken. -/
theorem enterDraining_agenda (p : Part) (r : DrainReason) :
    (p.enterDraining r).agenda = { p.agenda with state := .draining } := rfl

theorem stopTaken_work (h : p.stopTaken = some q) : q.agenda.work < p.agenda.work := by
  unfold Part.stopTaken at h
  split at h
  · rename_i rest hl
    have htaken : p.takeHead.truncate.agenda
        = { p.agenda with orders := p.link.orders.length - 1, opened := false } := by
      rw [truncate_agenda, takeHead_agenda]
    split at h
    · cases h
      rw [enterDraining_agenda, htaken]
      exact work_lt_of_taken (orders_pred hl) rfl rfl rfl rfl rfl
    · cases h
      simp only []
      split
      · exact discard_work hl (.inr htaken)
      · exact discard_work hl (.inr htaken)
    all_goals cases h
    all_goals exact discard_work hl (.inr htaken)
  · cases h

theorem purgeTaken_work (h : p.purgeTaken = some q) : q.agenda.work < p.agenda.work := by
  unfold Part.purgeTaken at h
  split at h
  · rename_i rest hl
    split at h
    · cases h
      have hb := breakOpen_agenda p.takeHead .purged
      rw [takeHead_agenda] at hb
      exact discard_work hl hb
    · cases h
  · cases h

theorem liveLoadTaken_work (h : p.liveLoadTaken = some q) : q.agenda.work < p.agenda.work := by
  unfold Part.liveLoadTaken at h
  split at h
  · rename_i t first body rest hl
    split at h
    · cases h
      refine discard_work hl (.inl ?_)
      rw [loadResult_agenda, liveLoad_agenda, liveLoad_link]
    · cases h
  · cases h

theorem lockedLoadTaken_work (h : p.lockedLoadTaken = some q) : q.agenda.work < p.agenda.work := by
  unfold Part.lockedLoadTaken at h
  split at h
  · rename_i t first body rest hl
    split at h
    · split at h
      · cases h
        exact discard_work hl (.inl (loadResult_agenda ..))
      · rename_i c _
        simp only [] at h
        split at h
        · cases h
          exact discard_work hl (.inl ((applyLocked_agenda ..).trans (loadResult_agenda ..)))
        · cases h
          have htaken : (((p.loadResult t none).setPendingLoad (some c)).truncate).agenda
              = { p.agenda with orders := p.link.orders.length - 1, pending := true, opened := false } := by
            rw [truncate_agenda]
            exact congrArg (fun a : Agenda => { a with pending := true, opened := false }) (loadResult_agenda p t none)
          split
          · rw [enterDraining_agenda, htaken]
            exact work_lt_of_taken (orders_pred hl) rfl rfl rfl rfl rfl
          · rw [htaken]
            exact work_lt_of_taken (orders_pred hl) rfl rfl rfl rfl rfl
    · cases h
  · cases h

/-! ### Stalls that end (R54) -/

/-- A pick request for the tray that a stalled sheet stands at, or moves to, ends its stall. -/
theorem stalls_lt_of_request {a b : Agenda} {l : List Sheet} {tray : Sheet → TrayId} {s : Sheet} {t : TrayId}
    (ha : a.spots = l.map fun r => (r.state, r.tray)) (hb : b.spots = l.map fun r => (r.state, tray r))
    (hs : s ∈ l) (hp : s.state = .picking) (hr : a.requests.get s.tray = false)
    (htray : ∀ r, tray r = r.tray ∨ tray r = t) (hst : tray s = t)
    (hq : ∀ u, a.requests.get u = true ∨ u = t → b.requests.get u = true) : b.stalls < a.stalls := by
  unfold Agenda.stalls
  rw [ha, hb, List.filter_map, List.filter_map, List.length_map, List.length_map]
  refine filter_length_lt (fun r h => ?_) hs ?_ ?_
  · simp only [Function.comp_apply, Bool.and_eq_true, Bool.not_eq_true'] at h ⊢
    refine ⟨h.1, Bool.eq_false_iff.2 fun e => Bool.eq_false_iff.1 h.2 (hq _ ?_)⟩
    exact (htray r).imp (fun e' => by rw [e']; exact e) id
  · simp [hp, hr]
  · simp [hst, hq t (.inr rfl)]

theorem work_lt_of_stalls {a b : Agenda} (h : b.stalls < a.stalls) (ho : b.orders = a.orders) (hk : b.keys = a.keys)
    (hr : b.results = a.results) (hp : b.pending = a.pending) (hs : b.state = a.state) (he : b.ejecting = a.ejecting)
    (hn : b.opened = a.opened) : b.work < a.work := by
  unfold Agenda.work Agenda.unresolved
  rw [ho, hk, hr, hp, hs, he, hn]
  omega

theorem stallEnd_work (h : p.stallEnd = some q) : q.agenda.work < p.agenda.work := by
  unfold Part.stallEnd at h
  split at h
  · split at h
    · cases h
    · rename_i s hs
      obtain ⟨hmem, hstall⟩ := List.mem_filter.1 (mem_of_lowestSeq hs)
      rw [Bool.and_eq_true] at hstall
      have hstalled := hstall.1
      unfold Part.stalled at hstalled
      rw [Bool.and_eq_true, Bool.not_eq_true'] at hstalled
      have hidle : p.agenda.requests.get s.tray = false := by
        rw [← hstalled.2]
        cases s.tray <;> rfl
      split at h
      · cases h
      · rename_i t ht
        split at h
        · rename_i he
          cases h
          rw [requestPick_requests, mapSheet_agenda]
          refine work_lt_of_stalls (stalls_lt_of_request (a := p.agenda) (tray := Sheet.tray) rfl rfl hmem
            (eq_of_beq hstalled.1) hidle (fun _ => .inl rfl) he.symm fun u hu => ?_) rfl rfl rfl rfl rfl rfl rfl
          · rw [PerTray.get_set]
            split
            · rfl
            · rename_i hne
              exact hu.resolve_right hne
          · exact fun _ => ⟨rfl, rfl⟩
        · cases h
          rw [moveTo_agenda]
          refine work_lt_of_stalls (stalls_lt_of_request (a := p.agenda)
            (tray := fun r => if r.seq = s.seq then t else r.tray) rfl rfl
            hmem (eq_of_beq hstalled.1) hidle (fun r => ?_) (if_pos rfl) fun u hu => ?_) rfl rfl rfl rfl rfl rfl rfl
          · by_cases e : r.seq = s.seq
            · exact .inr (if_pos e)
            · exact .inl (if_neg e)
          · rw [PerTray.get_set, PerTray.get_set]
            split
            · rfl
            · rename_i hne
              have hu := hu.resolve_right hne
              rw [if_neg fun e => by rw [e, hidle] at hu; cases hu]
              exact hu
  · cases h

theorem internal_work (h : p.internal = some q) : q.agenda.work < p.agenda.work := by
  rcases internal_cases h with
    loaded | drained | runOut | ejected | resolved | freed | truncated | admitted | broken
    | picked | unfed | orphan | stop | purge | live | locked | recovered
  · exact pendingLoadApplied_work loaded
  · exact drainEnd_work drained
  · exact runoutEnd_work runOut
  · exact setEjectStart_work ejected
  · exact groupResolution_work resolved
  · exact stallEnd_work freed
  · exact headTruncation_work truncated
  · exact groupAdmission_work admitted
  · exact brokenFromStart_work broken
  · exact furtherOrderPick_work picked
  · exact discardedAsUnfed_work unfed
  · exact orphanTaken_work orphan
  · exact stopTaken_work stop
  · exact purgeTaken_work purge
  · exact liveLoadTaken_work live
  · exact lockedLoadTaken_work locked
  · exact recoveryEnd_work recovered

/-- With more fuel than work the cascade ends with nothing left to follow. -/
theorem settleIn_internal (n : Nat) : ∀ p : Part, p.agenda.work < n → (p.settleIn n).internal = none := by
  induction n with
  | zero => exact fun _ h => absurd h (Nat.not_lt_zero _)
  | succ n ih =>
    intro p h
    unfold Part.settleIn
    split
    · assumption
    · rename_i q hq
      exact ih q (Nat.lt_of_lt_of_le (internal_work hq) (Nat.le_of_lt_succ h))

theorem settle_internal (p : Part) : p.settle.internal = none := settleIn_internal _ p (work_lt_fuel p)

/-! ### The end of an event brings nothing about (R25, R58, R188, R191) -/

/-- What the end of an event changes: the waiting reasons, and the report side of the link. -/
structure EndOf where
  waiting : WaitReason
  reported : WaitReason
  reports : List Report
  transmitting : Bool
  slots : Slots
  behind : Slots
  sent : List Message
  due : Bool

def Part.ended (p : Part) (e : EndOf) : Part :=
  { p with
    planner := { p.planner with waiting := e.waiting, reported := e.reported }
    link := { p.link with
      reports := e.reports, transmitting := e.transmitting, held := { p.link.held with slots := e.slots }
      waiting := e.behind }
    sent := e.sent
    attentionDue := e.due }

/-- The reports are no fewer, and a report is held where one was. -/
def Part.NoLess (p : Part) (e : EndOf) : Prop :=
  p.link.reports.length ≤ e.reports.length ∧ (p.link.held.slots.any = true → e.slots.any = true)

theorem loadRoom_ended {e : EndOf} (he : p.NoLess e) (h : p.loadRoom = false) : (p.ended e).loadRoom = false := by
  unfold Part.loadRoom Part.reportRoom Part.anyHeld at *
  rw [Bool.and_eq_false_iff] at h ⊢
  refine h.imp (fun h => ?_) fun h => ?_
  · rw [decide_eq_false_iff_not] at h ⊢
    exact fun k => h (Nat.lt_of_le_of_lt he.1 k)
  · rw [Bool.not_eq_false', Bool.or_eq_true, Bool.or_eq_true] at h ⊢
    exact h.imp (Or.imp id he.2) id

theorem tableCheck_ended {e : EndOf} (he : p.NoLess e) {u : Unit} (h : (p.ended e).tableCheck = .ok u) :
    p.tableCheck = .ok u := by
  have hle : p.link.reports.length ≤ e.reports.length := he.1
  unfold Part.tableCheck at h ⊢
  split at h
  · cases h
  · rename_i hs
    split at h
    · cases h
    · rename_i hg
      split at h
      · cases h
      · rename_i hr
        rw [if_neg (show ¬(!p.ctl.state.picking) = true from hs),
          if_neg (show ¬Config.tableSize ≤ p.groups.entries.length from hg), if_neg]
        exact fun k => hr (Nat.lt_of_lt_of_le k (Nat.add_le_add_right (Nat.add_le_add_right hle _) _))

theorem admissionCheck_ended {e : EndOf} (he : p.NoLess e) {o : SheetOrder} {f : FirstFields} {g : Grant}
    (h : (p.ended e).admissionCheck o f = .ok g) : p.admissionCheck o f = .ok g := by
  unfold Part.admissionCheck at h ⊢
  cases ht : (p.ended e).tableCheck with
  | error x => rw [ht] at h; cases h
  | ok u =>
    rw [ht] at h
    rw [tableCheck_ended he ht]
    exact h

theorem truncate_ended (p : Part) (e : EndOf) : (p.ended e).truncate = p.truncate.ended e := by
  unfold Part.truncate
  cases hk : p.planner.openGroup with
  | none => simp only [Part.ended, hk]
  | some k =>
    simp only [show (p.ended e).planner.openGroup = some k from hk, show (p.ended e).group? k = p.group? k from rfl]
    cases hg : p.group? k with
    | none => rfl
    | some g =>
      dsimp only
      cases g.state <;> rfl

theorem noLess_truncate {e : EndOf} (he : p.NoLess e) : p.truncate.NoLess e := by
  have hlink : p.truncate.link = p.link := by
    unfold Part.truncate
    split
    · rfl
    · split
      · rfl
      · split <;> rfl
  unfold Part.NoLess
  rw [hlink]
  exact he

theorem internal_eq_none_iff (p : Part) : p.internal = none ↔
    p.pendingLoadApplied = none ∧ p.drainEnd = none ∧ p.runoutEnd = none ∧ p.setEjectStart = none
    ∧ p.groupResolution = none ∧ p.stallEnd = none ∧ p.headTruncation = none ∧ p.groupAdmission = none
    ∧ p.brokenFromStart = none ∧ p.furtherOrderPick = none ∧ p.discardedAsUnfed = none ∧ p.orphanTaken = none
    ∧ p.stopTaken = none ∧ p.purgeTaken = none ∧ p.liveLoadTaken = none ∧ p.lockedLoadTaken = none
    ∧ p.recoveryEnd = none := by
  unfold Part.internal
  simp only [Option.orElse_eq_orElse, Option.orElse_eq_or, Option.or_eq_none_iff]

theorem groupAdmission_ended {e : EndOf} (he : p.NoLess e) (h : p.groupAdmission = none) :
    (p.ended e).groupAdmission = none := by
  by_contra hne
  obtain ⟨q, hq⟩ := Option.ne_none_iff_exists'.1 hne
  unfold Part.groupAdmission at h hq
  rw [show (p.ended e).headOrder = p.headOrder from rfl, truncate_ended] at hq
  split at hq
  · cases hq
  · rename_i o ho
    rw [ho] at h
    dsimp only at h
    split at hq
    · cases hq
    · rename_i f hf
      rw [hf] at h
      dsimp only at h hq
      split at hq
      · rename_i g hs ha
        rw [show p.truncate.startBreak o f = none from hs, admissionCheck_ended (noLess_truncate he) ha] at h
        cases h
      · cases hq

theorem brokenFromStart_ended {e : EndOf} (he : p.NoLess e) (h : p.brokenFromStart = none) :
    (p.ended e).brokenFromStart = none := by
  by_contra hne
  obtain ⟨q, hq⟩ := Option.ne_none_iff_exists'.1 hne
  unfold Part.brokenFromStart at h hq
  rw [show (p.ended e).headOrder = p.headOrder from rfl, truncate_ended] at hq
  split at hq
  · cases hq
  · rename_i o ho
    rw [ho] at h
    dsimp only at h
    split at hq
    · cases hq
    · rename_i f hf
      rw [hf] at h
      dsimp only at h hq
      split at hq
      · rename_i r u hs ht
        rw [show p.truncate.startBreak o f = some r from hs, tableCheck_ended (noLess_truncate he) ht] at h
        cases h
      · cases hq

section
variable (p : Part) (e : EndOf)

@[simp] theorem ended_ctl : (p.ended e).ctl = p.ctl := rfl
@[simp] theorem ended_acc : (p.ended e).acc = p.acc := rfl
@[simp] theorem ended_groups : (p.ended e).groups = p.groups := rfl
@[simp] theorem ended_track : (p.ended e).track = p.track := rfl
@[simp] theorem ended_orders : (p.ended e).link.orders = p.link.orders := rfl
@[simp] theorem ended_pendingLoad : (p.ended e).link.pendingLoad = p.link.pendingLoad := rfl
@[simp] theorem ended_openGroup : (p.ended e).planner.openGroup = p.planner.openGroup := rfl
@[simp] theorem ended_group? (k : GroupKey) : (p.ended e).group? k = p.group? k := rfl
@[simp] theorem ended_resolvable : (p.ended e).resolvable = p.resolvable := rfl
@[simp] theorem ended_dueIntact (g : Group) : (p.ended e).dueIntact g = p.dueIntact g := rfl
@[simp] theorem ended_dueBroken (g : Group) : (p.ended e).dueBroken g = p.dueBroken g := rfl
@[simp] theorem ended_stalled (s : Sheet) : (p.ended e).stalled s = p.stalled s := rfl
@[simp] theorem ended_stallTray (s : Sheet) : (p.ended e).stallTray s = p.stallTray s := rfl
@[simp] theorem ended_headOrder : (p.ended e).headOrder = p.headOrder := rfl
@[simp] theorem ended_ownGroup (o : SheetOrder) : (p.ended e).ownGroup o = p.ownGroup o := rfl
@[simp] theorem ended_furtherBreak (o : SheetOrder) (g : Group) : (p.ended e).furtherBreak o g = p.furtherBreak o g := rfl
@[simp] theorem ended_media? (n : Nat) : (p.ended e).media? n = p.media? n := rfl
@[simp] theorem ended_pickCheck (m : MediaEntry) : (p.ended e).pickCheck m = p.pickCheck m := rfl
@[simp] theorem ended_pathEmpty : (p.ended e).pathEmpty = p.pathEmpty := rfl
@[simp] theorem ended_checkLocked (t : TableId) (n : Nat) (b : List Byte) :
    (p.ended e).checkLocked t n b = p.checkLocked t n b := rfl

end

theorem setEjectStart_ended (e : EndOf) (h : p.setEjectStart = none) : (p.ended e).setEjectStart = none := by
  have hset : p.acc.setGroup.bind (p.ended e).group? = p.acc.setGroup.bind p.group? := rfl
  unfold Part.setEjectStart at h ⊢
  simp only [ended_acc, hset, ended_ctl, ended_dueIntact, ended_dueBroken]
  split at h
  · rfl
  · split at h
    · simp [*]
    · split at h
      · cases h
      · split at h
        · cases h
        · simp [*]

theorem stallEnd_ended (e : EndOf) (h : p.stallEnd = none) : (p.ended e).stallEnd = none := by
  unfold Part.stallEnd at h ⊢
  simp only [ended_ctl, ended_track, ended_stalled, ended_stallTray]
  split at h
  · split at h
    · simp [*]
    · split at h
      · simp [*]
      · split at h <;> cases h
  · simp [*]

theorem headTruncation_ended (e : EndOf) (h : p.headTruncation = none) : (p.ended e).headTruncation = none := by
  unfold Part.headTruncation at h ⊢
  simp only [ended_headOrder, ended_openGroup]
  split at h
  · split at h
    · cases h
    · simp [*]
  · rfl

theorem furtherOrderPick_ended (e : EndOf) (h : p.furtherOrderPick = none) : (p.ended e).furtherOrderPick = none := by
  unfold Part.furtherOrderPick at h ⊢
  simp only [ended_headOrder, ended_ownGroup, ended_furtherBreak, ended_media?, ended_ctl, ended_pickCheck]
  split at h
  · rfl
  · split at h
    · simp [*]
    · split at h
      · split at h
        · cases h
        · split at h
          · simp [*]
          · split at h
            · split at h
              · cases h
              · simp [*]
            · simp [*]
      · simp [*]

theorem lockedLoadTaken_ended {e : EndOf} (he : p.NoLess e) (h : p.lockedLoadTaken = none) :
    (p.ended e).lockedLoadTaken = none := by
  unfold Part.lockedLoadTaken at h ⊢
  simp only [ended_orders, ended_pendingLoad, ended_pathEmpty, ended_ctl, ended_checkLocked]
  split at h
  · split at h
    · split at h
      · cases h
      · simp only [] at h
        split at h <;> cases h
    · rename_i hcond
      cases hroom : p.loadRoom with
      | false => simp [loadRoom_ended he hroom]
      | true =>
        simp_all
  · rfl

theorem liveLoadTaken_ended {e : EndOf} (he : p.NoLess e) (h : p.liveLoadTaken = none) :
    (p.ended e).liveLoadTaken = none := by
  unfold Part.liveLoadTaken at h ⊢
  simp only [ended_orders]
  split at h
  · split at h
    · cases h
    · rename_i hcond
      cases hroom : p.loadRoom with
      | false => simp [loadRoom_ended he hroom]
      | true =>
        rw [hroom] at hcond
        simp only [Bool.and_true] at hcond
        simp [*]
  · rfl

/-- What would follow after the end of an event would have followed before it. -/
theorem internal_ended {e : EndOf} (he : p.NoLess e) (h : p.internal = none) : (p.ended e).internal = none := by
  rw [internal_eq_none_iff] at h ⊢
  obtain ⟨loaded, drained, runOut, ejected, resolved, freed, truncated, admitted, broken, picked, unfed, orphan, stop,
    purge, live, locked, recovered⟩ := h
  refine ⟨?_, ?_, ?_, setEjectStart_ended e ejected, ?_, stallEnd_ended e freed, headTruncation_ended e truncated,
    groupAdmission_ended he admitted, brokenFromStart_ended he broken, furtherOrderPick_ended e picked, ?_, ?_, ?_, ?_,
    liveLoadTaken_ended he live, lockedLoadTaken_ended he locked, ?_⟩
  · unfold Part.pendingLoadApplied at loaded ⊢
    simp only [ended_pendingLoad, ended_pathEmpty]
    split at loaded
    · split at loaded
      · cases loaded
      · simp [*]
    · rfl
  · unfold Part.drainEnd at drained ⊢
    simp only [ite_eq_right_iff, reduceCtorEq, imp_false] at drained ⊢
    exact drained
  · unfold Part.runoutEnd at runOut ⊢
    simp only [ite_eq_right_iff, reduceCtorEq, imp_false] at runOut ⊢
    exact runOut
  · unfold Part.groupResolution at resolved ⊢
    simp only [ended_groups, ended_resolvable]
    split at resolved
    · rfl
    · split at resolved <;> cases resolved
  · unfold Part.discardedAsUnfed at unfed ⊢
    simp only [ended_headOrder, ended_ownGroup]
    split at unfed
    · rfl
    · split at unfed
      · split at unfed
        · cases unfed
        · simp [*]
      · simp [*]
  · unfold Part.orphanTaken at orphan ⊢
    simp only [ended_headOrder, ended_ownGroup]
    split at orphan
    · rfl
    · split at orphan
      · cases orphan
      · simp [*]
  · unfold Part.stopTaken at stop ⊢
    simp only [ended_orders, ended_ctl]
    split at stop
    · split at stop <;> simp_all
    · rfl
  · unfold Part.purgeTaken at purge ⊢
    simp only [ended_orders, ended_ctl]
    split at purge
    · split at purge
      · cases purge
      · simp [*]
    · rfl
  · unfold Part.recoveryEnd at recovered ⊢
    simp only [ite_eq_right_iff, reduceCtorEq, imp_false] at recovered ⊢
    exact recovered

/-! ### The statement -/

/-- The waiting reasons are those of the state as it stands, and no ATTENTION occurrence is left (R25, R58, R188). -/
def Part.Current (p : Part) : Prop :=
  p.planner.waiting = p.plannerWait ∧ p.planner.reported = p.reportedWait p.plannerWait ∧ p.attentionDue = false

/-- An ATTENTION record stands, so that a further occurrence leaves the number of reports and what is held (R187). -/
def Part.Attended (p : Part) : Prop :=
  p.sendingKind = some .attention ∨ (p.link.reports.any fun r => r.kind == some .attention) = true
  ∨ p.link.held.slots.attention.isSome = true

/-- A change of the report side that the waiting reasons do not see. -/
def Part.SameRoom (p : Part) (e : EndOf) : Prop :=
  e.reports.length = p.link.reports.length ∧ e.slots.any = p.link.held.slots.any

theorem plannerWait_ended {e : EndOf} (h : p.SameRoom e) : (p.ended e).plannerWait = p.plannerWait := by
  have htable : (p.ended e).tableCheck = p.tableCheck := by
    unfold Part.tableCheck
    rw [show (p.ended e).link.reports.length = p.link.reports.length from h.1]
    rfl
  have hadmit : ∀ o f, (p.ended e).admissionCheck o f = p.admissionCheck o f := by
    intro o f
    unfold Part.admissionCheck
    rw [htable]
    rfl
  have hload : (p.ended e).loadRoom = p.loadRoom := by
    unfold Part.loadRoom Part.reportRoom Part.anyHeld
    rw [show (p.ended e).link.reports.length = p.link.reports.length from h.1,
      show (p.ended e).link.held.slots.any = p.link.held.slots.any from h.2]
    rfl
  have horder : ∀ o, (p.ended e).orderWait o = p.orderWait o := by
    intro o
    unfold Part.orderWait
    rw [htable]
    simp only [hadmit]
    rfl
  unfold Part.plannerWait
  rw [hload, ended_orders]
  simp only [horder]

/-- An ATTENTION occurrence: the first leaves a record, and one after it changes no room (R187). -/
theorem attention_ended (p : Part) : ∃ e, p.attention = p.ended e ∧ p.NoLess e
    ∧ e.waiting = p.planner.waiting ∧ e.reported = p.planner.reported ∧ e.due = p.attentionDue
    ∧ (p.Attended → p.SameRoom e) ∧ p.attention.Attended := by
  unfold Part.attention Part.occur
  split
  · rename_i hsending
    exact ⟨⟨p.planner.waiting, p.planner.reported, p.link.reports, p.link.transmitting, p.link.held.slots,
      p.link.waiting.set .attention _, p.sent, p.attentionDue⟩, rfl, ⟨Nat.le_refl _, id⟩, rfl, rfl, rfl,
      fun _ => ⟨rfl, rfl⟩, .inl hsending⟩
  · split
    · rename_i hany
      refine ⟨⟨p.planner.waiting, p.planner.reported,
        p.link.reports.map fun r => if r.kind == some .attention then .attention p.attentionNow else r,
        p.link.transmitting, p.link.held.slots, p.link.waiting, p.sent, p.attentionDue⟩, rfl,
        ⟨Nat.le_of_eq (List.length_map ..).symm, id⟩, rfl, rfl, rfl, fun _ => ⟨List.length_map .., rfl⟩, .inr (.inl ?_)⟩
      obtain ⟨r, hr, hk⟩ := List.any_eq_true.1 hany
      refine List.any_eq_true.2 ⟨_, List.mem_map_of_mem hr, ?_⟩
      rw [if_pos hk]
      rfl
    · rename_i hsending hany
      split
      · rename_i r hheld
        have hheld : p.link.held.slots.attention = some r := hheld
        refine ⟨⟨p.planner.waiting, p.planner.reported, p.link.reports, p.link.transmitting,
          p.link.held.slots.set .attention _, p.link.waiting, p.sent, p.attentionDue⟩, rfl, ⟨Nat.le_refl _, fun _ => ?_⟩,
          rfl, rfl, rfl, fun _ => ⟨rfl, ?_⟩, .inr (.inr rfl)⟩ <;> simp [Slots.any, Slots.set, hheld]
      · rename_i hheld
        have hheld : p.link.held.slots.attention = none := hheld
        have hnot : ¬p.Attended := by
          rintro (h | h | h)
          · exact hsending h
          · exact hany h
          · rw [hheld] at h
            cases h
        split
        · refine ⟨⟨p.planner.waiting, p.planner.reported, p.link.reports ++ [.attention p.attentionNow],
            p.link.transmitting, p.link.held.slots, p.link.waiting, p.sent, p.attentionDue⟩, rfl,
            ⟨by rw [List.length_append]; exact Nat.le_add_right _ _, id⟩, rfl, rfl, rfl, fun h => absurd h hnot,
            .inr (.inl ?_)⟩
          exact List.any_eq_true.2 ⟨_, List.mem_append_right _ (List.mem_singleton_self _), rfl⟩
        · exact ⟨⟨p.planner.waiting, p.planner.reported, p.link.reports, p.link.transmitting,
            p.link.held.slots.set .attention _, p.link.waiting, p.sent, p.attentionDue⟩, rfl,
            ⟨Nat.le_refl _, fun _ => by simp [Slots.any, Slots.set]⟩, rfl, rfl, rfl, fun h => absurd h hnot,
            .inr (.inr rfl)⟩

/-- The waiting reasons formed again: they were current and nothing was due, or an occurrence is due. -/
theorem updateWaits_cases (p : Part) :
    p.updateWaits = p ∧ (p.attentionDue = false → p.Current)
    ∨ p.updateWaits = Part.notice { p with planner := { p.planner with
        waiting := p.plannerWait, reported := p.reportedWait p.plannerWait } } := by
  unfold Part.updateWaits
  simp only []
  split
  · rename_i h
    exact .inl ⟨rfl, fun hd => ⟨h.1, h.2, hd⟩⟩
  · exact .inr rfl

theorem updateWaits_waits (p : Part) :
    p.updateWaits.planner.waiting = p.plannerWait ∧ p.updateWaits.planner.reported = p.reportedWait p.plannerWait := by
  unfold Part.updateWaits
  simp only []
  split
  · assumption
  · exact ⟨rfl, rfl⟩

/-- The waiting reasons formed, and the occurrence in hand. -/
def Part.waitsFormed (p : Part) : EndOf :=
  { waiting := p.plannerWait, reported := p.reportedWait p.plannerWait, reports := p.link.reports
    transmitting := p.link.transmitting, slots := p.link.held.slots, behind := p.link.waiting, sent := p.sent
    due := false }

theorem updateWaits_ended (p : Part) : p.updateWaits.noticed = p.ended p.waitsFormed := by
  obtain ⟨hw, hr⟩ := updateWaits_waits p
  unfold Part.waitsFormed Part.ended
  dsimp only
  rcases updateWaits_cases p with ⟨h, -⟩ | h <;> rw [h] at hw hr ⊢
  · rw [← hr, ← hw]
    rfl
  · rfl

theorem ended_ended (p : Part) (e f : EndOf) : (p.ended e).ended f = p.ended f := rfl

/-- One round of the end of an event: nothing was left to do, or an ATTENTION record stands after it. -/
theorem attend_cases (p : Part) :
    (p.attend = p ∧ p.Current)
    ∨ ∃ e, p.attend = p.ended e ∧ p.NoLess e ∧ p.attend.Attended ∧ (p.Attended → p.attend.Current) := by
  have hround : ∃ e, p.updateWaits.noticed.attention = p.ended e ∧ p.NoLess e
      ∧ p.updateWaits.noticed.attention.Attended
      ∧ (p.Attended → p.updateWaits.noticed.attention.Current) := by
    rw [updateWaits_ended]
    obtain ⟨f, hf, hless, hw, hr, hd, hroom, hatt⟩ := attention_ended (p.ended p.waitsFormed)
    refine ⟨f, hf, hless, hatt, fun h => ?_⟩
    have hsame : p.SameRoom f := hroom h
    rw [hf, ended_ended]
    unfold Part.Current
    rw [plannerWait_ended hsame]
    exact ⟨hw, hr, hd⟩
  unfold Part.attend
  simp only []
  split
  · exact .inr hround
  · rename_i hdue
    rcases updateWaits_cases p with ⟨h, hc⟩ | h <;> rw [h] at hdue ⊢
    · exact .inl ⟨rfl, hc (Bool.eq_false_iff.2 hdue)⟩
    · exact absurd rfl hdue

theorem attend_attend_current (p : Part) : p.attend.attend.Current := by
  rcases attend_cases p with ⟨h, hc⟩ | ⟨-, -, -, hatt, -⟩
  · rw [h, h]
    exact hc
  · rcases attend_cases p.attend with ⟨h, hc⟩ | ⟨-, -, -, -, hc⟩
    · rw [h]
      exact hc
    · exact hc hatt

theorem attend_internal (h : p.internal = none) : p.attend.internal = none := by
  rcases attend_cases p with ⟨he, -⟩ | ⟨e, he, hless, -⟩ <;> rw [he]
  · exact h
  · exact internal_ended hless h

theorem beginSending_ended (p : Part) : ∃ e, p.beginSending = p.ended e ∧ p.SameRoom e
    ∧ e.waiting = p.planner.waiting ∧ e.reported = p.planner.reported ∧ e.due = p.attentionDue := by
  unfold Part.beginSending
  split
  · split
    · exact ⟨⟨p.planner.waiting, p.planner.reported, p.link.reports, true, p.link.held.slots, p.link.waiting, _,
        p.attentionDue⟩, rfl, ⟨rfl, rfl⟩, rfl, rfl, rfl⟩
    · exact ⟨⟨p.planner.waiting, p.planner.reported, p.link.reports, p.link.transmitting, p.link.held.slots,
        p.link.waiting, p.sent, p.attentionDue⟩, rfl, ⟨rfl, rfl⟩, rfl, rfl, rfl⟩
  · exact ⟨⟨p.planner.waiting, p.planner.reported, p.link.reports, p.link.transmitting, p.link.held.slots,
      p.link.waiting, p.sent, p.attentionDue⟩, rfl, ⟨rfl, rfl⟩, rfl, rfl, rfl⟩

/-- An event leaves nothing undone: what follows in it has been carried out, and its end brings nothing more about. -/
theorem close_undone (p : Part) : p.close.internal = none ∧ p.close.Current := by
  unfold Part.close Part.finish
  obtain ⟨e, he, hsame, hw, hr, hd⟩ := beginSending_ended p.settle.attend.attend
  rw [he]
  refine ⟨internal_ended ⟨Nat.le_of_eq hsame.1.symm, fun h => hsame.2 ▸ h⟩
    (attend_internal (attend_internal (settle_internal p))), ?_⟩
  obtain ⟨hcw, hcr, hcd⟩ := attend_attend_current p.settle
  unfold Part.Current
  rw [plannerWait_ended hsame]
  exact ⟨hw.trans hcw, hr.trans hcr, hd.trans hcd⟩

/-- Settles O3: each event of the cascade spends some of the work that its fuel counts, so the cascade ends with nothing
left to follow; the end of the event then only adds to the reports, which brings nothing about. -/
theorem nothingIsLeftUndone : Obligations.NothingIsLeftUndone := by
  intro c s t h
  rw [exec_ownEffect] at h
  cases h
  obtain ⟨hnone, hw, hr, hd⟩ := close_undone (ownEffect c s.toPart.start)
  exact ⟨hnone, hw, hr, hd⟩

end
end Sys2Proof.Machine

namespace Sys2Proof.Machine

/-! ### What the promises about the bills read

`Part.bills` gathers the fields that the Group Table's, the account's and bill integrity's promises read; most of what the
machine does leaves them as they were. -/

structure BillView where
  groups : GroupTable
  openGroup : Option GroupKey
  results : List GroupKey
  sheets : List Sheet
  nextSeq : Half
  acc : Accumulator
  allowances : List Allowance
  cadenceGroup : Option GroupKey

def Part.bills (p : Part) : BillView :=
  { groups := p.groups
    openGroup := p.planner.openGroup
    results := p.link.held.results
    sheets := p.track.sheets
    nextSeq := p.track.nextSeq
    acc := p.acc
    allowances := p.stacker.allowances
    cadenceGroup := p.arbiter.cadenceGroup }

/-- A part of which nothing but these fields is said. -/
def BillView.part (v : BillView) : Part :=
  { State.reset.toPart with
    groups := v.groups
    planner := { openGroup := v.openGroup, waiting := .none, reported := .none }
    link := { State.reset.link with held := { State.reset.link.held with results := v.results } }
    track := { State.reset.track with sheets := v.sheets, nextSeq := v.nextSeq }
    acc := v.acc
    stacker := { State.reset.stacker with allowances := v.allowances }
    arbiter := { State.reset.arbiter with cadenceGroup := v.cadenceGroup } }

/-! ### The promises, with some groups hurt

Within an event a sheet may be spoiled or removed before its group is broken: the groups in `hurt` are those still to be
broken. -/

/-- The Group Table agrees, and every held result has its entry and is held once (R27, R28, R40, R186). -/
def Part.GroupsHold (p : Part) : Prop :=
  p.GroupsAgree ∧ p.link.held.results.Nodup ∧ ∀ k ∈ p.link.held.results, ∃ g ∈ p.groups.entries, g.key = k

/-- What a break of the entry's group may rest on: none of it is delivered, and its set is not being ejected. -/
def Part.Whole (p : Part) (g : Group) : Prop :=
  g.delivered = 0 ∧ (p.acc.eject.isSome = true → p.acc.setGroup ≠ some g.key)

/-- Bill integrity of one entry, unless its group is hurt (R35, R41, R131, R142). -/
def Part.EntryWhole (p : Part) (hurt : GroupKey → Prop) (g : Group) : Prop :=
  (g.state.broken = false → ¬hurt g.key →
    g.purged = 0 ∧ g.removed = 0 ∧ g.unfed = 0
    ∧ (g.delivered = 0 ∨ (g.state = .closed ∧ g.delivered = g.accepted))
    ∧ ∀ s ∈ p.sheetsOf g.key, s.Bound)
  ∧ (g.state.broken = false → hurt g.key → p.Whole g)
  ∧ (g.state.broken = true → g.delivered = 0 ∧ ∀ s ∈ p.sheetsOf g.key, s.destination = .purge)
  ∧ (p.stacker.allowances.any fun a => a.group == g.key) = (!g.state.broken && g.delivered == 0)
  ∧ ∀ e, p.acc.eject = some e → p.acc.setGroup = some g.key →
      match e.target with
      | .purge => g.state.broken = true
      | .bin b => g.state = .closed ∧ g.inSet = g.accepted ∧ g.bin = some b

structure Part.WholeBut (p : Part) (hurt : GroupKey → Prop) : Prop where
  entries : ∀ g ∈ p.groups.entries, p.EntryWhole hurt g
  rooms : (p.stacker.allowances.map Allowance.group).Nodup
  room : ∀ a ∈ p.stacker.allowances, ∃ g ∈ p.groups.entries, g.key = a.group ∧ g.bin = some a.bin
    ∧ a.count = if g.state = .closed then g.accepted else g.declared
  cadence : ∀ k, p.arbiter.cadenceGroup = some k → ∃ g ∈ p.groups.entries, g.key = k ∧ g.state.broken = false
    ∧ (hurt k ∨ g.state = .admitting ∨ ∃ s ∈ p.sheetsOf k, s.fresh = true)

/-- No group is hurt. -/
def Unhurt : GroupKey → Prop := fun _ => False

theorem billsWhole_iff (p : Part) : p.BillsWhole ↔ p.WholeBut Unhurt := by
  constructor
  · rintro ⟨hwhole, hbroken, hallow, hnodup, hroom, heject, hcadence⟩
    refine ⟨fun g hg => ⟨fun hb _ => hwhole g hg hb, fun _ h => h.elim, hbroken g hg, hallow g hg,
      fun e he hs => heject e he g hg hs⟩, hnodup, hroom, fun k hk => ?_⟩
    obtain ⟨g, hg, hgk, hb, h⟩ := hcadence k hk
    exact ⟨g, hg, hgk, hb, .inr h⟩
  · rintro ⟨hentry, hnodup, hroom, hcadence⟩
    refine ⟨fun g hg hb => (hentry g hg).1 hb id, fun g hg => (hentry g hg).2.2.1, fun g hg => (hentry g hg).2.2.2.1,
      hnodup, hroom, fun e he g hg hs => (hentry g hg).2.2.2.2 e he hs, fun k hk => ?_⟩
    obtain ⟨g, hg, hgk, hb, h⟩ := hcadence k hk
    exact ⟨g, hg, hgk, hb, h.resolve_left id⟩

theorem groupsHold_bills (p : Part) : p.GroupsHold ↔ p.bills.part.GroupsHold := Iff.rfl
theorem billsAccounted_bills (p : Part) : p.BillsAccounted ↔ p.bills.part.BillsAccounted := Iff.rfl

theorem wholeBut_bills (p : Part) (hurt : GroupKey → Prop) : p.WholeBut hurt ↔ p.bills.part.WholeBut hurt :=
  ⟨fun ⟨a, b, c, d⟩ => ⟨a, b, c, d⟩, fun ⟨a, b, c, d⟩ => ⟨a, b, c, d⟩⟩

/-- What a change keeps of the promises about the bills: those of `hurt` still to be broken before it, those of `hurt'`
after it. Sheets leave the track only with `departs`. -/
structure Settles (departs : Bool) (hurt hurt' : GroupKey → Prop) (p q : Part) : Prop where
  groups : p.GroupsHold → q.GroupsHold
  account : p.GroupsHold → p.BillsAccounted → q.BillsAccounted
  whole : p.GroupsHold → p.BillsAccounted → p.WholeBut hurt → q.WholeBut hurt'
  nextSeq : p.GroupsHold → p.BillsAccounted → q.track.nextSeq = p.track.nextSeq
  seqs : p.GroupsHold → p.BillsAccounted → (q.track.sheets.map Sheet.seq).Sublist (p.track.sheets.map Sheet.seq)
  length : p.GroupsHold → p.BillsAccounted → departs = false → q.track.sheets.length = p.track.sheets.length

section
variable {p q r : Part} {d : Bool} {hurt hurt' hurt'' : GroupKey → Prop}

theorem Settles.trans (h : Settles d hurt hurt' p q) (k : Settles d hurt' hurt'' q r) : Settles d hurt hurt'' p r where
  groups := k.groups ∘ h.groups
  account hg ha := k.account (h.groups hg) (h.account hg ha)
  whole hg ha hw := k.whole (h.groups hg) (h.account hg ha) (h.whole hg ha hw)
  nextSeq hg ha := (k.nextSeq (h.groups hg) (h.account hg ha)).trans (h.nextSeq hg ha)
  seqs hg ha := (k.seqs (h.groups hg) (h.account hg ha)).trans (h.seqs hg ha)
  length hg ha e := (k.length (h.groups hg) (h.account hg ha) e).trans (h.length hg ha e)

theorem Settles.departing (h : Settles false hurt hurt' p q) : Settles true hurt hurt' p q :=
  { h with length := fun _ _ => nofun }

/-- An update that reaches none of the fields. -/
theorem Settles.of_bills (h : q.bills = p.bills) : Settles d hurt hurt p q where
  groups hp := by rwa [groupsHold_bills, h]
  account _ hp := by rwa [billsAccounted_bills, h]
  whole _ _ hp := by rwa [wholeBut_bills, h, ← wholeBut_bills]
  nextSeq _ _ := congrArg BillView.nextSeq h
  seqs _ _ := by rw [show q.track.sheets = p.track.sheets from congrArg BillView.sheets h]
  length _ _ _ := by rw [show q.track.sheets = p.track.sheets from congrArg BillView.sheets h]

theorem Settles.refl (p : Part) : Settles d hurt hurt p p := .of_bills rfl

theorem Settles.since (h : Settles d hurt hurt' q r) (hq : q.bills = p.bills) : Settles d hurt hurt' p r :=
  (Settles.of_bills hq).trans h

theorem Settles.congr (h : Settles d hurt hurt' p q) (hr : r.bills = q.bills) : Settles d hurt hurt' p r :=
  h.trans (.of_bills hr)

/-- Where the Group Table does not agree nothing is said, and where the account does not hold only the Group Table. -/
theorem Settles.of_accounted (hg : p.GroupsHold → q.GroupsHold)
    (h : p.GroupsHold → p.BillsAccounted → Settles d hurt hurt' p q) : Settles d hurt hurt' p q where
  groups := hg
  account hg ha := (h hg ha).account hg ha
  whole hg ha := (h hg ha).whole hg ha
  nextSeq hg ha := (h hg ha).nextSeq hg ha
  seqs hg ha := (h hg ha).seqs hg ha
  length hg ha := (h hg ha).length hg ha

theorem Settles.of_groups (h : p.GroupsHold → Settles d hurt hurt' p q) : Settles d hurt hurt' p q :=
  .of_accounted (fun hg => (h hg).groups hg) fun hg _ => h hg

/-! ### The account alone -/

/-- What a change keeps of the Group Table and the account. -/
structure KeepsAccount (departs : Bool) (p q : Part) : Prop where
  groups : p.GroupsHold → q.GroupsHold
  account : p.GroupsHold → p.BillsAccounted → q.BillsAccounted
  nextSeq : p.GroupsHold → p.BillsAccounted → q.track.nextSeq = p.track.nextSeq
  seqs : p.GroupsHold → p.BillsAccounted → (q.track.sheets.map Sheet.seq).Sublist (p.track.sheets.map Sheet.seq)
  length : p.GroupsHold → p.BillsAccounted → departs = false → q.track.sheets.length = p.track.sheets.length

theorem Settles.toAccount (h : Settles d hurt hurt' p q) : KeepsAccount d p q :=
  ⟨h.groups, h.account, h.nextSeq, h.seqs, h.length⟩

theorem KeepsAccount.trans (h : KeepsAccount d p q) (k : KeepsAccount d q r) : KeepsAccount d p r where
  groups := k.groups ∘ h.groups
  account hg ha := k.account (h.groups hg) (h.account hg ha)
  nextSeq hg ha := (k.nextSeq (h.groups hg) (h.account hg ha)).trans (h.nextSeq hg ha)
  seqs hg ha := (k.seqs (h.groups hg) (h.account hg ha)).trans (h.seqs hg ha)
  length hg ha e := (k.length (h.groups hg) (h.account hg ha) e).trans (h.length hg ha e)

/-- Bill integrity on its own, from a state where every promise holds. -/
theorem Settles.of_whole (h : KeepsAccount d p q)
    (hw : p.GroupsHold → p.BillsAccounted → p.WholeBut hurt → Settles d hurt hurt' p q) : Settles d hurt hurt' p q where
  groups := h.groups
  account := h.account
  whole hg ha hh := (hw hg ha hh).whole hg ha hh
  nextSeq := h.nextSeq
  seqs := h.seqs
  length := h.length

theorem KeepsAccount.of_accounted (hg : p.GroupsHold → q.GroupsHold)
    (h : p.GroupsHold → p.BillsAccounted → KeepsAccount d p q) : KeepsAccount d p q where
  groups := hg
  account hg ha := (h hg ha).account hg ha
  nextSeq hg ha := (h hg ha).nextSeq hg ha
  seqs hg ha := (h hg ha).seqs hg ha
  length hg ha := (h hg ha).length hg ha

theorem KeepsAccount.of_bills (h : q.bills = p.bills) : KeepsAccount d p q :=
  (Settles.of_bills (hurt := Unhurt) h).toAccount

/-! ### Entries by their keys -/

theorem Part.GroupsHold.keys (h : p.GroupsHold) : (p.groups.entries.map Group.key).Pairwise (· < ·) := h.1.1

theorem Part.GroupsHold.nodup (h : p.GroupsHold) : (p.groups.entries.map Group.key).Nodup :=
  h.keys.imp Nat.ne_of_lt

theorem Part.GroupsHold.unique (h : p.GroupsHold) {g g' : Group} (hg : g ∈ p.groups.entries)
    (hg' : g' ∈ p.groups.entries) (hk : g.key = g'.key) : g = g' :=
  List.inj_on_of_nodup_map h.nodup hg hg' hk

theorem Part.GroupsHold.agrees (h : p.GroupsHold) {g : Group} (hg : g ∈ p.groups.entries) : g.Agrees :=
  (h.1.2.1 g hg).2

theorem Part.GroupsHold.lt_nextKey (h : p.GroupsHold) {g : Group} (hg : g ∈ p.groups.entries) :
    g.key < p.groups.nextKey := (h.1.2.1 g hg).1

theorem Part.GroupsHold.open_iff (h : p.GroupsHold) {g : Group} (hg : g ∈ p.groups.entries) :
    g.state.closedState = false ↔ p.planner.openGroup = some g.key := h.1.2.2.1 g hg

theorem Part.GroupsHold.openGroup_mem (h : p.GroupsHold) {k : GroupKey} (hk : p.planner.openGroup = some k) :
    ∃ g ∈ p.groups.entries, g.key = k := h.1.2.2.2.1 k hk

theorem Part.GroupsHold.closed_of_held (h : p.GroupsHold) {g : Group} (hg : g ∈ p.groups.entries)
    (hk : g.key ∈ p.link.held.results) : g.state.closedState = true := h.1.2.2.2.2 _ hk g hg rfl

theorem Part.GroupsHold.group?_of_mem (h : p.GroupsHold) {g : Group} (hg : g ∈ p.groups.entries) :
    p.group? g.key = some g := by
  cases hk : p.group? g.key with
  | none => exact absurd rfl (group?_eq_none_iff.1 hk g hg)
  | some x => rw [h.unique (mem_of_group? hk) hg (group?_key hk)]

/-- A change of the entries that keeps their keys and closes none but the open one. -/
theorem Part.GroupsHold.of_map (h : p.GroupsHold) (f : Group → Group)
    (he : q.groups.entries = p.groups.entries.map f) (hn : q.groups.nextKey = p.groups.nextKey)
    (hr : q.link.held.results = p.link.held.results) (hk : ∀ g, (f g).key = g.key)
    (hagree : ∀ g ∈ p.groups.entries, g.Agrees → (f g).Agrees)
    (hclosed : ∀ g ∈ p.groups.entries, g.state.closedState = true → (f g).state.closedState = true)
    (hopen : ∀ g ∈ p.groups.entries, (f g).state.closedState = false ↔ q.planner.openGroup = some g.key)
    (hwas : ∀ k, q.planner.openGroup = some k → p.planner.openGroup = some k) : q.GroupsHold := by
  have hmem : ∀ k, (∃ g ∈ p.groups.entries, g.key = k) → ∃ g ∈ q.groups.entries, g.key = k := by
    rintro k ⟨g, hg, rfl⟩
    exact ⟨f g, he ▸ List.mem_map_of_mem hg, hk g⟩
  refine ⟨⟨?_, ?_, ?_, fun k e => hmem k (h.openGroup_mem (hwas k e)), ?_⟩, hr ▸ h.2.1,
    fun k e => hmem k (h.2.2 k (hr ▸ e))⟩
  · rw [he, List.map_map, show Group.key ∘ f = Group.key from funext hk]
    exact h.keys
  all_goals rw [he]
  · intro g hg
    obtain ⟨x, hx, rfl⟩ := List.mem_map.1 hg
    exact ⟨by rw [hk, hn]; exact h.lt_nextKey hx, hagree x hx (h.agrees hx)⟩
  · intro g hg
    obtain ⟨x, hx, rfl⟩ := List.mem_map.1 hg
    rw [hk]
    exact hopen x hx
  · intro k hkr g hg hgk
    obtain ⟨x, hx, rfl⟩ := List.mem_map.1 hg
    rw [hk] at hgk
    exact hclosed x hx (h.closed_of_held hx (by rw [hgk, ← hr]; exact hkr))

/-- A change of one entry that leaves its state and what `Group.Agrees` reads. -/
theorem mapGroup_groupsHold (k : GroupKey) {f : Group → Group} (hk : ∀ g, (f g).key = g.key)
    (hs : ∀ g, (f g).state = g.state) (ha : ∀ g : Group, g.Agrees → (f g).Agrees) (h : p.GroupsHold) :
    (p.mapGroup k f).GroupsHold := by
  have hstate : ∀ g : Group, (if g.key == k then f g else g).state = g.state := fun g => by
    split
    · exact hs g
    · rfl
  refine h.of_map (fun g => if g.key == k then f g else g) rfl rfl rfl (fun g => ?_) (fun g _ hg => ?_)
    (fun g _ => by rw [hstate]; exact id) (fun g hg => by rw [hstate]; exact h.open_iff hg) fun _ => id
  · split
    · exact hk g
    · rfl
  · split
    · exact ha g hg
    · exact hg

theorem mem_sheetsOf {s : Sheet} {k : GroupKey} : s ∈ p.sheetsOf k ↔ s ∈ p.track.sheets ∧ s.group = k := by
  unfold Part.sheetsOf
  rw [List.mem_filter, beq_iff_eq]

/-! ### Changes of the sheet records -/

/-- Every record changed. -/
def Part.sheetsBy (p : Part) (f : Sheet → Sheet) : Part :=
  { p with track := { p.track with sheets := p.track.sheets.map f } }

theorem sheetsBy_sheetsOf {f : Sheet → Sheet} (hg : ∀ s, (f s).group = s.group) (k : GroupKey) :
    (p.sheetsBy f).sheetsOf k = (p.sheetsOf k).map f := by
  unfold Part.sheetsOf Part.sheetsBy
  dsimp only
  rw [List.filter_map]
  congr 2
  funext s
  rw [Function.comp_apply, hg]

theorem sheetsBy_account {f : Sheet → Sheet} (hseq : ∀ s, (f s).seq = s.seq) (hgroup : ∀ s, (f s).group = s.group) :
    KeepsAccount d p (p.sheetsBy f) := by
  have hseqs : (p.track.sheets.map f).map Sheet.seq = p.track.sheets.map Sheet.seq := by
    rw [List.map_map, show Sheet.seq ∘ f = Sheet.seq from funext hseq]
  refine ⟨id, fun _ ha => ?_, fun _ _ => rfl, fun _ _ => hseqs ▸ List.Sublist.refl _, fun _ _ _ => List.length_map ..⟩
  obtain ⟨hcount, hnodup, hhas, hrest⟩ := ha
  refine ⟨fun g hg => ?_, hseqs.symm ▸ hnodup, fun s hs => ?_, hrest⟩
  · rw [sheetsBy_sheetsOf hgroup, List.length_map]
    exact hcount g hg
  · obtain ⟨x, hx, rfl⟩ := List.mem_map.1 hs
    rw [hgroup]
    exact hhas x hx

/-- Bill integrity of an entry whose records stay bound where they were. -/
theorem sheetsBy_entryWhole {f : Sheet → Sheet} {g : Group} (hgroup : ∀ s, (f s).group = s.group)
    (hpurge : ∀ s ∈ p.track.sheets, s.destination = .purge → (f s).destination = .purge)
    (hbound : ∀ s ∈ p.track.sheets, ¬hurt s.group → s.Bound → (f s).Bound) (h : p.EntryWhole hurt g) :
    (p.sheetsBy f).EntryWhole hurt g := by
  obtain ⟨hwhole, hhurt, hbroken, hrest⟩ := h
  refine ⟨fun hb hh => ?_, hhurt, fun hb => ⟨(hbroken hb).1, ?_⟩, hrest⟩
  · obtain ⟨hp, hr, hu, hd, hs⟩ := hwhole hb hh
    refine ⟨hp, hr, hu, hd, ?_⟩
    rw [sheetsBy_sheetsOf hgroup]
    intro s hs'
    obtain ⟨x, hx, rfl⟩ := List.mem_map.1 hs'
    exact hbound x (mem_sheetsOf.1 hx).1 (by rw [(mem_sheetsOf.1 hx).2]; exact hh) (hs x hx)
  · rw [sheetsBy_sheetsOf hgroup]
    intro s hs'
    obtain ⟨x, hx, rfl⟩ := List.mem_map.1 hs'
    exact hpurge x (mem_sheetsOf.1 hx).1 ((hbroken hb).2 x hx)

/-- A change of the records that keeps the account and binds none for purge that was not. -/
theorem sheetsBy_settles {f : Sheet → Sheet} (hseq : ∀ s, (f s).seq = s.seq) (hgroup : ∀ s, (f s).group = s.group)
    (hfresh : ∀ s ∈ p.track.sheets, s.fresh = true → (f s).fresh = true)
    (hpurge : ∀ s ∈ p.track.sheets, s.destination = .purge → (f s).destination = .purge)
    (hbound : ∀ s ∈ p.track.sheets, ¬hurt s.group → s.Bound → (f s).Bound) :
    Settles d hurt hurt p (p.sheetsBy f) := by
  have hkeep : KeepsAccount d p (p.sheetsBy f) := sheetsBy_account hseq hgroup
  refine ⟨hkeep.groups, hkeep.account, fun _ _ hw => ⟨fun g hg => sheetsBy_entryWhole hgroup hpurge hbound
    (hw.entries g hg), hw.rooms, hw.room, fun k hk => ?_⟩, hkeep.nextSeq, hkeep.seqs, hkeep.length⟩
  obtain ⟨g, hg, hgk, hb, h⟩ := hw.cadence k hk
  refine ⟨g, hg, hgk, hb, h.imp id (Or.imp id ?_)⟩
  rintro ⟨s, hs, hf⟩
  exact ⟨f s, by rw [sheetsBy_sheetsOf hgroup]; exact List.mem_map_of_mem hs, hfresh s (mem_sheetsOf.1 hs).1 hf⟩

theorem mapSheet_account (n : Half) {f : Sheet → Sheet} (hseq : ∀ s, (f s).seq = s.seq)
    (hgroup : ∀ s, (f s).group = s.group) : KeepsAccount d p (p.mapSheet n f) :=
  sheetsBy_account (f := fun s => if s.seq == n then f s else s)
    (fun s => by split; exacts [hseq s, rfl]) (fun s => by split; exacts [hgroup s, rfl])

/-- A change of the records of one seq. -/
theorem mapSheet_settles (n : Half) {f : Sheet → Sheet} (hseq : ∀ s, (f s).seq = s.seq)
    (hgroup : ∀ s, (f s).group = s.group)
    (hfresh : ∀ s ∈ p.track.sheets, s.seq = n → s.fresh = true → (f s).fresh = true)
    (hpurge : ∀ s ∈ p.track.sheets, s.seq = n → s.destination = .purge → (f s).destination = .purge)
    (hbound : ∀ s ∈ p.track.sheets, s.seq = n → ¬hurt s.group → s.Bound → (f s).Bound) :
    Settles d hurt hurt p (p.mapSheet n f) := by
  have hcases : ∀ {P : Sheet → Sheet → Prop}, (∀ s, P s s) →
      ∀ s, (s.seq = n → P s (f s)) → P s (if s.seq == n then f s else s) := by
    intro P hid s hs
    split
    · rename_i h
      exact hs (eq_of_beq h)
    · exact hid s
  exact sheetsBy_settles (f := fun s => if s.seq == n then f s else s)
    (fun s => hcases (P := fun s x => x.seq = s.seq) (fun _ => rfl) s fun _ => hseq s)
    (fun s => hcases (P := fun s x => x.group = s.group) (fun _ => rfl) s fun _ => hgroup s)
    (fun s hs => hcases (P := fun s x => s.fresh = true → x.fresh = true) (fun _ => id) s (hfresh s hs))
    (fun s hs => hcases (P := fun s x => s.destination = .purge → x.destination = .purge) (fun _ => id) s (hpurge s hs))
    (fun s hs => hcases (P := fun s x => ¬hurt s.group → s.Bound → x.Bound) (fun _ _ => id) s (hbound s hs))

/-- A change of the records of one seq that leaves state, destination and the way ahead. -/
theorem mapSheet_settles_same (n : Half) {f : Sheet → Sheet} (hseq : ∀ s, (f s).seq = s.seq)
    (hgroup : ∀ s, (f s).group = s.group) (hstate : ∀ s, (f s).state = s.state)
    (hdest : ∀ s, (f s).destination = s.destination) (hbound : ∀ s : Sheet, s.Bound → (f s).Bound) :
    Settles d hurt hurt p (p.mapSheet n f) :=
  mapSheet_settles n hseq hgroup (fun s _ _ h => by unfold Sheet.fresh at *; rwa [hstate])
    (fun s _ _ h => (hdest s).trans h) (fun s _ _ _ => hbound s)

/-! ### Groups hurt and healed -/

/-- The groups hurt may be others where a break may still follow. -/
theorem Part.WholeBut.change (h : p.WholeBut hurt)
    (hless : ∀ g ∈ p.groups.entries, g.state.broken = false → hurt g.key → hurt' g.key)
    (hmore : ∀ g ∈ p.groups.entries, g.state.broken = false → hurt' g.key → hurt g.key ∨ p.Whole g) :
    p.WholeBut hurt' := by
  refine ⟨fun g hg => ?_, h.rooms, h.room, fun k hk => ?_⟩
  · obtain ⟨hwhole, hhurt, hrest⟩ := h.entries g hg
    exact ⟨fun hb hn => hwhole hb fun e => hn (hless g hg hb e),
      fun hb e => (hmore g hg hb e).elim (hhurt hb) id, hrest⟩
  · obtain ⟨g, hg, rfl, hb, h⟩ := h.cadence k hk
    exact ⟨g, hg, rfl, hb, h.imp (hless g hg hb) id⟩

theorem Part.WholeBut.room_at (hw : p.WholeBut hurt) (hp : p.GroupsHold) {g : Group} {k : GroupKey} {a : Allowance}
    (hg : g ∈ p.groups.entries) (hk : g.key = k) (ha : a ∈ p.stacker.allowances) (hak : a.group = k) :
    g.bin = some a.bin ∧ a.count = if g.state = .closed then g.accepted else g.declared := by
  obtain ⟨x, hx, hxa, hrest⟩ := hw.room a ha
  rwa [hp.unique hx hg ((hxa.trans hak).trans hk.symm)] at hrest

theorem Part.WholeBut.cadence_at (hw : p.WholeBut hurt) (hp : p.GroupsHold) {g : Group} {k j : GroupKey}
    (hg : g ∈ p.groups.entries) (hk : g.key = k) (hj : p.arbiter.cadenceGroup = some j) (e : j = k) :
    g.state.broken = false ∧ (hurt k ∨ g.state = .admitting ∨ ∃ s ∈ p.sheetsOf k, s.fresh = true) := by
  obtain ⟨x, hx, hxj, hrest⟩ := hw.cadence j hj
  rwa [hp.unique hx hg ((hxj.trans e).trans hk.symm), e] at hrest

/-- A group may still be broken with a sheet in the path (R35). -/
theorem whole_of_sheet (ha : p.BillsAccounted) (h : p.WholeBut hurt) {s : Sheet} (hs : s ∈ p.track.sheets) {g : Group}
    (hg : g ∈ p.groups.entries) (hk : g.key = s.group) (hb : g.state.broken = false) : p.Whole g := by
  obtain ⟨hwhole, hhurt, -, -, heject⟩ := h.entries g hg
  by_cases hh : hurt g.key
  · exact hhurt hb hh
  · obtain ⟨hsum, hpath, -⟩ := ha.1 g hg
    have hpos : 1 ≤ g.inPath := by
      rw [hpath]
      exact List.length_pos_of_mem (mem_sheetsOf.2 ⟨hs, hk.symm⟩)
    obtain ⟨-, -, -, hd, -⟩ := hwhole hb hh
    refine ⟨hd.resolve_right fun h => by omega, fun he hset => ?_⟩
    obtain ⟨e, he⟩ := Option.isSome_iff_exists.1 he
    have ht := heject e he hset
    split at ht
    · rw [hb] at ht
      cases ht
    · omega

/-- The open group may still be broken. -/
theorem whole_of_open (h : p.WholeBut hurt) {g : Group} (hg : g ∈ p.groups.entries)
    (hopen : g.state.closedState = false) (hb : g.state.broken = false) : p.Whole g := by
  have hnot : g.state ≠ .closed := fun e => by rw [e] at hopen; cases hopen
  obtain ⟨hwhole, hhurt, -, -, heject⟩ := h.entries g hg
  by_cases hh : hurt g.key
  · exact hhurt hb hh
  · obtain ⟨-, -, -, hd, -⟩ := hwhole hb hh
    refine ⟨hd.resolve_right fun h => hnot h.1, fun he hset => ?_⟩
    obtain ⟨e, he⟩ := Option.isSome_iff_exists.1 he
    have ht := heject e he hset
    split at ht
    · rw [hb] at ht
      cases ht
    · exact hnot ht.1

/-- Other groups hurt, nothing changed. -/
theorem Settles.change
    (h : p.GroupsHold → p.BillsAccounted → p.WholeBut hurt → ∀ g ∈ p.groups.entries, g.state.broken = false →
      (hurt g.key → hurt' g.key) ∧ (hurt' g.key → hurt g.key ∨ p.Whole g)) : Settles d hurt hurt' p p where
  groups := id
  account _ := id
  whole hg ha hw := hw.change (fun g hm hb => (h hg ha hw g hm hb).1) fun g hm hb => (h hg ha hw g hm hb).2
  nextSeq _ _ := rfl
  seqs _ _ := List.Sublist.refl _
  length _ _ _ := rfl

theorem Settles.hurt_congr (h : Settles d hurt hurt' p q) (e : ∀ j, hurt'' j ↔ hurt' j) : Settles d hurt hurt'' p q :=
  h.trans (.change fun _ _ _ g _ _ => ⟨(e g.key).2, fun hh => .inl ((e g.key).1 hh)⟩)

end
end Sys2Proof.Machine

namespace Sys2Proof.Machine

section
variable {p q r : Part} {d : Bool} {hurt hurt' : GroupKey → Prop}

theorem filter_any_ne {l : List Allowance} {k j : GroupKey} (h : j ≠ k) :
    ((l.filter fun a => !(a.group == k)).any fun a => a.group == j) = l.any fun a => a.group == j := by
  rw [List.any_filter]
  congr 1
  funext a
  by_cases e : a.group = j
  · simp [e, h]
  · simp [e]

theorem filter_any_self {l : List Allowance} {k : GroupKey} :
    ((l.filter fun a => !(a.group == k)).any fun a => a.group == k) = false := by
  rw [List.any_filter]
  simp

/-- Where the group is `k`, a change of the entry; elsewhere none. -/
theorem mem_mapGroup {k : GroupKey} {f : Group → Group} {x : Group} (hx : x ∈ (p.mapGroup k f).groups.entries) :
    (∃ g ∈ p.groups.entries, g.key = k ∧ x = f g) ∨ (x ∈ p.groups.entries ∧ x.key ≠ k) := by
  obtain ⟨g, hg, rfl⟩ := List.mem_map.1 hx
  by_cases h : g.key = k
  · exact .inl ⟨g, hg, h, if_pos (beq_iff_eq.2 h)⟩
  · rw [if_neg (by simpa using h)]
    exact .inr ⟨hg, h⟩

/-! ### A change of one group and what belongs to it -/

/-- Sheets, set and room of every group but `k` are as they were. -/
structure Part.SameBut (p q : Part) (k : GroupKey) : Prop where
  sheetsOf : ∀ j, j ≠ k → q.sheetsOf j = p.sheetsOf j
  acc : ∀ j, j ≠ k → q.acc.setGroup = some j ∨ p.acc.setGroup = some j → q.acc = p.acc
  rooms : (q.stacker.allowances.filter fun a => !(a.group == k)) = p.stacker.allowances.filter fun a => !(a.group == k)

/-- The entry of `k` is changed by `f`, and no other entry. -/
structure Part.EntryBy (p q : Part) (k : GroupKey) (f : Group → Group) : Prop where
  key : ∀ g, (f g).key = g.key
  entries : q.groups.entries = p.groups.entries.map fun g => if g.key == k then f g else g
  nextKey : q.groups.nextKey = p.groups.nextKey
  results : q.link.held.results = p.link.held.results

section
variable {k : GroupKey} {f : Group → Group} {g : Group}

theorem Part.EntryBy.mem_cases (h : p.EntryBy q k f) (hp : p.GroupsHold) (hg : g ∈ p.groups.entries) (hk : g.key = k)
    {x : Group} (hx : x ∈ q.groups.entries) : x = f g ∨ (x ∈ p.groups.entries ∧ x.key ≠ k) := by
  rw [h.entries] at hx
  rcases mem_mapGroup (p := p) (k := k) (f := f) hx with ⟨y, hy, hyk, rfl⟩ | hx
  · exact .inl (by rw [hp.unique hy hg (hyk.trans hk.symm)])
  · exact .inr hx

theorem Part.EntryBy.mem_same (h : p.EntryBy q k f) {x : Group} (hx : x ∈ p.groups.entries) (hk : x.key ≠ k) :
    x ∈ q.groups.entries := by
  rw [h.entries]
  exact List.mem_map.2 ⟨x, hx, if_neg (by simpa using hk)⟩

theorem Part.EntryBy.mem_new (h : p.EntryBy q k f) (hg : g ∈ p.groups.entries) (hk : g.key = k) :
    f g ∈ q.groups.entries := by
  rw [h.entries]
  exact List.mem_map.2 ⟨g, hg, if_pos (beq_iff_eq.2 hk)⟩

theorem Part.EntryBy.has (h : p.EntryBy q k f) {j : GroupKey} (hj : ∃ x ∈ p.groups.entries, x.key = j) :
    ∃ x ∈ q.groups.entries, x.key = j := by
  obtain ⟨x, hx, rfl⟩ := hj
  by_cases hk : x.key = k
  · exact ⟨f x, h.mem_new hx hk, h.key x⟩
  · exact ⟨x, h.mem_same hx hk, rfl⟩

/-- The Group Table, when the changed entry agrees and the open group is told by its state. -/
theorem Part.EntryBy.groupsHold (h : p.EntryBy q k f) (hp : p.GroupsHold) (hg : g ∈ p.groups.entries) (hk : g.key = k)
    (hagree : (f g).Agrees) (hclosed : g.state.closedState = true → (f g).state.closedState = true)
    (hopen : q.planner.openGroup = p.planner.openGroup ∧ (f g).state.closedState = g.state.closedState
      ∨ p.planner.openGroup = some k ∧ q.planner.openGroup = none ∧ (f g).state.closedState = true) :
    q.GroupsHold := by
  have honly : ∀ x ∈ p.groups.entries, x.key = k → x = g := fun x hx e => hp.unique hx hg (e.trans hk.symm)
  refine hp.of_map (fun x => if x.key == k then f x else x) h.entries h.nextKey h.results (fun x => ?_)
    (fun x hx ha => ?_) (fun x hx hc => ?_) (fun x hx => ?_) fun j hj => ?_
  · split
    · exact h.key x
    · rfl
  · split
    · rename_i e
      rw [honly x hx (eq_of_beq e)]
      exact hagree
    · exact ha
  · split
    · rename_i e
      rw [honly x hx (eq_of_beq e)] at hc ⊢
      exact hclosed hc
    · exact hc
  · have hx' := hp.open_iff hx
    split
    · rename_i e
      rw [honly x hx (eq_of_beq e)] at hx' ⊢
      rcases hopen with ⟨ho, hc⟩ | ⟨-, ho, hc⟩
      · rw [ho, hc]
        exact hx'
      · rw [ho, hc]
        exact ⟨nofun, nofun⟩
    · rename_i e
      rcases hopen with ⟨ho, -⟩ | ⟨hpo, ho, -⟩
      · rw [ho]
        exact hx'
      · rw [ho, hx', hpo]
        exact ⟨fun c => absurd (Option.some.inj c).symm (by simpa using e), nofun⟩
  · rcases hopen with ⟨ho, -⟩ | ⟨-, ho, -⟩
    · exact ho ▸ hj
    · rw [ho] at hj
      cases hj

/-- The account, when it holds of the changed entry. -/
theorem Part.EntryBy.billsAccounted (h : p.EntryBy q k f) (hs : p.SameBut q k) (hp : p.GroupsHold)
    (ha : p.BillsAccounted) (hg : g ∈ p.groups.entries) (hk : g.key = k)
    (hentry : (f g).accepted = (f g).inPath + (f g).inSet + (f g).delivered + (f g).purged + (f g).removed + (f g).unfed
      ∧ (f g).inPath = (q.sheetsOf k).length ∧ (f g).inSet = q.setOf k)
    (hnodup : (q.track.sheets.map Sheet.seq).Nodup) (hset : q.acc.setGroup.isSome = !q.acc.sheets.isEmpty)
    (heject : ∀ e, q.acc.eject = some e → e.count = q.acc.sheets.length ∧ q.acc.sheets ≠ [])
    (hheld : k ∈ p.link.held.results → (f g).inPath = 0 ∧ (f g).inSet = 0) : q.BillsAccounted := by
  obtain ⟨hcount, -, hhas, -, hsetGroup, -, hres⟩ := ha
  have hcase : ∀ {P : Group → Prop}, P (f g) → (∀ x ∈ p.groups.entries, x.key ≠ k → P x) →
      ∀ x ∈ q.groups.entries, P x := fun h1 h2 x hx => by
    rcases h.mem_cases hp hg hk hx with rfl | ⟨hx, hxk⟩
    · exact h1
    · exact h2 x hx hxk
  have hfk : (f g).key = k := (h.key g).trans hk
  refine ⟨hcase (by rw [hfk]; exact hentry) fun x hx hxk => ?_, hnodup, fun s hsm => ?_, hset, fun j hj => ?_, heject,
    hcase (by rw [hfk, h.results]; exact hheld) fun x hx _ => by rw [h.results]; exact hres x hx⟩
  · obtain ⟨hsum, hpath, hin⟩ := hcount x hx
    refine ⟨hsum, by rw [hs.sheetsOf _ hxk]; exact hpath, ?_⟩
    rw [hin]
    unfold Part.setOf
    by_cases hj : q.acc.setGroup = some x.key ∨ p.acc.setGroup = some x.key
    · rw [hs.acc _ hxk hj]
    · rw [if_neg fun e => hj (.inl e), if_neg fun e => hj (.inr e)]
  · by_cases hsk : s.group = k
    · exact h.has ⟨g, hg, hk.trans hsk.symm⟩
    · have hmem : s ∈ q.sheetsOf s.group := mem_sheetsOf.2 ⟨hsm, rfl⟩
      rw [hs.sheetsOf _ hsk] at hmem
      exact h.has (hhas s (mem_sheetsOf.1 hmem).1)
  · by_cases hjk : j = k
    · exact h.has ⟨g, hg, hk.trans hjk.symm⟩
    · rw [hs.acc j hjk (.inl hj)] at hj
      exact h.has (hsetGroup j hj)

/-- Bill integrity, when it holds of the changed entry, its room and the cadence group. -/
theorem Part.EntryBy.wholeBut (h : p.EntryBy q k f) (hs : p.SameBut q k) (hp : p.GroupsHold) (hw : p.WholeBut hurt)
    (hg : g ∈ p.groups.entries) (hk : g.key = k) (hhurt : ∀ j, j ≠ k → (hurt' j ↔ hurt j))
    (hentry : q.EntryWhole hurt' (f g)) (hrooms : (q.stacker.allowances.map Allowance.group).Nodup)
    (hroom : ∀ a ∈ q.stacker.allowances, a.group = k → (f g).bin = some a.bin
      ∧ a.count = if (f g).state = .closed then (f g).accepted else (f g).declared)
    (hcadence : ∀ j, q.arbiter.cadenceGroup = some j → (j ≠ k → p.arbiter.cadenceGroup = some j)
      ∧ (j = k → (f g).state.broken = false
        ∧ (hurt' k ∨ (f g).state = .admitting ∨ ∃ s ∈ q.sheetsOf k, s.fresh = true))) : q.WholeBut hurt' := by
  have hfk : (f g).key = k := (h.key g).trans hk
  have hmem : ∀ a : Allowance, a.group ≠ k → (a ∈ q.stacker.allowances ↔ a ∈ p.stacker.allowances) := fun a hak => by
    have := congrArg (a ∈ ·) hs.rooms
    simpa [hak] using this
  refine ⟨fun x hx => ?_, hrooms, fun a ha => ?_, fun j hj => ?_⟩
  · rcases h.mem_cases hp hg hk hx with rfl | ⟨hx, hxk⟩
    · exact hentry
    · obtain ⟨hwhole, hhw, hbroken, hany, heject⟩ := hw.entries x hx
      unfold Part.EntryWhole Part.Whole
      rw [hs.sheetsOf _ hxk, hhurt _ hxk]
      refine ⟨hwhole, fun hb hh => ⟨(hhw hb hh).1, fun he e => ?_⟩, hbroken, ?_, fun e he hset => ?_⟩
      · rw [hs.acc _ hxk (.inl e)] at he e
        exact (hhw hb hh).2 he e
      · rw [← hany, ← filter_any_ne hxk, ← filter_any_ne (l := p.stacker.allowances) hxk, hs.rooms]
      · rw [hs.acc _ hxk (.inl hset)] at he hset
        exact heject e he hset
  · by_cases hak : a.group = k
    · exact ⟨f g, h.mem_new hg hk, hfk.trans hak.symm, hroom a ha hak⟩
    · obtain ⟨x, hx, hxa, hrest⟩ := hw.room a ((hmem a hak).1 ha)
      exact ⟨x, h.mem_same hx (hxa.trans_ne hak), hxa, hrest⟩
  · obtain ⟨hne, heq⟩ := hcadence j hj
    by_cases hjk : j = k
    · obtain ⟨hb, hc⟩ := heq hjk
      rw [hjk]
      exact ⟨f g, h.mem_new hg hk, hfk, hb, hc⟩
    · obtain ⟨x, hx, hxj, hb, hc⟩ := hw.cadence j (hne hjk)
      rw [← hs.sheetsOf j hjk, ← hhurt j hjk] at hc
      exact ⟨x, h.mem_same hx (hxj.trans_ne hjk), hxj, hb, hc⟩

end

end
end Sys2Proof.Machine

namespace Sys2Proof.Machine

section
variable {p q : Part} {d : Bool} {hurt hurt' : GroupKey → Prop}

/-! ### What a break leaves (R32, R34, R35, R37) -/

/-- The part with the group `k` broken into the state `st` with a reason, the open group then being `o`. -/
def Part.breakAs (p : Part) (k : GroupKey) (st : GroupState) (x : BreakReason) (o : Option GroupKey) : Part :=
  let q := (p.mapGroup k fun g => { g with state := st, reason := some x }).breakEffects k
  { q with planner := { q.planner with openGroup := o } }

theorem mapGroup_mapGroup (p : Part) (k : GroupKey) {f g : Group → Group} (hf : ∀ x, (f x).key = x.key) :
    (p.mapGroup k f).mapGroup k g = p.mapGroup k fun x => g (f x) := by
  unfold Part.mapGroup
  dsimp only
  rw [List.map_map]
  congr 2
  refine List.map_congr_left fun x _ => ?_
  rw [Function.comp_apply]
  by_cases h : (x.key == k) = true
  · rw [if_pos h, if_pos h, if_pos (by rw [hf]; exact h)]
  · rw [if_neg h, if_neg h, if_neg h]

theorem breakGroup_closed {k : GroupKey} {g : Group} (x : BreakReason) (hg : p.group? k = some g)
    (hs : g.state = .closed) : p.breakGroup k x = p.breakAs k .brokenClosed x p.planner.openGroup := by
  unfold Part.breakGroup
  rw [hg]
  dsimp only
  rw [hs]
  rfl

theorem breakGroup_open {k : GroupKey} {g : Group} (x : BreakReason) (hg : p.group? k = some g)
    (hs : g.state = .admitting) : p.breakGroup k x =
      if 64 ≤ g.accepted then p.breakAs k .brokenClosed x none else p.breakAs k .brokenOpen x p.planner.openGroup := by
  split
  · rename_i h
    have hbroken : ((p.mapGroup k fun g => { g with state := .brokenOpen, reason := some x }).breakEffects k).group? k
        = some { g with state := .brokenOpen, reason := some x } :=
      (mapGroup_group? p k (f := fun g => { g with state := .brokenOpen, reason := some x }) fun _ => rfl).trans
        (by rw [hg]; rfl)
    have hmap := mapGroup_mapGroup p k (f := fun g => { g with state := .brokenOpen, reason := some x })
      (g := fun g => { g with state := .brokenClosed }) fun _ => rfl
    unfold Part.breakGroup
    rw [hg]
    dsimp only
    rw [hs]
    dsimp only
    unfold Part.closeAtCap
    rw [hbroken]
    exact (if_pos (And.intro rfl h)).trans (congrArg (fun q : Part => (q.breakEffects k).clearOpen) hmap)
  · rename_i h
    exact breakGroup_admitting p x hg hs (Nat.lt_of_not_le h)

theorem truncate_admitting {k : GroupKey} {g : Group} (hk : p.planner.openGroup = some k) (hg : p.group? k = some g)
    (hs : g.state = .admitting) : p.truncate = p.breakAs k .brokenClosed .truncated none := by
  unfold Part.truncate
  rw [hk]
  dsimp only
  rw [hg]
  dsimp only
  rw [hs]
  rfl

theorem truncate_brokenOpen {k : GroupKey} {g : Group} (hk : p.planner.openGroup = some k) (hg : p.group? k = some g)
    (hs : g.state = .brokenOpen) :
    p.truncate = (p.mapGroup k fun g => { g with state := .brokenClosed }).clearOpen := by
  unfold Part.truncate
  rw [hk]
  dsimp only
  rw [hg]
  dsimp only
  rw [hs]

theorem truncate_none (hk : p.planner.openGroup = none) : p.truncate = p := by
  unfold Part.truncate
  rw [hk]

theorem breakAs_sheetsOf (k : GroupKey) (st : GroupState) (x : BreakReason) (o : Option GroupKey) (j : GroupKey) :
    (p.breakAs k st x o).sheetsOf j
      = if j = k then (p.sheetsOf j).map (Sheet.spoilWith · .groupBroken) else p.sheetsOf j := by
  have hspoil := sheetsBy_sheetsOf (p := p) (f := fun s => if s.group == k then s.spoilWith .groupBroken else s)
    (fun s => by split <;> rfl) j
  refine Eq.trans hspoil ?_
  have hgroup : ∀ s ∈ p.sheetsOf j, s.group = j := fun s hs => (mem_sheetsOf.1 hs).2
  split
  · rename_i h
    exact List.map_congr_left fun s hs => if_pos (by rw [hgroup s hs, h]; exact beq_self_eq_true k)
  · rename_i h
    refine (List.map_congr_left fun s hs => if_neg ?_).trans (List.map_id _)
    rw [hgroup s hs]
    simpa using h

theorem breakAs_entryBy (k : GroupKey) (st : GroupState) (x : BreakReason) (o : Option GroupKey) :
    p.EntryBy (p.breakAs k st x o) k fun g => { g with state := st, reason := some x } :=
  ⟨fun _ => rfl, rfl, rfl, rfl⟩

theorem breakAs_sameBut (k : GroupKey) (st : GroupState) (x : BreakReason) (o : Option GroupKey) :
    p.SameBut (p.breakAs k st x o) k where
  sheetsOf j hj := by rw [breakAs_sheetsOf, if_neg hj]
  acc _ _ _ := rfl
  rooms := by
    refine (List.filter_filter ..).trans (List.filter_congr fun a _ => ?_)
    rw [Bool.and_self]

theorem breakAs_seqs (k : GroupKey) (st : GroupState) (x : BreakReason) (o : Option GroupKey) :
    (p.breakAs k st x o).track.sheets.map Sheet.seq = p.track.sheets.map Sheet.seq := by
  show List.map _ (List.map _ _) = _
  rw [List.map_map]
  refine List.map_congr_left fun s _ => ?_
  rw [Function.comp_apply]
  split <;> rfl

theorem Group.Agrees.broken {g : Group} (h : g.Agrees) {st : GroupState} (x : BreakReason) (hst : st.broken = true)
    (hc : g.state.closedState = true → st.closedState = true) (hcap : st = .brokenOpen → g.accepted < 64) :
    Group.Agrees { g with state := st, reason := some x } := by
  obtain ⟨-, -, hpos, hle, -, -, htag⟩ := h
  refine ⟨fun e : st = .admitting => ?_, hcap, hpos, hle, hst.symm, fun e : st = .closed => ?_,
    fun e => htag (Bool.eq_false_iff.2 fun c => Bool.eq_false_iff.1 e (hc c))⟩ <;>
  · rw [e] at hst
    cases hst

/-- A break keeps the promises, its group being whole, and heals it of the groups hurt (R34, R35, R71). -/
theorem breakAs_settles {k : GroupKey} {g : Group} {st : GroupState} (x : BreakReason) {o : Option GroupKey}
    (hg : p.group? k = some g) (hst : st.broken = true)
    (ho : (st.closedState = g.state.closedState ∧ o = p.planner.openGroup)
      ∨ (g.state = .admitting ∧ st = .brokenClosed ∧ o = none))
    (hcap : st = .brokenOpen → g.accepted < 64)
    (hwhole : p.GroupsHold → p.BillsAccounted → p.WholeBut hurt → p.Whole g) :
    Settles d hurt (fun j => hurt j ∧ j ≠ k) p (p.breakAs k st x o) := by
  have hmem := mem_of_group? hg
  have hkey := group?_key hg
  have hby := breakAs_entryBy (p := p) k st x o
  have hsame := breakAs_sameBut (p := p) k st x o
  have hseqs := breakAs_seqs (p := p) k st x o
  refine ⟨fun h => ?_, fun h ha => ?_, fun h ha hw => ?_, fun _ _ => rfl, fun _ _ => hseqs ▸ List.Sublist.refl _,
    fun _ _ _ => List.length_map ..⟩
  · have hclosed : g.state.closedState = true → st.closedState = true := by
      rcases ho with ⟨e, -⟩ | ⟨-, rfl, -⟩
      · exact e.trans
      · exact fun _ => rfl
    refine hby.groupsHold h hmem hkey ((h.agrees hmem).broken x hst hclosed hcap) hclosed ?_
    rcases ho with ⟨hc, rfl⟩ | ⟨hadm, rfl, rfl⟩
    · exact .inl ⟨rfl, hc⟩
    · exact .inr ⟨hkey ▸ (h.open_iff hmem).1 (by rw [hadm]; rfl), rfl, rfl⟩
  · obtain ⟨hcount, hnodup, -, hset, -, heject, hheld⟩ := id ha
    obtain ⟨hsum, hpath, hin⟩ := hcount g hmem
    refine hby.billsAccounted hsame h ha hmem hkey ⟨hsum, ?_, hkey ▸ hin⟩ (hseqs ▸ hnodup) hset heject
      (hkey ▸ hheld g hmem)
    rw [breakAs_sheetsOf, if_pos rfl, List.length_map, ← hkey]
    exact hpath
  · obtain ⟨hdelivered, heject⟩ := hwhole h ha hw
    refine hby.wholeBut hsame h hw hmem hkey (fun j hj => ⟨And.left, fun e => ⟨e, hj⟩⟩) ⟨?_, ?_, fun _ => ⟨hdelivered, ?_⟩, ?_, ?_⟩
      ((List.filter_sublist.map _).nodup hw.rooms) (fun a ha e => ?_) fun j hj => ?_
    · exact fun e : st.broken = false => by rw [hst] at e; cases e
    · exact fun e : st.broken = false => by rw [hst] at e; cases e
    · show ∀ s ∈ (p.breakAs k st x o).sheetsOf g.key, _
      rw [hkey, breakAs_sheetsOf, if_pos rfl]
      intro s hs
      obtain ⟨t, -, rfl⟩ := List.mem_map.1 hs
      rfl
    · show (List.any _ fun a : Allowance => a.group == g.key) = (!st.broken && _)
      rw [hst, hkey]
      exact filter_any_self
    · exact fun e he hs => absurd hs (heject (Option.isSome_iff_exists.2 ⟨e, he⟩))
    · exact absurd e (by simpa using (List.mem_filter.1 ha).2)
    · have hj : (if p.arbiter.cadenceGroup == some k then none else p.arbiter.cadenceGroup) = some j := hj
      split at hj
      · cases hj
      · rename_i hc
        exact ⟨fun _ => hj, fun e => absurd (beq_iff_eq.2 (e ▸ hj)) hc⟩

/-- A break request of a group not yet broken, in one form (R32, R34, R35). -/
theorem breakGroup_unbroken {k : GroupKey} {g : Group} (x : BreakReason) (hg : p.group? k = some g)
    (hb : g.state.broken = false) : ∃ st o, p.breakGroup k x = p.breakAs k st x o ∧ st.broken = true
      ∧ ((st.closedState = g.state.closedState ∧ o = p.planner.openGroup)
        ∨ (g.state = .admitting ∧ st = .brokenClosed ∧ o = none))
      ∧ (st = .brokenOpen → g.accepted < 64) := by
  cases hs : g.state with
  | admitting =>
    rw [breakGroup_open x hg hs]
    split
    · exact ⟨_, _, rfl, rfl, .inr ⟨rfl, rfl, rfl⟩, fun e => nomatch e⟩
    · exact ⟨_, _, rfl, rfl, .inl ⟨rfl, rfl⟩, fun _ => by omega⟩
  | closed => exact ⟨_, _, breakGroup_closed x hg hs, rfl, .inl ⟨rfl, rfl⟩, fun e => nomatch e⟩
  | brokenOpen | brokenClosed =>
    rw [hs] at hb
    cases hb

theorem breakAs_group? (k : GroupKey) (st : GroupState) (x : BreakReason) (o : Option GroupKey) :
    (p.breakAs k st x o).group? k = (p.group? k).map fun g => { g with state := st, reason := some x } :=
  mapGroup_group? p k (f := fun g => { g with state := st, reason := some x }) fun _ => rfl

end
end Sys2Proof.Machine

namespace Sys2Proof.Machine

/-! ### A break request (R32, R34, R35, R71) -/

/-- Settles O36: an unbroken group is broken in the one form `Part.breakAs`, whose fields are read off. -/
theorem breaksSpoilAndRelease : Obligations.BreaksSpoilAndRelease := by
  intro p k r
  refine ⟨breakGroup_none r, fun g => breakGroup_broken r, fun g hg hb => ?_⟩
  have hentry : ∀ st o, (p.breakAs k st r o).group? k = some { g with state := st, reason := some r } := fun st o => by
    rw [breakAs_group?, hg]
    rfl
  refine ⟨fun h => ?_, fun h hs => ?_, ?_⟩
  · cases hs : g.state with
    | admitting =>
      rw [breakGroup_open r hg hs, if_neg (by rw [hs] at h; exact Nat.not_le.2 (h.resolve_right nofun))]
      exact ⟨hentry .., rfl⟩
    | closed =>
      rw [breakGroup_closed r hg hs]
      exact ⟨hentry .., rfl⟩
    | brokenOpen | brokenClosed =>
      rw [hs] at hb
      cases hb
  · rw [breakGroup_open r hg hs, if_pos h]
    exact ⟨hentry .., rfl⟩
  · obtain ⟨st, o, e, -, -, -⟩ := breakGroup_unbroken r hg hb
    rw [e]
    refine ⟨List.map_congr_left fun s _ => ?_, List.filter_congr fun a _ => ?_, ?_, rfl, rfl, rfl⟩
    · by_cases h : s.group = k
      · rw [if_pos h, if_pos (beq_iff_eq.2 h)]
        cases hs : s.spoil <;> simp [Sheet.spoilWith, hs]
      · rw [if_neg h, if_neg (by simpa using h)]
    · by_cases h : a.group = k <;> simp [h]
    · show (if p.arbiter.cadenceGroup == some k then none else p.arbiter.cadenceGroup) = _
      simp only [beq_iff_eq]

end Sys2Proof.Machine

namespace Sys2Proof.Machine

section
variable {p q r : Part} {d : Bool} {hurt hurt' : GroupKey → Prop}

/-! ### Orders discarded and closures of a broken group (R32, R37) -/

/-- The entry of `k` changed and the open group made `o`. -/
def Part.mapOpen (p : Part) (k : GroupKey) (f : Group → Group) (o : Option GroupKey) : Part :=
  { p.mapGroup k f with planner := { p.planner with openGroup := o } }

theorem mapOpen_entryBy (p : Part) (k : GroupKey) {f : Group → Group} (o : Option GroupKey)
    (hf : ∀ g, (f g).key = g.key) : p.EntryBy (p.mapOpen k f o) k f := ⟨hf, rfl, rfl, rfl⟩

theorem Part.SameBut.of_same {k : GroupKey} (hs : q.track.sheets = p.track.sheets) (ha : q.acc = p.acc)
    (hr : q.stacker.allowances = p.stacker.allowances) : p.SameBut q k where
  sheetsOf j _ := by unfold Part.sheetsOf; rw [hs]
  acc _ _ _ := ha
  rooms := by rw [hr]

/-- A BROKEN_OPEN group counts `n` orders as unfed, and stays open or closes. -/
theorem brokenOpen_settles {k : GroupKey} {g : Group} {f : Group → Group} {o : Option GroupKey} {n : Nat}
    {st : GroupState} {t : Option Half} (hg : p.group? k = some g) (hs : g.state = .brokenOpen)
    (hkey : ∀ g, (f g).key = g.key)
    (hf : f g = { g with accepted := g.accepted + n, unfed := g.unfed + n, state := st, lastTag := t })
    (hst : (st = .brokenOpen ∧ t = g.lastTag ∧ o = p.planner.openGroup ∧ g.accepted + n < 64)
      ∨ (st = .brokenClosed ∧ o = none ∧ g.accepted + n ≤ 64)) : Settles d hurt hurt p (p.mapOpen k f o) := by
  have hmem := mem_of_group? hg
  obtain rfl := group?_key hg
  have hby := mapOpen_entryBy p g.key o hkey
  have hsame : p.SameBut (p.mapOpen g.key f o) g.key := .of_same rfl rfl rfl
  have hb : g.state.broken = true := by rw [hs]; rfl
  have hstb : (f g).state.broken = true := by
    rw [hf]
    rcases hst with ⟨rfl, -⟩ | ⟨rfl, -⟩ <;> rfl
  refine ⟨fun h => ?_, fun h ha => ?_, fun h ha hw => ?_, fun _ _ => rfl, fun _ _ => List.Sublist.refl _,
    fun _ _ _ => rfl⟩
  · have hopen : p.planner.openGroup = some g.key := (h.open_iff hmem).1 (by rw [hs]; rfl)
    refine hby.groupsHold h hmem rfl ?_ (by rw [hs]; nofun) ?_
    · obtain ⟨-, -, hpos, -, hreason, -, htag⟩ := h.agrees hmem
      rw [hf]
      rw [hs] at hreason htag
      rcases hst with ⟨rfl, rfl, -, hlt⟩ | ⟨rfl, -, hle⟩
      · exact ⟨nofun, fun _ => hlt, Nat.le_add_right_of_le hpos, Nat.le_of_lt hlt, hreason, nofun, fun _ => htag rfl⟩
      · exact ⟨nofun, nofun, Nat.le_add_right_of_le hpos, hle, hreason, nofun, nofun⟩
    · rw [hf]
      rcases hst with ⟨rfl, -, ho, -⟩ | ⟨rfl, ho, -⟩
      · exact .inl ⟨ho, by rw [hs]⟩
      · exact .inr ⟨hopen, ho, rfl⟩
  · obtain ⟨hcount, hnodup, -, hset, -, heject, hheld⟩ := id ha
    obtain ⟨hsum, hpath, hin⟩ := hcount g hmem
    refine hby.billsAccounted hsame h ha hmem rfl ?_ hnodup hset heject ?_
    · rw [hf]
      exact ⟨by dsimp only; omega, hpath, hin⟩
    · rw [hf]
      exact hheld g hmem
  · obtain ⟨-, -, hbroken, hany, heject⟩ := hw.entries g hmem
    have hnot : ∀ {P : Prop}, (f g).state.broken = false → P := fun e => by rw [hstb] at e; cases e
    refine hby.wholeBut hsame h hw hmem rfl (fun _ _ => Iff.rfl) ⟨hnot, hnot, fun _ => ?_, ?_, fun e he hse => ?_⟩
      hw.rooms (fun a ha hak => ?_) fun j hj => ⟨fun _ => hj, ?_⟩
    · rw [hf]
      exact hbroken hb
    · rw [hstb, hkey]
      rw [hb] at hany
      exact hany
    · rw [hkey] at hse
      have ht := heject e he hse
      split at ht
      · exact hstb
      · rw [hs] at ht
        cases ht.1
    · rw [hb] at hany
      exact absurd (beq_iff_eq.2 hak) (List.any_eq_false.1 hany a ha)
    · rintro rfl
      have hnot := (hw.cadence_at (g := g) h hmem rfl hj rfl).1
      rw [hb] at hnot
      cases hnot

/-! ### Break requests (R34, R37) -/

/-- A break request heals its group. -/
theorem breakGroup_settles {k : GroupKey} (x : BreakReason)
    (hwhole : p.GroupsHold → p.BillsAccounted → p.WholeBut hurt → ∀ g ∈ p.groups.entries, g.key = k →
      g.state.broken = false → hurt k ∨ p.Whole g) :
    Settles d hurt (fun j => hurt j ∧ j ≠ k) p (p.breakGroup k x) := by
  have hleft : (p.GroupsHold → ∀ g ∈ p.groups.entries, g.state.broken = false → g.key ≠ k) →
      Settles d hurt (fun j => hurt j ∧ j ≠ k) p p := fun hn =>
    .change fun h _ _ g hg hb => ⟨fun hh => ⟨hh, hn h g hg hb⟩, fun hh => .inl hh.1⟩
  cases hg : p.group? k with
  | none =>
    rw [breakGroup_none x hg]
    exact hleft fun _ g hm _ => group?_eq_none_iff.1 hg g hm
  | some g =>
    cases hb : g.state.broken with
    | true =>
      rw [breakGroup_broken x hg hb]
      refine hleft fun h y hy hyb e => ?_
      rw [h.unique hy (mem_of_group? hg) (e.trans (group?_key hg).symm), hb] at hyb
      cases hyb
    | false =>
      obtain ⟨st, o, e, hst, ho, hcap⟩ := breakGroup_unbroken x hg hb
      rw [e]
      refine breakAs_settles x hg hst ho hcap fun h ha hw => ?_
      have hmem := mem_of_group? hg
      rcases hwhole h ha hw g hmem (group?_key hg) hb with hh | hh
      · exact (hw.entries g hmem).2.1 hb ((group?_key hg).symm ▸ hh)
      · exact hh

/-- A break request of a group that may still be broken. -/
theorem breakGroup_settles_hurt {k : GroupKey} (x : BreakReason) (hk : hurt k) :
    Settles d hurt (fun j => hurt j ∧ j ≠ k) p (p.breakGroup k x) :=
  breakGroup_settles x fun _ _ _ _ _ _ _ => .inl hk

/-- After a break request no entry of the key is unbroken. -/
theorem breakGroup_leaves_broken (k : GroupKey) (x : BreakReason) (h : p.GroupsHold) : (p.breakGroup k x).BrokenAt k := by
  intro y hy hyk
  cases hg : p.group? k with
  | none =>
    rw [breakGroup_none x hg] at hy
    exact absurd hyk (group?_eq_none_iff.1 hg y hy)
  | some g =>
    have hmem := mem_of_group? hg
    have hkey := group?_key hg
    cases hb : g.state.broken with
    | true =>
      rw [breakGroup_broken x hg hb] at hy
      rw [h.unique hy hmem (hyk.trans hkey.symm)]
      exact hb
    | false =>
      obtain ⟨st, o, e, hst, -⟩ := breakGroup_unbroken x hg hb
      rw [e] at hy
      rcases (breakAs_entryBy k st x o).mem_cases h hmem hkey hy with rfl | ⟨-, hne⟩
      · exact hst
      · exact absurd hyk hne

/-- A break request of the open group, whatever groups are hurt. -/
theorem breakOpen_settles (x : BreakReason) : Settles d hurt hurt p (p.breakOpen x) := by
  unfold Part.breakOpen
  cases ho : p.planner.openGroup with
  | none => exact .refl p
  | some k =>
    refine .of_groups fun h => (breakGroup_settles (k := k) x fun h _ hw g hg hk hb => .inr ?_).trans
      (.change fun _ _ _ g hg hb => ⟨And.left, fun hh => .inl ⟨hh, fun e => ?_⟩⟩)
    · exact whole_of_open hw hg ((h.open_iff hg).2 (by rw [ho, hk])) hb
    · rw [breakGroup_leaves_broken k x h g hg e] at hb
      cases hb

theorem Part.clearOpen_eq (p : Part) (k : GroupKey) (f : Group → Group) :
    (p.mapGroup k f).clearOpen = p.mapOpen k f none := rfl

theorem truncate_settles : Settles d Unhurt Unhurt p p.truncate := by
  cases ho : p.planner.openGroup with
  | none =>
    rw [truncate_none ho]
    exact .refl p
  | some k =>
    refine .of_groups fun h => ?_
    obtain ⟨g, hg, rfl⟩ := h.openGroup_mem ho
    have hg? := h.group?_of_mem hg
    have hc := (h.open_iff hg).2 ho
    cases hs : g.state with
    | admitting =>
      rw [truncate_admitting ho hg? hs]
      refine (breakAs_settles _ hg? rfl (.inr ⟨hs, rfl, rfl⟩) nofun fun _ _ hw => ?_).hurt_congr fun _ =>
        (and_iff_left_of_imp False.elim).symm
      exact whole_of_open hw hg hc (by rw [hs]; rfl)
    | brokenOpen =>
      rw [truncate_brokenOpen ho hg? hs, Part.clearOpen_eq]
      exact brokenOpen_settles (n := 0) (t := g.lastTag) hg? hs (fun _ => rfl) rfl
        (.inr ⟨rfl, rfl, (h.agrees hg).2.2.2.1⟩)
    | closed | brokenClosed =>
      rw [hs] at hc
      cases hc

/-! ### Breaks of several groups (R167, R172) -/

theorem foldl_breakGroup_settles (x : BreakReason) (l : List GroupKey) (hl : l.Nodup) :
    ∀ {p : Part} {hurt : GroupKey → Prop}, (∀ k ∈ l, hurt k) →
      Settles d hurt (fun j => hurt j ∧ j ∉ l) p (l.foldl (fun q k => q.breakGroup k x) p) := by
  induction l with
  | nil => exact fun _ => .hurt_congr (.refl _) fun _ => and_iff_left (List.not_mem_nil)
  | cons k l ih =>
    intro p hurt hh
    obtain ⟨hk, hl⟩ := List.nodup_cons.1 hl
    have hstep := breakGroup_settles_hurt (d := d) (p := p) x (hh k List.mem_cons_self)
    refine (hstep.trans (ih hl fun j hj => ⟨hh j (List.mem_cons_of_mem _ hj), ?_⟩)).hurt_congr fun j => ?_
    · rintro rfl
      exact hk hj
    · rw [List.mem_cons, not_or, and_assoc]

/-- Every listed group is healed, when each may still be broken. -/
theorem breakAll_settles {keys : List GroupKey} (x : BreakReason)
    (hwhole : p.GroupsHold → p.BillsAccounted → p.WholeBut hurt → ∀ g ∈ p.groups.entries, g.key ∈ keys →
      g.state.broken = false → hurt g.key ∨ p.Whole g) :
    Settles d hurt (fun j => hurt j ∧ j ∉ keys) p (p.breakAll keys x) := by
  refine .of_groups fun h => ?_
  have hlist : ∀ j ∈ (p.groups.entries.map Group.key).filter fun k => keys.contains k, j ∈ keys := fun j hj =>
    List.contains_iff_mem.1 (List.mem_filter.1 hj).2
  have hwiden : Settles d hurt (fun j => (hurt j ∧ j ∉ keys)
      ∨ j ∈ (p.groups.entries.map Group.key).filter fun k => keys.contains k) p p := .change fun h ha hw g hg hb => by
    by_cases hk : g.key ∈ keys
    · exact ⟨fun _ => .inr (List.mem_filter.2 ⟨List.mem_map_of_mem hg, List.contains_iff_mem.2 hk⟩),
        fun _ => hwhole h ha hw g hg hk hb⟩
    · exact ⟨fun hh => .inl ⟨hh, hk⟩, fun hh => hh.elim (fun e => .inl e.1) fun e => absurd (hlist _ e) hk⟩
  refine (hwiden.trans (foldl_breakGroup_settles x _ (h.nodup.filter _) fun k => .inr)).hurt_congr fun j => ?_
  exact ⟨fun e => ⟨.inl e, fun hj => e.2 (hlist j hj)⟩, fun e => e.1.resolve_right e.2⟩

end
end Sys2Proof.Machine

namespace Sys2Proof.Machine

section
variable {p q r : Part} {d : Bool} {hurt hurt' : GroupKey → Prop}

/-! ### What leaves the bills alone -/

theorem occur_bills (p : Part) (k : CoalescedKind) (x : Report) (f : Report → Report) :
    (p.occur k x f).bills = p.bills := by
  unfold Part.occur
  split
  · rfl
  · split
    · rfl
    · split
      · rfl
      · split <;> rfl

theorem countTaken_bills (p : Part) : p.countTaken.bills = p.bills := by
  unfold Part.countTaken
  split
  · rfl
  · exact occur_bills (p.setTaken 0) _ _ _

theorem takeHead_bills (p : Part) : p.takeHead.bills = p.bills := countTaken_bills p.dropHead

theorem loadResult_bills (p : Part) (t : TableId) (c : Option LoadCause) : (p.loadResult t c).bills = p.bills :=
  countTaken_bills (p.dropHead.appendReport (.loadResult t c))

theorem requestPick_bills (p : Part) (t : TrayId) : (p.requestPick t).bills = p.bills := rfl

theorem group?_of_bills (h : q.bills = p.bills) (k : GroupKey) : q.group? k = p.group? k := by
  have he : q.groups = p.groups := congrArg BillView.groups h
  unfold Part.group?
  rw [he]

/-! ### Seqs left to give out (R78, R79) -/

/-- As many seqs are free as the Sheet Track has places. -/
def Part.SeqsLeft (p : Part) : Prop := p.SeqsFreeFor (16 - p.track.sheets.length)

theorem Part.SeqsFree.left (h : p.SeqsFree) : p.SeqsLeft := fun i hi => h i (by omega)

theorem Settles.seqsFreeFor (h : Settles d hurt hurt' p q) (hg : p.GroupsHold) (ha : p.BillsAccounted) {n : Nat}
    (hl : p.SeqsFreeFor n) : q.SeqsFreeFor n := fun i hi s hs => by
  obtain ⟨x, hx, hxs⟩ := List.mem_map.1 ((h.seqs hg ha).subset (List.mem_map_of_mem hs))
  rw [h.nextSeq hg ha, ← hxs]
  exact hl i hi x hx

/-- What the events at the Order Queue head, and whatever takes no sheet away, keep of the promises. -/
structure KeepsBills (p q : Part) : Prop where
  groups : p.GroupsHold → q.GroupsHold
  account : p.GroupsHold → p.SeqsLeft → p.BillsAccounted → q.BillsAccounted
  whole : p.GroupsHold → p.SeqsLeft → p.BillsAccounted → p.WholeBut Unhurt → q.WholeBut Unhurt
  left : p.GroupsHold → p.SeqsLeft → p.BillsAccounted → q.SeqsLeft

theorem KeepsBills.trans (h : KeepsBills p q) (k : KeepsBills q r) : KeepsBills p r where
  groups := k.groups ∘ h.groups
  account hg hl ha := k.account (h.groups hg) (h.left hg hl ha) (h.account hg hl ha)
  whole hg hl ha hw := k.whole (h.groups hg) (h.left hg hl ha) (h.account hg hl ha) (h.whole hg hl ha hw)
  left hg hl ha := k.left (h.groups hg) (h.left hg hl ha) (h.account hg hl ha)

theorem Settles.keepsBills (h : Settles false Unhurt Unhurt p q) : KeepsBills p q where
  groups := h.groups
  account hg _ := h.account hg
  whole hg _ := h.whole hg
  left hg hl ha := by
    unfold Part.SeqsLeft
    rw [h.length hg ha rfl]
    exact h.seqsFreeFor hg ha hl

theorem KeepsBills.of_bills (h : q.bills = p.bills) : KeepsBills p q := (Settles.of_bills h).keepsBills

theorem KeepsBills.refl (p : Part) : KeepsBills p p := .of_bills rfl

theorem KeepsBills.congr (h : KeepsBills p q) (e : r.bills = q.bills) : KeepsBills p r := h.trans (.of_bills e)

theorem KeepsBills.of_groups (h : p.GroupsHold → KeepsBills p q) : KeepsBills p q where
  groups hg := (h hg).groups hg
  account hg := (h hg).account hg
  whole hg := (h hg).whole hg
  left hg := (h hg).left hg

/-! ### A new sheet record (R50, R78) -/

/-- One record more in the Sheet Track, under the next seq. -/
structure Part.Picks (p q : Part) (x : Sheet) : Prop where
  room : p.track.sheets.length < 16
  seq : x.seq = p.track.nextSeq
  sheets : q.track.sheets = p.track.sheets ++ [x]
  nextSeq : q.track.nextSeq = p.track.nextSeq + 1

theorem Part.Picks.nodup {x : Sheet} (h : p.Picks q x) (hl : p.SeqsLeft) (hn : (p.track.sheets.map Sheet.seq).Nodup) :
    (q.track.sheets.map Sheet.seq).Nodup := by
  rw [h.sheets, List.map_append, List.map_singleton, List.nodup_append]
  refine ⟨hn, List.nodup_singleton _, fun n hs m hm => ?_⟩
  obtain ⟨s, hmem, rfl⟩ := List.mem_map.1 hs
  rw [List.mem_singleton.1 hm, h.seq]
  have hne := hl 0 (by have := h.room; omega) s hmem
  rwa [show BitVec.ofNat 16 0 = 0#16 from rfl, BitVec.add_zero] at hne

theorem Part.Picks.left {x : Sheet} (h : p.Picks q x) (hl : p.SeqsLeft) : q.SeqsLeft := by
  unfold Part.SeqsLeft
  rw [h.sheets, List.length_append, List.length_singleton]
  intro i hi s hs
  have hshift : p.track.nextSeq + 1 + BitVec.ofNat 16 i = p.track.nextSeq + BitVec.ofNat 16 (i + 1) := by
    rw [BitVec.add_assoc]
    congr 1
    rw [BitVec.add_comm]
    exact (BitVec.ofNat_add ..).symm
  rw [h.nextSeq, hshift]
  rw [h.sheets] at hs
  rcases List.mem_append.1 hs with hs | hs
  · exact hl (i + 1) (by omega) s hs
  · rw [List.mem_singleton.1 hs, h.seq]
    have hr := h.room
    intro e
    have : BitVec.ofNat 16 (i + 1) = 0#16 := by
      have := congrArg (· - p.track.nextSeq) e
      simp only [BitVec.add_comm p.track.nextSeq, BitVec.add_sub_cancel] at this
      bv_omega
    have := congrArg BitVec.toNat this
    rw [BitVec.toNat_ofNat] at this
    simp only [BitVec.toNat_ofNat] at this
    omega

theorem Part.Picks.sheetsOf {x : Sheet} (h : p.Picks q x) (j : GroupKey) :
    q.sheetsOf j = p.sheetsOf j ++ if x.group = j then [x] else [] := by
  unfold Part.sheetsOf
  rw [h.sheets, List.filter_append, List.filter_singleton]
  congr 1
  split <;> rename_i hx
  · rw [beq_iff_eq.2 hx]
    rfl
  · rw [beq_eq_false_iff_ne.2 hx]
    rfl

theorem freshSheet_bound (o : SheetOrder) (m : MediaEntry) (k : GroupKey) (n : Half) (t : TrayId) :
    (sheetOf o m k n t).Bound := ⟨rfl, nofun, List.not_mem_nil, rfl, nofun⟩

/-- An order taken into a pick for the group `k`, but for its tray (R29, R50). -/
def Part.picked (p : Part) (o : SheetOrder) (m : MediaEntry) (k : GroupKey) (t : TrayId) : Part :=
  { p.mapGroup k fun g => { g with accepted := g.accepted + 1, inPath := g.inPath + 1 } with
    track := { p.track with
      sheets := p.track.sheets ++ [sheetOf o m k p.track.nextSeq t], nextSeq := p.track.nextSeq + 1 } }

theorem takeIntoPick_bills (p : Part) (o : SheetOrder) (m : MediaEntry) (k : GroupKey) (t : TrayId) :
    (p.takeIntoPick o m k t).bills = (p.picked o m k t).bills := by
  unfold Part.takeIntoPick
  dsimp only
  split <;> rfl

theorem picked_picks (o : SheetOrder) (m : MediaEntry) (k : GroupKey) (t : TrayId) (h : p.track.sheets.length < 16) :
    p.Picks (p.picked o m k t) (sheetOf o m k p.track.nextSeq t) := ⟨h, rfl, rfl, rfl⟩

/-- A further order taken into a pick for its ADMITTING group (R30, R50). -/
theorem takeIntoPick_keeps {k : GroupKey} {g : Group} (o : SheetOrder) (m : MediaEntry) (t : TrayId)
    (hg : p.group? k = some g) (hs : g.state = .admitting) (hlt : g.accepted ≠ g.declared)
    (hroom : p.track.sheets.length < 16) : KeepsBills p (p.takeIntoPick o m k t) := by
  refine KeepsBills.congr (q := p.picked o m k t) ?_ (takeIntoPick_bills ..)
  have hmem := mem_of_group? hg
  obtain rfl := group?_key hg
  have hby : p.EntryBy (p.picked o m g.key t) g.key fun g => { g with accepted := g.accepted + 1, inPath := g.inPath + 1 } :=
    ⟨fun _ => rfl, rfl, rfl, rfl⟩
  have hpick := picked_picks o m g.key t hroom
  have hsheets : ∀ j, (p.picked o m g.key t).sheetsOf j = p.sheetsOf j
      ++ if g.key = j then [sheetOf o m g.key p.track.nextSeq t] else [] := hpick.sheetsOf
  have hsame : p.SameBut (p.picked o m g.key t) g.key :=
    ⟨fun j hj => by rw [hsheets, if_neg hj.symm, List.append_nil], fun _ _ _ => rfl, rfl⟩
  have hheld : p.GroupsHold → g.key ∉ p.link.held.results := fun h hr => by
    have hc := h.closed_of_held hmem hr
    rw [hs] at hc
    cases hc
  refine ⟨fun h => ?_, fun h hl ha => ?_, fun h hl ha hw => ?_, fun _ hl _ => hpick.left hl⟩
  · obtain ⟨hadm, -, hpos, -, hreason, -, htag⟩ := h.agrees hmem
    obtain ⟨hd1, hd2, hle⟩ := hadm hs
    refine hby.groupsHold h hmem rfl ⟨fun _ => ⟨hd1, hd2, ?_⟩, ?_, Nat.le_add_left .., ?_, hreason, ?_, htag⟩ id
      (.inl ⟨rfl, rfl⟩)
    · exact Nat.lt_of_le_of_ne hle hlt
    · exact fun e : g.state = .brokenOpen => by rw [hs] at e; cases e
    · exact (Nat.lt_of_le_of_ne hle hlt).trans_le hd2
    · exact fun e : g.state = .closed => by rw [hs] at e; cases e
  · obtain ⟨hcount, hnodup, -, hset, -, heject, -⟩ := id ha
    obtain ⟨hsum, hpath, hin⟩ := hcount g hmem
    refine hby.billsAccounted hsame h ha hmem rfl ⟨?_, ?_, hin⟩ (hpick.nodup hl hnodup) hset heject
      fun hr => absurd hr (hheld h)
    · dsimp only
      omega
    · rw [hsheets, if_pos rfl, List.length_append, ← hpath]
      rfl
  · obtain ⟨hwhole, hhurt, hbroken, hany, heject⟩ := hw.entries g hmem
    refine hby.wholeBut hsame h hw hmem rfl (fun _ _ => Iff.rfl) ⟨fun hb hh => ?_, fun _ => False.elim, fun hb => ?_, hany,
      fun e he hse => ?_⟩ hw.rooms (fun a ha hak => ?_) fun j hj => ⟨fun _ => hj, ?_⟩
    · obtain ⟨hp, hr, hu, hd, hbound⟩ := hwhole hb hh
      refine ⟨hp, hr, hu, .inl (hd.resolve_right fun e => ?_), fun s hs' => ?_⟩
      · rw [hs] at e
        cases e.1
      · rw [hsheets, if_pos rfl] at hs'
        rcases List.mem_append.1 hs' with hs' | hs'
        · exact hbound s hs'
        · rw [List.mem_singleton.1 hs']
          exact freshSheet_bound ..
    · have hb : g.state.broken = true := hb
      rw [hs] at hb
      cases hb
    · have ht := heject e he hse
      split at ht
      · exact ht
      · rw [hs] at ht
        cases ht.1
    · obtain ⟨x, hx, hxa, hbin, hcount⟩ := hw.room a ha
      obtain rfl := h.unique hx hmem (hxa.trans hak)
      rw [hs] at hcount
      exact ⟨hbin, by dsimp only; rw [hs]; exact hcount⟩
    · exact fun _ => ⟨by dsimp only; rw [hs]; rfl, .inr (.inl hs)⟩

/-! ### The LAST order (R31, R144) -/

theorem filter_mapRooms {l : List Allowance} {k : GroupKey} {h : Allowance → Allowance} (hg : ∀ a, (h a).group = a.group)
    (hk : ∀ a, a.group ≠ k → h a = a) :
    ((l.map h).filter fun a => !(a.group == k)) = l.filter fun a => !(a.group == k) := by
  rw [List.filter_map, List.filter_congr fun a _ => show ((fun a : Allowance => !(a.group == k)) ∘ h) a = !(a.group == k) by
    rw [Function.comp_apply, hg]]
  refine (List.map_congr_left fun a ha => ?_).trans (List.map_id _)
  exact hk a (by simpa using (List.mem_filter.1 ha).2)

theorem any_mapRooms {l : List Allowance} {h : Allowance → Allowance} (hg : ∀ a, (h a).group = a.group) (j : GroupKey) :
    ((l.map h).any fun a => a.group == j) = l.any fun a => a.group == j := by
  rw [List.any_map]
  congr 1
  funext a
  rw [Function.comp_apply, hg]

theorem nodup_mapRooms {l : List Allowance} {h : Allowance → Allowance} (hg : ∀ a, (h a).group = a.group)
    (hn : (l.map Allowance.group).Nodup) : ((l.map h).map Allowance.group).Nodup := by
  rwa [List.map_map, show Allowance.group ∘ h = Allowance.group from funext hg]

/-- The ADMITTING open group closed intact, with a fresh sheet to launch (R31, R71, R144). -/
theorem closeIntact_settles {k : GroupKey} {g : Group} (tag : Half) (hg : p.group? k = some g)
    (hs : g.state = .admitting) (hfresh : ∃ s ∈ p.sheetsOf k, s.fresh = true) :
    Settles d Unhurt Unhurt p (p.closeIntact k tag) := by
  have hmem := mem_of_group? hg
  obtain rfl := group?_key hg
  have hby : p.EntryBy (p.closeIntact g.key tag) g.key fun g => { g with lastTag := some tag, state := .closed } :=
    ⟨fun _ => rfl, rfl, rfl, rfl⟩
  have hgroup : ∀ a : Allowance, (if a.group == g.key then { a with count := optNat Group.accepted (p.group? g.key) }
      else a).group = a.group := fun a => by split <;> rfl
  have hsame : p.SameBut (p.closeIntact g.key tag) g.key :=
    ⟨fun _ _ => rfl, fun _ _ _ => rfl, filter_mapRooms hgroup fun a ha => if_neg (by simpa using ha)⟩
  refine ⟨fun h => ?_, fun h ha => ?_, fun h ha hw => ?_, fun _ _ => rfl, fun _ _ => List.Sublist.refl _,
    fun _ _ _ => rfl⟩
  · obtain ⟨-, -, hpos, hle, hreason, -, -⟩ := h.agrees hmem
    rw [hs] at hreason
    exact hby.groupsHold h hmem rfl ⟨nofun, nofun, hpos, hle, hreason, fun _ => rfl, nofun⟩ (fun _ => rfl)
      (.inr ⟨(h.open_iff hmem).1 (by rw [hs]; rfl), rfl, rfl⟩)
  · obtain ⟨hcount, hnodup, -, hset, -, heject, hheld⟩ := id ha
    exact hby.billsAccounted hsame h ha hmem rfl (hcount g hmem) hnodup hset heject (hheld g hmem)
  · obtain ⟨hwhole, -, -, hany, heject⟩ := hw.entries g hmem
    obtain ⟨hp, hr, hu, hd, hbound⟩ := hwhole (by rw [hs]; rfl) id
    have hd := hd.resolve_right fun e => by rw [hs] at e; cases e.1
    refine hby.wholeBut hsame h hw hmem rfl (fun _ _ => Iff.rfl) ⟨fun _ _ => ⟨hp, hr, hu, .inl hd, hbound⟩,
      fun _ => False.elim, nofun, ?_, fun e he hse => ?_⟩ (nodup_mapRooms hgroup hw.rooms) (fun a ha hak => ?_)
      fun j hj => ⟨fun _ => hj, fun _ => ⟨rfl, .inr (.inr hfresh)⟩⟩
    · rw [hs] at hany
      exact (any_mapRooms hgroup _).trans hany
    · have ht := heject e he hse
      split at ht
      · rw [hs] at ht
        cases ht
      · rw [hs] at ht
        cases ht.1
    · obtain ⟨b, hb, rfl⟩ := List.mem_map.1 ha
      rw [hgroup] at hak
      obtain ⟨x, hx, hxa, hbin, -⟩ := hw.room b hb
      obtain rfl := h.unique hx hmem (hxa.trans hak)
      rw [if_pos (beq_iff_eq.2 hak), hg]
      exact ⟨hbin, rfl⟩

theorem closeIfLast_settles {k : GroupKey} {g : Group} (o : SheetOrder) (hg : p.group? k = some g)
    (hs : g.state = .admitting) (hfresh : ∃ s ∈ p.sheetsOf k, s.fresh = true) :
    Settles d Unhurt Unhurt p (p.closeIfLast o k) := by
  unfold Part.closeIfLast
  split
  · exact closeIntact_settles o.tag hg hs hfresh
  · exact .refl p

end
end Sys2Proof.Machine

namespace Sys2Proof.Machine

section
variable {p q r : Part} {d : Bool} {hurt hurt' : GroupKey → Prop}

/-! ### A new group (R21, R24, R27) -/

/-- An entry more at the end of the Group Table, the open group unless its state is closed. -/
structure Part.Adds (p q : Part) (g : Group) : Prop where
  entries : q.groups.entries = p.groups.entries ++ [g]
  key : g.key = p.groups.nextKey
  nextKey : q.groups.nextKey = p.groups.nextKey + 1
  wasNone : p.planner.openGroup = none
  openGroup : q.planner.openGroup = if g.state.closedState then none else some g.key
  results : q.link.held.results = p.link.held.results
  acc : q.acc = p.acc
  cadence : q.arbiter.cadenceGroup = p.arbiter.cadenceGroup

section
variable {g : Group}

theorem Part.Adds.mem_cases (h : p.Adds q g) {x : Group} (hx : x ∈ q.groups.entries) :
    x ∈ p.groups.entries ∨ x = g := by
  rw [h.entries] at hx
  exact (List.mem_append.1 hx).imp id List.mem_singleton.1

theorem Part.Adds.mem_new (h : p.Adds q g) : g ∈ q.groups.entries := by
  rw [h.entries]
  exact List.mem_append_right _ (List.mem_singleton_self g)

theorem Part.Adds.mem_old (h : p.Adds q g) {x : Group} (hx : x ∈ p.groups.entries) : x ∈ q.groups.entries := by
  rw [h.entries]
  exact List.mem_append_left _ hx

theorem Part.Adds.has (h : p.Adds q g) {j : GroupKey} (hj : ∃ x ∈ p.groups.entries, x.key = j) :
    ∃ x ∈ q.groups.entries, x.key = j := by
  obtain ⟨x, hx, hxj⟩ := hj
  exact ⟨x, h.mem_old hx, hxj⟩

theorem Part.Adds.key_ne (h : p.Adds q g) (hp : p.GroupsHold) {x : Group} (hx : x ∈ p.groups.entries) : x.key ≠ g.key := by
  rw [h.key]
  exact Nat.ne_of_lt (hp.lt_nextKey hx)

theorem Part.Adds.groupsHold (h : p.Adds q g) (hp : p.GroupsHold) (hagree : g.Agrees) : q.GroupsHold := by
  have hkey : ∀ j, (∃ x ∈ p.groups.entries, x.key = j) → j ≠ g.key := by
    rintro j ⟨x, hx, rfl⟩
    exact h.key_ne hp hx
  refine ⟨⟨?_, fun x hx => ?_, fun x hx => ?_, fun j hj => ?_, fun j hj x hx hxj => ?_⟩, h.results ▸ hp.2.1,
    fun j hj => h.has (hp.2.2 j (h.results ▸ hj))⟩
  · rw [h.entries, List.map_append, List.pairwise_append]
    refine ⟨hp.keys, List.pairwise_singleton .., fun j hj l hl => ?_⟩
    obtain ⟨x, hx, rfl⟩ := List.mem_map.1 hj
    rw [List.mem_singleton.1 hl, h.key]
    exact hp.lt_nextKey hx
  · rw [h.nextKey]
    rcases h.mem_cases hx with hx | rfl
    · exact ⟨(hp.lt_nextKey hx).trans (Nat.lt_succ_self _), hp.agrees hx⟩
    · exact ⟨by rw [h.key]; exact Nat.lt_succ_self _, hagree⟩
  · rw [h.openGroup]
    rcases h.mem_cases hx with hx | rfl
    · rw [hp.open_iff hx, h.wasNone]
      refine ⟨nofun, fun e => ?_⟩
      split at e
      · cases e
      · exact absurd (Option.some.inj e).symm (h.key_ne hp hx)
    · cases x.state.closedState <;> simp
  · rw [h.openGroup] at hj
    split at hj
    · cases hj
    · exact ⟨g, h.mem_new, Option.some.inj hj⟩
  · rw [h.results] at hj
    rcases h.mem_cases hx with hx | rfl
    · exact hp.closed_of_held hx (hxj ▸ hj)
    · exact absurd hxj.symm (hkey j (hp.2.2 j hj))

theorem Part.Adds.no_sheets (h : p.Adds q g) (hp : p.GroupsHold) (ha : p.BillsAccounted) : p.sheetsOf g.key = [] := by
  refine List.eq_nil_iff_forall_not_mem.2 fun s hs => ?_
  obtain ⟨hs, hk⟩ := mem_sheetsOf.1 hs
  obtain ⟨x, hx, hxs⟩ := ha.2.2.1 s hs
  exact h.key_ne hp hx (hxs.trans hk)

theorem Part.Adds.no_set (h : p.Adds q g) (hp : p.GroupsHold) (ha : p.BillsAccounted) :
    q.acc.setGroup ≠ some g.key := fun e => by
  rw [h.acc] at e
  obtain ⟨x, hx, hxk⟩ := ha.2.2.2.2.1 _ e
  exact h.key_ne hp hx hxk

theorem Part.Adds.no_room (h : p.Adds q g) (hp : p.GroupsHold) (hw : p.WholeBut hurt) {a : Allowance}
    (ha : a ∈ p.stacker.allowances) : a.group ≠ g.key := fun e => by
  obtain ⟨x, hx, hxa, -⟩ := hw.room a ha
  exact h.key_ne hp hx (hxa.trans e)

theorem Part.Adds.billsAccounted (h : p.Adds q g) (hp : p.GroupsHold) (ha : p.BillsAccounted)
    (hsheets : ∀ j, j ≠ g.key → q.sheetsOf j = p.sheetsOf j) (hnodup : (q.track.sheets.map Sheet.seq).Nodup)
    (hcount : g.accepted = g.inPath + g.inSet + g.delivered + g.purged + g.removed + g.unfed
      ∧ g.inPath = (q.sheetsOf g.key).length ∧ g.inSet = 0) : q.BillsAccounted := by
  obtain ⟨hcounts, -, hhas, hset, hsetGroup, heject, hheld⟩ := id ha
  refine ⟨fun x hx => ?_, hnodup, fun s hs => ?_, h.acc ▸ hset, fun j hj => h.has (hsetGroup j (h.acc ▸ hj)),
    h.acc ▸ heject, fun x hx hr => ?_⟩
  · unfold Part.setOf
    rcases h.mem_cases hx with hx | rfl
    · rw [hsheets _ (h.key_ne hp hx), h.acc]
      exact hcounts x hx
    · obtain ⟨hsum, hpath, hin⟩ := hcount
      exact ⟨hsum, hpath, by rw [if_neg (h.no_set hp ha)]; exact hin⟩
  · by_cases hsk : s.group = g.key
    · exact ⟨g, h.mem_new, hsk.symm⟩
    · have hmem : s ∈ q.sheetsOf s.group := mem_sheetsOf.2 ⟨hs, rfl⟩
      rw [hsheets _ hsk] at hmem
      exact h.has (hhas s (mem_sheetsOf.1 hmem).1)
  · rw [h.results] at hr
    rcases h.mem_cases hx with hx | rfl
    · exact hheld x hx hr
    · obtain ⟨y, hy, hyk⟩ := hp.2.2 _ hr
      exact absurd hyk (h.key_ne hp hy)

/-- Bill integrity with a new group: it has nothing delivered, and room of its own when it is unbroken. -/
theorem Part.Adds.wholeBut (h : p.Adds q g) (hp : p.GroupsHold) (ha : p.BillsAccounted) (hw : p.WholeBut Unhurt)
    (hsheets : ∀ j, j ≠ g.key → q.sheetsOf j = p.sheetsOf j) (hdelivered : g.delivered = 0)
    (hnew : (g.state.broken = true ∧ q.sheetsOf g.key = [] ∧ q.stacker.allowances = p.stacker.allowances)
      ∨ (g.state.broken = false ∧ g.purged = 0 ∧ g.removed = 0 ∧ g.unfed = 0 ∧ (∀ s ∈ q.sheetsOf g.key, s.Bound)
        ∧ ∃ a : Allowance, q.stacker.allowances = p.stacker.allowances ++ [a] ∧ a.group = g.key ∧ g.bin = some a.bin
          ∧ a.count = if g.state = .closed then g.accepted else g.declared)) : q.WholeBut Unhurt := by
  have hfree : (p.stacker.allowances.any fun a => a.group == g.key) = false :=
    List.any_eq_false.2 fun a ha' => by simpa using h.no_room hp hw ha'
  have hany : ∀ j, (q.stacker.allowances.any fun a => a.group == j)
      = ((p.stacker.allowances.any fun a => a.group == j) || (j == g.key && !g.state.broken)) := fun j => by
    rcases hnew with ⟨hb, -, e⟩ | ⟨hb, -, -, -, -, a, e, hak, -⟩
    · rw [e, hb, Bool.not_true, Bool.and_false, Bool.or_false]
    · rw [e, List.any_append, hb, List.any_cons, List.any_nil, hak, Bool.not_false, Bool.and_true, Bool.or_false,
        Bool.beq_comm]
  refine ⟨fun x hx => ?_, ?_, fun a hq => ?_, fun j hj => ?_⟩
  · rcases h.mem_cases hx with hx | rfl
    · obtain ⟨hwhole, -, hbroken, hrooms, heject⟩ := hw.entries x hx
      have hxk := h.key_ne hp hx
      unfold Part.EntryWhole Part.Whole
      rw [hsheets _ hxk, h.acc, hany, beq_eq_false_iff_ne.2 hxk, Bool.false_and, Bool.or_false]
      exact ⟨hwhole, fun _ => False.elim, hbroken, hrooms, heject⟩
    · refine ⟨fun hb _ => ?_, fun _ => False.elim, fun hb => ⟨hdelivered, ?_⟩, ?_, fun e _ hs => absurd hs (h.no_set hp ha)⟩
      · rcases hnew with ⟨hb', -⟩ | ⟨-, hpu, hre, hun, hbound, -⟩
        · rw [hb] at hb'
          cases hb'
        · exact ⟨hpu, hre, hun, .inl hdelivered, hbound⟩
      · rcases hnew with ⟨-, hs, -⟩ | ⟨hb', -⟩
        · intro s hs'
          rw [hs] at hs'
          cases hs'
        · rw [hb] at hb'
          cases hb'
      · rw [hany, hfree, hdelivered, beq_self_eq_true, Bool.true_and, Bool.false_or, beq_self_eq_true, Bool.and_true]
  · rcases hnew with ⟨-, -, e⟩ | ⟨-, -, -, -, -, a, e, hak, -⟩
    · exact e ▸ hw.rooms
    · rw [e, List.map_append, List.nodup_append]
      refine ⟨hw.rooms, List.nodup_singleton _, fun j hj l hl => ?_⟩
      obtain ⟨b, hb, rfl⟩ := List.mem_map.1 hj
      rw [List.mem_singleton.1 hl, hak]
      exact h.no_room hp hw hb
  · have hold : a ∈ p.stacker.allowances → ∃ x ∈ q.groups.entries, x.key = a.group ∧ x.bin = some a.bin
        ∧ a.count = if x.state = .closed then x.accepted else x.declared := fun ha' => by
      obtain ⟨x, hx, hrest⟩ := hw.room a ha'
      exact ⟨x, h.mem_old hx, hrest⟩
    rcases hnew with ⟨-, -, e⟩ | ⟨-, -, -, -, -, b, e, hbk, hbin, hcount⟩
    · exact hold (e ▸ hq)
    · rw [e] at hq
      rcases List.mem_append.1 hq with hq | hq
      · exact hold hq
      · rw [List.mem_singleton.1 hq]
        exact ⟨g, h.mem_new, hbk.symm, hbin, hcount⟩
  · obtain ⟨x, hx, hxj, hrest⟩ := hw.cadence j (h.cadence ▸ hj)
    refine ⟨x, h.mem_old hx, hxj, ?_⟩
    rw [hsheets j (hxj ▸ h.key_ne hp hx)]
    exact hrest

end

end
end Sys2Proof.Machine

namespace Sys2Proof.Machine

section
variable {p q r : Part}

/-! ### GROUP_ADMISSION (R23, R24) -/

/-- The Group Table, the Planner and the room of an admission, before the pick. -/
def Part.opened (p : Part) (o : SheetOrder) (f : FirstFields) (g : Grant) : Part :=
  let k := p.groups.nextKey
  ((p.addGroup { groupOf k o f with bin := some g.bin, policy := g.policy }).setOpen k).reserve
    { group := k, bin := g.bin, count := f.declared.toNat, alternate := g.alternate }

theorem openGroupWith_eq (p : Part) (o : SheetOrder) (f : FirstFields) (g : Grant) :
    p.openGroupWith o f g = ((p.takeHead.opened o f g).takeIntoPick o g.media p.takeHead.groups.nextKey
      g.tray).closeIfLast o p.takeHead.groups.nextKey := by
  rw [takeHead_groups]
  unfold Part.openGroupWith Part.opened
  rw [takeHead_groups]

/-- The entry of an admitted group with its first sheet picked. -/
def admitted (k : GroupKey) (o : SheetOrder) (f : FirstFields) (g : Grant) : Group :=
  { groupOf k o f with bin := some g.bin, policy := g.policy, accepted := 1, inPath := 1 }

/-- A change of the last entry alone. -/
theorem map_last {l : List Group} {g : Group} (f : Group → Group) (h : ∀ x ∈ l, x.key ≠ g.key) :
    ((l ++ [g]).map fun x => if x.key == g.key then f x else x) = l ++ [f g] := by
  rw [List.map_append, List.map_cons, List.map_nil, if_pos (beq_self_eq_true _),
    List.map_congr_left fun x hx => if_neg (by simpa using h x hx), List.map_id']

theorem opened_entries (o : SheetOrder) (f : FirstFields) (g : Grant)
    (h : ∀ x ∈ p.groups.entries, x.key < p.groups.nextKey) :
    ((p.opened o f g).picked o g.media p.groups.nextKey g.tray).groups.entries
      = p.groups.entries ++ [admitted p.groups.nextKey o f g] :=
  map_last (g := { groupOf p.groups.nextKey o f with bin := some g.bin, policy := g.policy })
    (fun x => { x with accepted := x.accepted + 1, inPath := x.inPath + 1 }) fun x hx => Nat.ne_of_lt (h x hx)

theorem opened_adds (o : SheetOrder) (f : FirstFields) (g : Grant) (hopen : p.planner.openGroup = none)
    (h : p.GroupsHold) :
    p.Adds ((p.opened o f g).picked o g.media p.groups.nextKey g.tray) (admitted p.groups.nextKey o f g) where
  entries := opened_entries o f g fun _ => h.lt_nextKey
  key := rfl
  nextKey := rfl
  wasNone := hopen
  openGroup := rfl
  results := rfl
  acc := rfl
  cadence := rfl

theorem opened_keeps (o : SheetOrder) (f : FirstFields) (g : Grant) (hopen : p.planner.openGroup = none)
    (hd : 1 ≤ f.declared.toNat ∧ f.declared.toNat ≤ 64) (hroom : p.track.sheets.length < 16) :
    KeepsBills p ((p.opened o f g).picked o g.media p.groups.nextKey g.tray) := by
  refine .of_groups fun h => ?_
  have hadds := opened_adds o f g hopen h
  have hpick : p.Picks ((p.opened o f g).picked o g.media p.groups.nextKey g.tray)
      (sheetOf o g.media p.groups.nextKey p.track.nextSeq g.tray) := ⟨hroom, rfl, rfl, rfl⟩
  have hother : ∀ j, j ≠ p.groups.nextKey →
      ((p.opened o f g).picked o g.media p.groups.nextKey g.tray).sheetsOf j = p.sheetsOf j := fun j hj => by
    rw [hpick.sheetsOf, if_neg, List.append_nil]
    exact hj.symm
  have hown : p.BillsAccounted →
      ((p.opened o f g).picked o g.media p.groups.nextKey g.tray).sheetsOf p.groups.nextKey
        = [sheetOf o g.media p.groups.nextKey p.track.nextSeq g.tray] := fun ha => by
    rw [hpick.sheetsOf, show p.sheetsOf p.groups.nextKey = [] from hadds.no_sheets h ha]
    exact if_pos rfl
  refine ⟨fun _ => hadds.groupsHold h ?_, fun _ hl ha => ?_, fun _ hl ha hw => ?_, fun _ hl _ => hpick.left hl⟩
  · exact ⟨fun _ => ⟨hd.1, hd.2, hd.1⟩, nofun, Nat.le_refl 1, (by decide : 1 ≤ 64), rfl, nofun, fun _ => rfl⟩
  · exact hadds.billsAccounted h ha hother (hpick.nodup hl ha.2.1) ⟨rfl, congrArg List.length (hown ha).symm, rfl⟩
  · refine hadds.wholeBut h ha hw hother rfl (.inr ⟨rfl, rfl, rfl, rfl, fun s hs => ?_, _, rfl, rfl, rfl, rfl⟩)
    rw [show (admitted p.groups.nextKey o f g).key = p.groups.nextKey from rfl, hown ha] at hs
    rw [List.mem_singleton.1 hs]
    exact freshSheet_bound ..

theorem fresh_of_picked (o : SheetOrder) (m : MediaEntry) (k : GroupKey) (t : TrayId) :
    ∃ s ∈ (p.picked o m k t).sheetsOf k, s.fresh = true :=
  ⟨sheetOf o m k p.track.nextSeq t, mem_sheetsOf.2 ⟨List.mem_append_right _ (List.mem_singleton_self _), rfl⟩, rfl⟩

theorem sheetsOf_of_bills (h : q.bills = p.bills) (k : GroupKey) : q.sheetsOf k = p.sheetsOf k := by
  unfold Part.sheetsOf
  rw [show q.track.sheets = p.track.sheets from congrArg BillView.sheets h]

/-- The close of a group with the LAST order, once its pick has kept the promises. -/
theorem closeIfLast_keeps {k : GroupKey} {g : Group} (o : SheetOrder) (m : MediaEntry) (t : TrayId)
    (hkeep : KeepsBills p (q.takeIntoPick o m k t)) (hg : (q.picked o m k t).group? k = some g)
    (hs : g.state = .admitting) : KeepsBills p ((q.takeIntoPick o m k t).closeIfLast o k) := by
  have hb := takeIntoPick_bills q o m k t
  refine hkeep.trans (closeIfLast_settles o ((group?_of_bills hb k).trans hg) hs ?_).keepsBills
  rw [sheetsOf_of_bills hb]
  exact fresh_of_picked o m k t

theorem openGroupWith_keeps (o : SheetOrder) (f : FirstFields) (g : Grant) (hopen : p.planner.openGroup = none)
    (hd : 1 ≤ f.declared.toNat ∧ f.declared.toNat ≤ 64) (hroom : p.track.sheets.length < 16) :
    KeepsBills p (p.openGroupWith o f g) := by
  rw [openGroupWith_eq]
  refine (KeepsBills.of_bills (takeHead_bills p)).trans (.of_groups fun h => ?_)
  have ho : p.takeHead.planner.openGroup = none := (congrArg BillView.openGroup (takeHead_bills p)).trans hopen
  have hkeep := opened_keeps o f g ho hd (by rw [takeHead_track]; exact hroom)
  refine closeIfLast_keeps o _ _ (hkeep.congr (takeIntoPick_bills ..)) (g := admitted p.takeHead.groups.nextKey o f g) ?_ rfl
  exact (hkeep.groups h).group?_of_mem (opened_adds o f g ho h).mem_new

theorem groupAdmission_keeps (h : p.groupAdmission = some q) : KeepsBills p q := by
  unfold Part.groupAdmission at h
  split at h
  · cases h
  · split at h
    · cases h
    · dsimp only at h
      split at h
      · rename_i hb hc
        cases h
        exact truncate_settles.keepsBills.trans
          (openGroupWith_keeps _ _ _ (truncate_openGroup p) (startBreak_none hb) (admissionCheck_ok hc).2.2)
      · cases h

/-! ### BROKEN_FROM_START (R21) -/

/-- The entry of a group broken from the start, its one order unfed. -/
def unfedGroup (k : GroupKey) (o : SheetOrder) (f : FirstFields) (x : BreakReason) (st : GroupState)
    (t : Option Half) : Group :=
  { groupOf k o f with accepted := 1, unfed := 1, reason := some x, state := st, lastTag := t }

theorem unfedGroup_keeps {o : SheetOrder} {f : FirstFields} {x : BreakReason} {st : GroupState} {t : Option Half}
    (hst : st = .brokenOpen ∧ t = none ∨ st = .brokenClosed) (hadds : p.Adds q (unfedGroup p.groups.nextKey o f x st t))
    (htrack : q.track = p.track) (hstacker : q.stacker = p.stacker) : KeepsBills p q := by
  have hsheets : ∀ j, q.sheetsOf j = p.sheetsOf j := fun j => by unfold Part.sheetsOf; rw [htrack]
  refine .of_groups fun h => ⟨fun _ => hadds.groupsHold h ?_, fun _ hl ha => ?_, fun _ hl ha hw => ?_, fun _ hl _ => ?_⟩
  · rcases hst with ⟨rfl, rfl⟩ | rfl
    · exact ⟨nofun, fun _ => (by decide : 1 < 64), Nat.le_refl 1, (by decide : 1 ≤ 64), rfl, nofun, fun _ => rfl⟩
    · exact ⟨nofun, nofun, Nat.le_refl 1, (by decide : 1 ≤ 64), rfl, nofun, nofun⟩
  · refine hadds.billsAccounted h ha (fun j _ => hsheets j) (htrack ▸ ha.2.1) ⟨rfl, ?_, rfl⟩
    rw [hsheets, hadds.no_sheets h ha]
    rfl
  · refine hadds.wholeBut h ha hw (fun j _ => hsheets j) rfl (.inl ⟨?_, ?_, by rw [hstacker]⟩)
    · rcases hst with ⟨rfl, -⟩ | rfl <;> rfl
    · rw [hsheets]
      exact hadds.no_sheets h ha
  · unfold Part.SeqsLeft Part.SeqsFreeFor
    rw [htrack]
    exact hl

theorem openBroken_keeps (o : SheetOrder) (f : FirstFields) (x : BreakReason) (hopen : p.planner.openGroup = none) :
    KeepsBills p (p.openBroken o f x) := by
  have hb := takeHead_bills p
  have hr : p.takeHead.link.held.results = p.link.held.results := congrArg BillView.results hb
  have ho : p.takeHead.planner.openGroup = none := (congrArg BillView.openGroup hb).trans hopen
  have ha : p.takeHead.acc = p.acc := congrArg BillView.acc hb
  have hc : p.takeHead.arbiter.cadenceGroup = p.arbiter.cadenceGroup := congrArg BillView.cadenceGroup hb
  have hnext := congrArg (·.nextKey + 1) (takeHead_groups p)
  unfold Part.openBroken
  dsimp only
  split
  · exact unfedGroup_keeps (t := some o.tag) (.inr rfl)
      ⟨congrArg (·.entries ++ _) (takeHead_groups p), rfl, hnext, hopen, ho, hr, ha, hc⟩ (takeHead_track p)
      (takeHead_stacker p)
  · exact unfedGroup_keeps (t := none) (.inl ⟨rfl, rfl⟩)
      ⟨congrArg (·.entries ++ _) (takeHead_groups p), rfl, hnext, hopen, rfl, hr, ha, hc⟩ (takeHead_track p)
      (takeHead_stacker p)

theorem brokenFromStart_keeps (h : p.brokenFromStart = some q) : KeepsBills p q := by
  unfold Part.brokenFromStart at h
  split at h
  · cases h
  · split at h
    · cases h
    · dsimp only at h
      split at h
      · cases h
        exact truncate_settles.keepsBills.trans (openBroken_keeps _ _ _ (truncate_openGroup p))
      · cases h

/-! ### Orders after the first (R30 to R33) -/

theorem discard_settles {k : GroupKey} {g : Group} (o : SheetOrder) (hg : p.group? k = some g)
    (hs : g.state = .brokenOpen) : Settles false Unhurt Unhurt p (p.discard o k) := by
  have hb := takeHead_bills p
  refine (Settles.of_bills hb).trans (.of_groups fun h => ?_)
  have hg' : p.takeHead.group? k = some g := (group?_of_bills hb k).trans hg
  have hmem := mem_of_group? hg'
  have hcap : g.accepted + 1 ≤ 64 := (h.agrees hmem).2.1 hs
  unfold Part.discard
  dsimp only
  split
  · rw [mapGroup_mapGroup _ _ fun _ => by rfl, Part.clearOpen_eq]
    exact brokenOpen_settles hg' hs (fun _ => rfl) rfl (.inr ⟨rfl, rfl, hcap⟩)
  · have hentry : (p.takeHead.mapGroup k fun g => { g with accepted := g.accepted + 1, unfed := g.unfed + 1 }).group? k
        = some { g with accepted := g.accepted + 1, unfed := g.unfed + 1 } :=
      (mapGroup_group? _ k (f := fun g => { g with accepted := g.accepted + 1, unfed := g.unfed + 1 }) fun _ => rfl).trans
        (by rw [hg']; rfl)
    unfold Part.closeAtCap
    rw [hentry]
    dsimp only
    split
    · rw [mapGroup_mapGroup _ _ fun _ => by rfl, Part.clearOpen_eq]
      exact brokenOpen_settles (t := g.lastTag) hg' hs (fun _ => rfl) rfl (.inr ⟨rfl, rfl, hcap⟩)
    · rename_i hn
      refine brokenOpen_settles (o := p.takeHead.planner.openGroup) hg' hs (fun _ => rfl) rfl
        (.inl ⟨hs, rfl, rfl, Nat.lt_of_not_le fun e => hn ⟨hs, e⟩⟩)

theorem discardOrphan_settles (p : Part) : Settles false Unhurt Unhurt p p.discardOrphan :=
  (Settles.of_bills ((occur_bills p.takeHead _ _ _).trans (takeHead_bills p))).trans (breakOpen_settles _)

theorem breakGroup_open_settles {g : Group} (x : BreakReason) (ho : p.planner.openGroup = some g.key) :
    Settles false Unhurt Unhurt p (p.breakGroup g.key x) := by
  have h := breakOpen_settles (d := false) (hurt := Unhurt) (p := p) x
  unfold Part.breakOpen at h
  rw [ho] at h
  exact h

theorem pickFurther_keeps {g : Group} (o : SheetOrder) (m : MediaEntry) (t : TrayId) (hg : p.group? g.key = some g)
    (hs : g.state = .admitting) (hlt : g.accepted ≠ g.declared) (hroom : p.track.sheets.length < 16) :
    KeepsBills p ((p.takeHead.takeIntoPick o m g.key t).closeIfLast o g.key) := by
  have hg' : p.takeHead.group? g.key = some g := (group?_of_bills (takeHead_bills p) _).trans hg
  refine closeIfLast_keeps o m t ((KeepsBills.of_bills (takeHead_bills p)).trans
    (takeIntoPick_keeps o m t hg' hs hlt (by rw [takeHead_track]; exact hroom))) ?_ ?_
    (g := { g with accepted := g.accepted + 1, inPath := g.inPath + 1 })
  · exact (mapGroup_group? p.takeHead g.key
      (f := fun g => { g with accepted := g.accepted + 1, inPath := g.inPath + 1 }) fun _ => rfl).trans (by rw [hg']; rfl)
  · exact hs

theorem furtherOrderPick_keeps (h : p.furtherOrderPick = some q) : KeepsBills p q := by
  unfold Part.furtherOrderPick at h
  split at h
  · cases h
  · split at h
    · cases h
    · rename_i g hown
      obtain ⟨ho, hg⟩ := ownGroup_some hown
      split at h
      · rename_i hs
        split at h
        · rename_i x hx
          cases h
          have hbreak := breakGroup_open_settles x ho
          refine (hbreak.trans ?_).keepsBills
          split
          · rename_i hopen
            have he : (p.breakGroup g.key x).group? g.key = some { g with state := .brokenOpen, reason := some x } := by
              rw [breakGroup_open x hg hs] at hopen ⊢
              split at hopen
              · cases hopen
              · rename_i hn
                rw [if_neg hn, breakAs_group?, hg]
                rfl
            exact discard_settles _ he rfl
          · exact discardOrphan_settles _
        · rename_i hx
          split at h
          · cases h
          · split at h
            · split at h
              · rename_i hc
                cases h
                exact pickFurther_keeps _ _ _ hg hs (furtherBreak_none hx) (pickCheck_room hc)
              · cases h
            · cases h
      · cases h

theorem discardedAsUnfed_keeps (h : p.discardedAsUnfed = some q) : KeepsBills p q := by
  unfold Part.discardedAsUnfed at h
  split at h
  · cases h
  · split at h
    · rename_i g hown
      split at h
      · rename_i hs
        cases h
        exact (discard_settles _ (ownGroup_some hown).2 hs).keepsBills
      · cases h
    · cases h

theorem orphanTaken_keeps (h : p.orphanTaken = some q) : KeepsBills p q := by
  unfold Part.orphanTaken at h
  split at h
  · cases h
  · split at h
    · cases h
      exact (discardOrphan_settles p).keepsBills
    · cases h

theorem headTruncation_keeps (h : p.headTruncation = some q) : KeepsBills p q := by
  unfold Part.headTruncation at h
  split at h
  · split at h
    · cases h
      exact truncate_settles.keepsBills
    · cases h
  · cases h

end
end Sys2Proof.Machine

namespace Sys2Proof.Machine

section
variable {p q r : Part} {d : Bool} {hurt hurt' : GroupKey → Prop}

/-! ### Transport entries (R99) -/

theorem discardSampling_eq (s : Sheet) : ∃ x, s.discardSampling = { s with sampling := x } := by
  unfold Sheet.discardSampling
  split
  · exact ⟨_, rfl⟩
  · exact ⟨s.sampling, rfl⟩

theorem discardSampling_settles (p : Part) : Settles d hurt hurt p p.discardSampling := by
  have hsame : ∀ {P : Sheet → Sheet → Prop}, (∀ s x, P s { s with sampling := x }) → ∀ s, P s s.discardSampling := by
    intro P h s
    obtain ⟨x, e⟩ := discardSampling_eq s
    rw [e]
    exact h s x
  exact sheetsBy_settles (f := Sheet.discardSampling) (hsame (P := fun s x => x.seq = s.seq) fun _ _ => rfl)
    (hsame (P := fun s x => x.group = s.group) fun _ _ => rfl)
    (fun s _ => hsame (P := fun s x => s.fresh = true → x.fresh = true) (fun _ _ => id) s)
    (fun s _ => hsame (P := fun s x => s.destination = .purge → x.destination = .purge) (fun _ _ => id) s)
    (fun s _ _ => hsame (P := fun s x => s.Bound → x.Bound) (fun _ _ => id) s)

theorem enterStandby_bills (p : Part) : p.enterStandby.bills = p.discardSampling.bills := by
  unfold Part.enterStandby
  dsimp only
  split <;> rfl

theorem enterStandby_settles (p : Part) : Settles d hurt hurt p p.enterStandby :=
  (discardSampling_settles p).congr (enterStandby_bills p)

theorem enterSafe_settles (p : Part) : Settles d hurt hurt p p.enterSafe :=
  (discardSampling_settles p).congr rfl

theorem armWatch_bills (p : Part) : p.armWatch.bills = p.bills := by
  unfold Part.armWatch
  split <;> rfl

theorem resumeRunning_bills (p : Part) : p.resumeRunning.bills = p.bills := armWatch_bills _

theorem drainEnd_settles (h : p.drainEnd = some q) : Settles d hurt hurt p q := by
  unfold Part.drainEnd at h
  split at h
  · cases h
    split
    · exact .of_bills (resumeRunning_bills p)
    · exact enterStandby_settles p
  · cases h

theorem runoutEnd_settles (h : p.runoutEnd = some q) : Settles d hurt hurt p q := by
  unfold Part.runoutEnd at h
  split at h
  · cases h
    split
    · exact enterSafe_settles p
    · exact (enterSafe_settles p).trans (enterStandby_settles _)
  · cases h

theorem recoveryEnd_settles (h : p.recoveryEnd = some q) : Settles d hurt hurt p q := by
  unfold Part.recoveryEnd at h
  split at h
  · cases h
    exact (Settles.of_bills (p := p) (q := p.dropSweepClass) rfl).trans (enterStandby_settles _)
  · cases h

/-! ### Loads (R26, R140, R182, R183) -/

theorem setBin_bills (p : Part) (b : BinId) (x : Bin) : (p.setBin b x).bills = p.bills := by
  unfold Part.setBin
  dsimp only
  split <;> rfl

theorem reformBins_bills (p : Part) (f : BinId → Bin → Bin) : (p.reformBins f).bills = p.bills := by
  unfold Part.reformBins
  generalize BinId.list = bins
  induction bins generalizing p with
  | nil => rfl
  | cons b bins ih => exact (ih _).trans (setBin_bills p b _)

theorem liveLoad_bills (p : Part) (t : TableId) (n : Nat) (b : List Byte) : (p.liveLoad t n b).1.bills = p.bills := by
  rcases liveLoad_cases p t n b with h | ⟨c, -, h⟩ | ⟨c, -, h⟩ <;> rw [h]
  · rfl
  · exact reformBins_bills (p.withBinMap c) _

theorem applyLocked_bills (p : Part) (c : PendingLoad) : (p.applyLocked c).bills = p.bills := by
  cases c with
  | parameters c => rw [Part.applyLocked, applyParameters_eq]; rfl
  | _ => rfl

theorem setPendingLoad_bills (p : Part) (c : Option PendingLoad) : (p.setPendingLoad c).bills = p.bills := rfl

theorem liveLoadTaken_settles (h : p.liveLoadTaken = some q) : Settles d hurt hurt p q := by
  unfold Part.liveLoadTaken at h
  split at h
  · split at h
    · cases h
      exact .of_bills ((loadResult_bills _ _ _).trans (liveLoad_bills p _ _ _))
    · cases h
  · cases h

theorem lockedLoadTaken_settles (h : p.lockedLoadTaken = some q) : Settles d Unhurt Unhurt p q := by
  unfold Part.lockedLoadTaken at h
  split at h
  · split at h
    · split at h
      · cases h
        exact .of_bills (loadResult_bills p _ _)
      · dsimp only at h
        split at h
        · cases h
          exact .of_bills ((applyLocked_bills _ _).trans (loadResult_bills p _ _))
        · rename_i t _ _ _ _ _ _ c _ _
          cases h
          have hres : ((p.loadResult t none).setPendingLoad (some c)).bills = p.bills :=
            (setPendingLoad_bills _ _).trans (loadResult_bills p t none)
          refine (Settles.of_bills hres).trans (truncate_settles.congr ?_)
          split <;> rfl
    · cases h
  · cases h

theorem pendingLoadApplied_settles (h : p.pendingLoadApplied = some q) : Settles d hurt hurt p q := by
  unfold Part.pendingLoadApplied at h
  split at h
  · split at h
    · cases h
      exact .of_bills (applyLocked_bills (p.setPendingLoad none) _)
    · cases h
  · cases h

/-! ### STOP and PURGE (R38, R155) -/

theorem stopTaken_settles (h : p.stopTaken = some q) : Settles d Unhurt Unhurt p q := by
  have htrunc : Settles d Unhurt Unhurt p p.takeHead.truncate :=
    (Settles.of_bills (takeHead_bills p)).trans truncate_settles
  unfold Part.stopTaken at h
  split at h
  · split at h
    · cases h
      exact htrunc.congr rfl
    · dsimp only at h
      cases h
      refine htrunc.congr ?_
      split <;> rfl
    · cases h
      exact htrunc
    · cases h
      exact htrunc
    · cases h
      exact htrunc
    all_goals cases h
  · cases h

theorem purgeTaken_settles (h : p.purgeTaken = some q) : Settles d Unhurt Unhurt p q := by
  unfold Part.purgeTaken at h
  split at h
  · split at h
    · cases h
      exact (Settles.of_bills (takeHead_bills p)).trans (breakOpen_settles _)
    · cases h
  · cases h

/-! ### Stalls (R53, R54) -/

theorem moveTo_settles (s : Sheet) (t : TrayId) : Settles d hurt hurt p (p.moveTo s t) :=
  (mapSheet_settles_same (p := p) s.seq (f := fun r => { r with tray := t, attempts := 0 }) (fun _ => rfl) (fun _ => rfl)
    (fun _ => rfl) (fun _ => rfl) fun _ => id).congr rfl

theorem stallEnd_settles (h : p.stallEnd = some q) : Settles d hurt hurt p q := by
  unfold Part.stallEnd at h
  split at h
  · split at h
    · cases h
    · rename_i s _
      split at h
      · cases h
      · split at h
        · cases h
          exact (mapSheet_settles_same (p := p) s.seq (f := fun r => { r with attempts := 0 }) (fun _ => rfl)
            (fun _ => rfl) (fun _ => rfl) (fun _ => rfl) fun _ => id).congr rfl
        · cases h
          exact moveTo_settles s _
  · cases h

end
end Sys2Proof.Machine

namespace Sys2Proof.Machine

section
variable {p q r : Part} {d : Bool} {hurt hurt' : GroupKey → Prop}

/-! ### Ejects started (R131, R133, R134) -/

theorem Part.EntryBy.same {k : GroupKey} (hg : q.groups = p.groups)
    (hr : q.link.held.results = p.link.held.results) : p.EntryBy q k id where
  key _ := rfl
  entries := by
    rw [hg]
    exact ((List.map_congr_left fun g _ => by split <;> rfl).trans (List.map_id _)).symm
  nextKey := by rw [hg]
  results := hr

/-- What an eject of the set of group `g` to a target may rest on (R131, R134). -/
def Group.SendsTo (g : Group) : EjectTarget → Prop
  | .purge => g.state.broken = true
  | .bin b => g.state = .closed ∧ g.inSet = g.accepted ∧ g.bin = some b

theorem startEject_settles {g : Group} (x : EjectTarget) (j : Jog) (hset : p.acc.setGroup = some g.key)
    (hg : g ∈ p.groups.entries) (hne : p.acc.sheets ≠ []) (hx : g.SendsTo x) :
    Settles d Unhurt Unhurt p (p.startEject x j) := by
  have hby : p.EntryBy (p.startEject x j) g.key id := .same rfl rfl
  have hsame : p.SameBut (p.startEject x j) g.key :=
    ⟨fun _ _ => rfl, fun i hi e => absurd (hset.symm.trans (e.elim id id)) fun e => hi (Option.some.inj e).symm, rfl⟩
  refine ⟨id, fun h ha => ?_, fun h ha hw => ?_, fun _ _ => rfl, fun _ _ => List.Sublist.refl _, fun _ _ _ => rfl⟩
  · obtain ⟨hcount, hnodup, -, hs, -, -, hheld⟩ := id ha
    refine hby.billsAccounted hsame h ha hg rfl (hcount g hg) hnodup hs (fun e he => ?_) (hheld g hg)
    cases he
    exact ⟨rfl, hne⟩
  · obtain ⟨hwhole, -, hbroken, hany, -⟩ := hw.entries g hg
    refine hby.wholeBut hsame h hw hg rfl (fun _ _ => Iff.rfl) ⟨hwhole, fun _ => False.elim, hbroken, hany,
      fun e he _ => ?_⟩ hw.rooms (fun _ => hw.room_at (g := g) h hg rfl) fun i hi => ⟨fun _ => hi, hw.cadence_at (g := g) h hg rfl hi⟩
    cases he
    cases x <;> exact hx

/-- The set redirected to another bin, its group complete and none of it in flight (R133). -/
theorem redirect_settles {g : Group} (b : BinId) (hset : p.acc.setGroup = some g.key) (hg : g ∈ p.groups.entries)
    (heject : p.acc.eject = none) (hs : g.state = .closed) (hin : g.inSet = g.accepted) :
    Settles d Unhurt Unhurt p (p.redirect g b) := by
  have hby : p.EntryBy (p.redirect g b) g.key fun g => { g with bin := some b } := ⟨fun _ => rfl, rfl, rfl, rfl⟩
  have hgroup : ∀ a : Allowance, (if a.group == g.key then { a with bin := b, count := p.acc.sheets.length }
      else a).group = a.group := fun a => by split <;> rfl
  have hsame : p.SameBut (p.redirect g b) g.key :=
    ⟨fun _ _ => rfl, fun _ _ _ => rfl, filter_mapRooms hgroup fun a ha => if_neg (by simpa using ha)⟩
  refine ⟨fun h => ?_, fun h ha => ?_, fun h ha hw => ?_, fun _ _ => rfl, fun _ _ => List.Sublist.refl _,
    fun _ _ _ => rfl⟩
  · exact hby.groupsHold h hg rfl (show g.Agrees from h.agrees hg) id (.inl ⟨rfl, rfl⟩)
  · obtain ⟨hcount, hnodup, -, hs, -, he, hheld⟩ := id ha
    exact hby.billsAccounted hsame h ha hg rfl (hcount g hg) hnodup hs he (hheld g hg)
  · obtain ⟨hwhole, -, hbroken, hany, -⟩ := hw.entries g hg
    refine hby.wholeBut hsame h hw hg rfl (fun _ _ => Iff.rfl) ⟨hwhole, fun _ => False.elim, hbroken, ?_, fun e he _ => ?_⟩
      (nodup_mapRooms hgroup hw.rooms) (fun a hm hk => ?_) fun i hi => ⟨fun _ => hi, hw.cadence_at (g := g) h hg rfl hi⟩
    · exact (any_mapRooms hgroup _).trans hany
    · have he : p.acc.eject = some e := he
      rw [heject] at he
      cases he
    · obtain ⟨a, hm, rfl⟩ := List.mem_map.1 hm
      rw [hgroup] at hk
      obtain ⟨-, -, hin'⟩ := ha.1 g hg
      unfold Part.setOf at hin'
      rw [if_pos hset, hin] at hin'
      rw [if_pos (beq_iff_eq.2 hk), if_pos hs]
      exact ⟨rfl, hin'.symm⟩

theorem mem_breakAs {k : GroupKey} {g : Group} {st : GroupState} {x : BreakReason} {o : Option GroupKey}
    (hg : p.group? k = some g) : { g with state := st, reason := some x } ∈ (p.breakAs k st x o).groups.entries :=
  (breakAs_entryBy k st x o).mem_new (mem_of_group? hg) (group?_key hg)

/-- A complete set goes to its bin, to its alternate, or, its group broken with BIN, to purge (R133). -/
theorem ejectIntact_settles {g : Group} (hset : p.acc.setGroup = some g.key) (hg? : p.group? g.key = some g)
    (heject : p.acc.eject = none) (hs : g.state = .closed) (hin : g.inSet = g.accepted) (hne : p.acc.sheets ≠ []) :
    Settles d Unhurt Unhurt p (p.ejectIntact g) := by
  have hg := mem_of_group? hg?
  unfold Part.ejectIntact
  split
  · rename_i b hb
    exact startEject_settles _ _ hset hg hne ⟨hs, hin, (Option.filter_eq_some_iff.1 hb).1⟩
  · split
    · rename_i b _
      have hr := redirect_settles (d := d) b hset hg heject hs hin
      refine hr.trans (startEject_settles (g := { g with bin := some b }) (.bin b) _ hset ?_ hne ⟨hs, hin, rfl⟩)
      exact List.mem_map.2 ⟨g, hg, if_pos (beq_self_eq_true _)⟩
    · have hb : g.state.broken = false := by rw [hs]; rfl
      have hbreak : Settles d Unhurt Unhurt p (p.breakGroup g.key .bin) :=
        (breakGroup_settles (hurt := Unhurt) .bin fun h ha hw y hy hyk _ => .inr ?_).hurt_congr fun _ =>
          (and_iff_left_of_imp False.elim).symm
      · refine hbreak.trans ?_
        rw [breakGroup_closed .bin hg? hs]
        exact startEject_settles (g := { g with state := .brokenClosed, reason := some .bin }) .purge .left hset
          (mem_breakAs hg?) hne rfl
      · obtain rfl := h.unique hy hg hyk
        obtain ⟨hsum, -, hin'⟩ := ha.1 y hy
        unfold Part.setOf at hin'
        rw [if_pos hset] at hin'
        have hpos := List.length_pos_iff.2 hne
        obtain ⟨-, -, -, hd, -⟩ := (hw.entries y hy).1 hb id
        refine ⟨hd.resolve_right fun e => ?_, fun e => ?_⟩
        · omega
        · rw [heject] at e
          cases e

theorem setEjectStart_settles (h : p.setEjectStart = some q) : Settles d Unhurt Unhurt p q := by
  unfold Part.setEjectStart at h
  split at h
  · cases h
  · rename_i g hg
    obtain ⟨k, hk, hg⟩ := Option.bind_eq_some_iff.1 hg
    obtain rfl := group?_key hg
    split at h
    · cases h
    · split at h
      · rename_i hdue
        cases h
        unfold Part.dueIntact at hdue
        simp only [Bool.and_eq_true, beq_iff_eq, Option.isNone_iff_eq_none, Bool.not_eq_true', List.isEmpty_eq_false_iff]
          at hdue
        obtain ⟨⟨⟨hs, hin⟩, heject⟩, hne⟩ := hdue
        exact ejectIntact_settles hk hg heject hs hin hne
      · split at h
        · rename_i hdue
          cases h
          unfold Part.dueBroken at hdue
          simp only [Bool.and_eq_true, Bool.not_eq_true', List.isEmpty_eq_false_iff] at hdue
          obtain ⟨⟨⟨hb, hne⟩, -⟩, -⟩ := hdue
          exact startEject_settles _ _ hk (mem_of_group? hg) hne hb
        · cases h

end
end Sys2Proof.Machine

namespace Sys2Proof.Machine

section
variable {p q r : Part} {d : Bool} {hurt hurt' : GroupKey → Prop}

/-! ### Resolution (R27, R40, R186) -/

theorem mem_dropGroup {k : GroupKey} {x : Group} : x ∈ (p.dropGroup k).groups.entries ↔ x ∈ p.groups.entries ∧ x.key ≠ k :=
  List.mem_filter.trans (and_congr_right fun _ => by simp)

/-- A closed group with no sheet left leaves the table, and its result the held ones. -/
theorem dropGroup_settles {g : Group} (l : Link) (hg : g ∈ p.groups.entries) (hc : g.state.closedState = true)
    (hl : l.held.results.Sublist p.link.held.results) (hk : g.key ∉ l.held.results)
    (hempty : p.BillsAccounted → g.inPath = 0 ∧ g.inSet = 0) :
    Settles d Unhurt Unhurt p (Part.dropGroup { p with link := l } g.key) := by
  have hmem : ∀ {x}, x ∈ (Part.dropGroup { p with link := l } g.key).groups.entries ↔
      x ∈ p.groups.entries ∧ x.key ≠ g.key := mem_dropGroup
  have hhas : ∀ {j}, j ≠ g.key → (∃ x ∈ p.groups.entries, x.key = j) →
      ∃ x ∈ (Part.dropGroup { p with link := l } g.key).groups.entries, x.key = j := by
    rintro j hj ⟨x, hx, rfl⟩
    exact ⟨x, hmem.2 ⟨hx, hj⟩, rfl⟩
  have hnone : p.BillsAccounted → p.sheetsOf g.key = [] ∧ p.acc.setGroup ≠ some g.key := fun ha => by
    obtain ⟨hpath, hset⟩ := hempty ha
    obtain ⟨hcount, -, -, hsome, -⟩ := ha
    obtain ⟨-, hp, hs⟩ := hcount g hg
    refine ⟨List.eq_nil_of_length_eq_zero (hp.symm.trans hpath), fun e => ?_⟩
    unfold Part.setOf at hs
    rw [if_pos e, hset] at hs
    rw [e, List.eq_nil_of_length_eq_zero hs.symm] at hsome
    cases hsome
  refine ⟨fun h => ⟨⟨?_, fun x hx => ?_, fun x hx => ?_, fun j hj => ?_, fun j hj x hx hxj => ?_⟩,
    hl.nodup h.2.1, fun j hj => ?_⟩, fun h ha => ?_, fun h ha hw => ?_, fun _ _ => rfl, fun _ _ => List.Sublist.refl _,
    fun _ _ _ => rfl⟩
  · exact h.keys.sublist (List.filter_sublist.map _)
  · exact ⟨h.lt_nextKey (hmem.1 hx).1, h.agrees (hmem.1 hx).1⟩
  · exact h.open_iff (hmem.1 hx).1
  · refine hhas (fun e => ?_) (h.openGroup_mem hj)
    rw [(h.open_iff hg).2 (e ▸ hj)] at hc
    cases hc
  · exact h.closed_of_held (hmem.1 hx).1 (hxj ▸ hl.subset hj)
  · exact hhas (fun e => hk (e ▸ hj)) (h.2.2 j (hl.subset hj))
  · obtain ⟨hs, hset⟩ := hnone ha
    obtain ⟨hcount, hnodup, hentry, hsome, hsetGroup, heject, hheld⟩ := ha
    refine ⟨fun x hx => hcount x (hmem.1 hx).1, hnodup, fun s hsm => hhas (fun e => ?_) (hentry s hsm), hsome,
      fun j hj => hhas (fun e => hset (e ▸ hj)) (hsetGroup j hj), heject,
      fun x hx hr => hheld x (hmem.1 hx).1 (hl.subset hr)⟩
    have : s ∈ p.sheetsOf g.key := mem_sheetsOf.2 ⟨hsm, e⟩
    rw [hs] at this
    cases this
  · have hno : ∀ a ∈ p.stacker.allowances, a.group ≠ g.key := fun a hm e => by
      obtain ⟨hpath, hset⟩ := hempty ha
      obtain ⟨hsum, -⟩ := ha.1 g hg
      obtain ⟨hwhole, -, -, hany, -⟩ := hw.entries g hg
      have hroom := hany.symm.trans (List.any_eq_true.2 ⟨a, hm, beq_iff_eq.2 e⟩)
      rw [Bool.and_eq_true, Bool.not_eq_true', beq_iff_eq] at hroom
      obtain ⟨hb, hd⟩ := hroom
      obtain ⟨hpu, hre, hun, -⟩ := hwhole hb id
      have hpos := (h.agrees hg).2.2.1
      omega
    refine ⟨fun x hx => hw.entries x (hmem.1 hx).1, hw.rooms, fun a hm => ?_, fun j hj => ?_⟩
    · obtain ⟨x, hx, hxa, hrest⟩ := hw.room a hm
      exact ⟨x, hmem.2 ⟨hx, hxa ▸ hno a hm⟩, hxa, hrest⟩
    · have hj : (if p.arbiter.cadenceGroup == some g.key then none else p.arbiter.cadenceGroup) = some j := hj
      split at hj
      · cases hj
      · rename_i hne
        obtain ⟨x, hx, hxj, hrest⟩ := hw.cadence j hj
        refine ⟨x, hmem.2 ⟨hx, fun e => hne ?_⟩, hxj, hrest⟩
        rw [hj, ← hxj, e]
        exact beq_self_eq_true _

theorem holdResult_settles {g : Group} (l : Link) (hg : g ∈ p.groups.entries) (hc : g.state.closedState = true)
    (hl : l.held.results = p.link.held.results ++ [g.key]) (hk : g.key ∉ p.link.held.results)
    (hpath : g.inPath = 0) (hset : g.inSet = 0) : Settles d hurt hurt p { p with link := l } := by
  have hmem : ∀ {j}, j ∈ l.held.results → j ∈ p.link.held.results ∨ j = g.key := fun hj => by
    rw [hl] at hj
    exact (List.mem_append.1 hj).imp id List.mem_singleton.1
  refine ⟨fun h => ⟨⟨h.keys, h.1.2.1, h.1.2.2.1, h.1.2.2.2.1, fun j hj x hx hxj => ?_⟩, ?_, fun j hj => ?_⟩,
    fun h ha => ?_, fun _ _ hw => ⟨hw.entries, hw.rooms, hw.room, hw.cadence⟩, fun _ _ => rfl,
    fun _ _ => List.Sublist.refl _, fun _ _ _ => rfl⟩
  · rcases hmem hj with hj | rfl
    · exact h.closed_of_held hx (hxj ▸ hj)
    · rw [h.unique hx hg hxj]
      exact hc
  · show l.held.results.Nodup
    rw [hl, List.nodup_append]
    exact ⟨h.2.1, List.nodup_singleton _, fun j hj i hi e => hk (List.mem_singleton.1 hi ▸ e ▸ hj)⟩
  · exact (hmem hj).elim (h.2.2 j) fun e => ⟨g, hg, e.symm⟩
  · obtain ⟨hcount, hnodup, hentry, hsome, hsetGroup, heject, hheld⟩ := ha
    refine ⟨hcount, hnodup, hentry, hsome, hsetGroup, heject, fun x hx hr => ?_⟩
    rcases hmem hr with hr | hr
    · exact hheld x hx hr
    · rw [h.unique hx hg hr]
      exact ⟨hpath, hset⟩

theorem groupResolution_settles (h : p.groupResolution = some q) : Settles d Unhurt Unhurt p q := by
  unfold Part.groupResolution at h
  split at h
  · cases h
  · rename_i g hfind
    have hg := List.mem_of_find?_eq_some hfind
    have hres := List.find?_some hfind
    unfold Part.resolvable at hres
    simp only [Bool.and_eq_true, beq_iff_eq, Bool.not_eq_true', List.contains_eq_mem, decide_eq_false_iff_not] at hres
    obtain ⟨⟨⟨hc, hpath⟩, hset⟩, hk⟩ := hres
    split at h
    · cases h
      rw [reportGroup_eq]
      exact dropGroup_settles { p.link with reports := p.link.reports ++ [.groupResult g.result] } hg hc
        (List.Sublist.refl _) hk fun _ => ⟨hpath, hset⟩
    · cases h
      exact holdResult_settles _ hg hc rfl hk hpath hset

/-- The freed place goes to a report without an entry, or to the first held GROUP RESULT (R186). -/
theorem handOut_bills (p : Part) : p.handOut.bills = p.bills ∨ ∃ k rest, p.link.held.results = k :: rest
    ∧ ((p.group? k = none ∧ p.handOut = { p with link := { p.link with held := { p.link.held with results := rest } } })
      ∨ ∃ g r, p.group? k = some g ∧ p.handOut = Part.dropGroup { p with link := { p.link with
          held := { p.link.held with results := rest }, reports := p.link.reports ++ [r] } } g.key) := by
  unfold Part.handOut
  split
  · exact .inl rfl
  · split
    · exact .inl rfl
    · split
      · exact .inl rfl
      · split
        · exact .inl rfl
        · split
          · exact .inl rfl
          · split
            · exact .inl rfl
            · rename_i k rest hk
              refine .inr ⟨k, rest, hk, ?_⟩
              dsimp only
              split
              · rename_i g hg
                exact .inr ⟨g, _, hg, rfl⟩
              · rename_i hg
                exact .inl ⟨hg, rfl⟩

theorem handOut_settles (p : Part) : Settles d Unhurt Unhurt p p.handOut := by
  refine .of_groups fun h => ?_
  rcases handOut_bills p with e | ⟨k, rest, hk, ⟨hg, -⟩ | ⟨g, r, hg, e⟩⟩
  · exact .of_bills e
  · obtain ⟨x, hx, hxk⟩ := h.2.2 k (by rw [hk]; exact List.mem_cons_self)
    exact absurd hxk (group?_eq_none_iff.1 hg x hx)
  · rw [e]
    obtain rfl := group?_key hg
    have hmem := mem_of_group? hg
    have hheld : g.key ∈ p.link.held.results := by rw [hk]; exact List.mem_cons_self
    have hnodup := h.2.1
    rw [hk] at hnodup
    exact dropGroup_settles _ hmem (h.closed_of_held hmem hheld) (by rw [hk]; exact List.sublist_cons_self ..)
      (List.nodup_cons.1 hnodup).1 fun ha => ha.2.2.2.2.2.2 g hmem hheld

theorem endSending_bills (p : Part) : p.endSending.bills = p.bills := rfl

theorem transmissionDone_settles (h : p.transmissionDone = some q) : Settles d Unhurt Unhurt p q := by
  unfold Part.transmissionDone at h
  split at h
  · cases h
    exact (Settles.of_bills (endSending_bills p)).trans (handOut_settles _)
  · cases h

/-! ### The rest of an event -/

theorem internal_keeps (h : p.internal = some q) : KeepsBills p q := by
  rcases internal_cases h with
    loaded | drained | runOut | ejected | resolved | freed | truncated | admitted | broken
    | picked | unfed | orphan | stop | purge | live | locked | recovered
  · exact (pendingLoadApplied_settles loaded).keepsBills
  · exact (drainEnd_settles drained).keepsBills
  · exact (runoutEnd_settles runOut).keepsBills
  · exact (setEjectStart_settles ejected).keepsBills
  · exact (groupResolution_settles resolved).keepsBills
  · exact (stallEnd_settles freed).keepsBills
  · exact headTruncation_keeps truncated
  · exact groupAdmission_keeps admitted
  · exact brokenFromStart_keeps broken
  · exact furtherOrderPick_keeps picked
  · exact discardedAsUnfed_keeps unfed
  · exact orphanTaken_keeps orphan
  · exact (stopTaken_settles stop).keepsBills
  · exact (purgeTaken_settles purge).keepsBills
  · exact (liveLoadTaken_settles live).keepsBills
  · exact (lockedLoadTaken_settles locked).keepsBills
  · exact (recoveryEnd_settles recovered).keepsBills

theorem settle_keeps (p : Part) : KeepsBills p p.settle :=
  settleIn_keeps (fun _ _ h e => h.trans (internal_keeps e)) p.fuel p (.refl p)

theorem updateWaits_bills (p : Part) : p.updateWaits.bills = p.bills := by
  unfold Part.updateWaits
  dsimp only
  split <;> rfl

theorem attend_bills (p : Part) : p.attend.bills = p.bills := by
  unfold Part.attend
  dsimp only
  split
  · exact (occur_bills p.updateWaits.noticed _ _ _).trans (updateWaits_bills p)
  · exact updateWaits_bills p

theorem beginSending_bills (p : Part) : p.beginSending.bills = p.bills := by
  unfold Part.beginSending
  split
  · split <;> rfl
  · rfl

theorem finish_bills (p : Part) : p.finish.bills = p.bills :=
  (beginSending_bills _).trans ((attend_bills _).trans (attend_bills p))

theorem close_keeps (p : Part) : KeepsBills p p.close := (settle_keeps p).congr (finish_bills _)

end
end Sys2Proof.Machine

namespace Sys2Proof.Machine

section
variable {p q r : Part} {d : Bool} {hurt hurt' : GroupKey → Prop}

theorem Settles.attempt {e : Part → Option Part} (h : ∀ q, e p = some q → Settles d hurt hurt p q) :
    Settles d hurt hurt p (p.attempt e) := by
  unfold Part.attempt
  cases he : e p with
  | none => exact .refl p
  | some q => exact h q he

/-! ### Faults and transport states (R99, R162, R165) -/

theorem reportFault_bills (p : Part) (x : FaultRecord) : (p.reportFault x).bills = p.bills := by
  unfold Part.reportFault
  split <;> rfl

theorem enterStopped_settles (p : Part) (x : TransportState) : Settles d hurt hurt p (p.enterStopped x) :=
  (discardSampling_settles p).congr rfl

theorem raise_settles (p : Part) (k : FaultKind) (x : Option Station) (a b : Option Half) :
    Settles d hurt hurt p (p.raise k x a b) := by
  unfold Part.raise
  split
  · exact .of_bills rfl
  · exact .since (enterStopped_settles _ _) (reportFault_bills { p with ctl := _ } _)

theorem raiseFor_settles (p : Part) (k : FaultKind) (x : Station) (s : Sheet) :
    Settles d hurt hurt p (p.raiseFor k x s) := raise_settles ..

theorem testPurgeDoor_settles (p : Part) : Settles d hurt hurt p p.testPurgeDoor := by
  unfold Part.testPurgeDoor
  split
  · exact raise_settles ..
  · exact .refl p

theorem testResidue_settles (p : Part) : Settles d hurt hurt p p.testResidue := by
  unfold Part.testResidue
  split
  · exact raise_settles ..
  · exact .refl p

theorem startControl_settles (p : Part) : Settles d hurt hurt p p.startControl := by
  unfold Part.startControl
  split
  · split
    · exact .since (testPurgeDoor_settles _) rfl
    · exact .of_bills (occur_bills p _ _ _)
  · exact .refl p
  · exact .refl p
  all_goals exact .of_bills (occur_bills p _ _ _)

theorem haltControl_settles (p : Part) : Settles d hurt hurt p p.haltControl := by
  unfold Part.haltControl
  split
  case h_7 | h_8 | h_9 => exact .of_bills (occur_bills p _ _ _)
  all_goals exact raise_settles ..

theorem openCover_settles (p : Part) : Settles d hurt hurt p p.openCover := by
  unfold Part.openCover
  dsimp only
  split
  · exact .since (raise_settles ..) rfl
  · exact .of_bills rfl

theorem openPurge_settles (p : Part) : Settles d hurt hurt p p.openPurge := by
  have hdoor : Part.bills (if p.stacker.purgeDoorOpen then { p with stacker := { p.stacker with purgeDoorOpen := true } }
      else Part.notice { p with stacker := { p.stacker with purgeDoorOpen := true } }) = p.bills := by split <;> rfl
  unfold Part.openPurge
  dsimp only
  split
  · exact .since (raise_settles ..) hdoor
  · exact .of_bills hdoor

theorem closePurge_bills (p : Part) : p.closePurge.bills = p.bills := by
  unfold Part.closePurge
  dsimp only
  split <;> rfl

theorem clearPowerWarn_settles (p : Part) : Settles d hurt hurt p p.clearPowerWarn := by
  unfold Part.clearPowerWarn
  dsimp only
  split
  · exact .since (enterStandby_settles _) rfl
  · exact .of_bills rfl

theorem warmupEnd_settles (h : p.warmupEnd = some q) : Settles d hurt hurt p q := by
  unfold Part.warmupEnd at h
  split at h
  · cases h
    exact .of_bills (armWatch_bills _)
  · cases h

theorem runEndReached_settles (h : p.runEndReached = some q) : Settles d hurt hurt p q := by
  unfold Part.runEndReached at h
  split at h
  · cases h
    exact .since (.attempt fun _ => recoveryEnd_settles) rfl
  · cases h

theorem drainForCadence_bills (p : Part) : p.drainForCadence.bills = p.bills := by
  unfold Part.drainForCadence
  split
  · rfl
  · split <;> rfl
  · rfl

theorem drainForCadence_notice_bills (p : Part) : p.drainForCadence.notice.bills = p.bills := drainForCadence_bills p

theorem cadenceLoss_settles (h : p.cadenceLoss = some q) : Settles d Unhurt Unhurt p q := by
  unfold Part.cadenceLoss at h
  split at h
  · cases h
    exact .since ((breakOpen_settles .cadence).congr (drainForCadence_notice_bills _)) rfl
  · cases h

/-! ### The receive side (R175, R177, R178) -/

theorem dropped_settles (p : Part) (x : StreamFault) : Settles d Unhurt Unhurt p (p.dropped x) :=
  (Settles.of_bills (occur_bills p _ _ _)).trans (breakOpen_settles _)

theorem enqueue_settles (p : Part) (x : Queued) : Settles d Unhurt Unhurt p (p.enqueue x) := by
  unfold Part.enqueue
  split
  · exact dropped_settles p _
  · exact .of_bills rfl

theorem toHunt_settles (p : Part) : Settles d hurt hurt p p.toHunt := .of_bills rfl

theorem takeLoad_settles (p : Part) (l : LoadRecord) : Settles d Unhurt Unhurt p (p.takeLoad l) := by
  unfold Part.takeLoad
  split
  · exact (toHunt_settles p).trans (enqueue_settles _ _)
  · exact (toHunt_settles p).trans (dropped_settles _ _)

theorem emptyBin_bills {b : BinId} (h : p.emptyBin b = some q) : q.bills = p.bills := by
  unfold Part.emptyBin at h
  split at h
  · cases h
  · dsimp only at h
    split at h
    · cases h
    · split at h
      · cases h
      · split at h
        · cases h
          exact setBin_bills p b _
        · split at h
          · cases h
            exact setBin_bills p b _
          · cases h

theorem binEmptied_bills (p : Part) (n : Byte) : (p.binEmptied n).bills = p.bills := by
  unfold Part.binEmptied
  split
  · rename_i q hq
    obtain ⟨b, -, hq⟩ := Option.bind_eq_some_iff.1 hq
    exact emptyBin_bills hq
  · exact occur_bills p _ _ _

theorem closeBin_bills (p : Part) (b : BinId) : (p.closeBin b).bills = p.bills := by
  unfold Part.closeBin
  split
  · exact setBin_bills p b _
  · exact setBin_bills { p with freeIndex := p.freeIndex + 1 } b _

/-! ### The Tray Feeders (R46, R52, R53) -/

theorem setTrayState_bills (p : Part) (t : TrayId) (x : TrayState) : (p.setTrayState t x).bills = p.bills := by
  unfold Part.setTrayState
  split <;> rfl

theorem moveOn_settles (s : Sheet) : Settles d hurt hurt p (p.moveOn s) := by
  unfold Part.moveOn
  split
  · split
    · exact moveTo_settles s _
    · exact .refl p
  · exact .refl p

theorem openDrawer_settles (p : Part) (t : TrayId) : Settles d hurt hurt p (p.openDrawer t) := by
  have hopen : ∀ f, ((p.mapFeeder t f).setTrayState t .opened).bills = p.bills := fun f => setTrayState_bills _ _ _
  unfold Part.openDrawer
  dsimp only
  split
  · split
    · exact (Settles.of_bills (hopen _)).trans (moveOn_settles _)
    · exact .of_bills (hopen _)
  · exact .of_bills (hopen _)

theorem closeDrawer_bills (p : Part) (t : TrayId) : (p.closeDrawer t).bills = p.bills := by
  unfold Part.closeDrawer
  dsimp only
  split
  · exact setTrayState_bills (p.mapFeeder t _) _ _
  · rfl

theorem paperEdge_bills (p : Part) (t : TrayId) (x : PaperSensor) (b : Bool) : (p.paperEdge t x b).bills = p.bills :=
  setTrayState_bills (p.mapFeeder t _) _ _

theorem misfeed_settles (p : Part) (t : TrayId) (s : Sheet) : Settles d hurt hurt p (p.misfeed t s) := by
  have hfeeder : ∀ f, Settles d hurt hurt p (p.mapFeeder t f) := fun f => .of_bills rfl
  unfold Part.misfeed
  dsimp only
  split
  · split
    · exact Settles.congr ((hfeeder _).trans (mapSheet_settles_same s.seq
        (f := fun r => { r with attempts := r.attempts + 1 }) (fun _ => rfl) (fun _ => rfl) (fun _ => rfl) (fun _ => rfl)
        fun _ => id)) (requestPick_bills _ t)
    · exact ((hfeeder _).congr (setTrayState_bills _ _ _)).trans (moveOn_settles s)
  · exact (hfeeder _).trans (moveOn_settles s)

theorem pickDeadline_settles {t : TrayId} (h : p.pickDeadline t = some q) : Settles d hurt hurt p q := by
  unfold Part.pickDeadline at h
  dsimp only at h
  split at h
  · split at h
    · cases h
      exact misfeed_settles p t _
    · cases h
  · cases h

/-! ### The staging sensors (R51, R56, R57) -/

theorem Sheet.Bound.uncovered {s : Sheet} (q : Sensor) (h : s.Bound) :
    Sheet.Bound { s with covered := s.covered.filter fun e => !(e.station == q) } := by
  obtain ⟨hd, he, hi, hc, hw⟩ := h
  refine ⟨hd, he, hi, ?_, hw⟩
  unfold Sheet.coversAt at *
  rw [List.any_eq_false] at *
  exact fun e hm => hc e (List.mem_filter.1 hm).1

theorem uncover_settles (p : Part) (n : Half) (x : Sensor) : Settles d hurt hurt p (p.uncover n x) :=
  mapSheet_settles_same n (fun _ => rfl) (fun _ => rfl) (fun _ => rfl) (fun _ => rfl) fun _ => .uncovered x

theorem stagingCovered_settles (p : Part) (t : TrayId) : Settles d hurt hurt p (p.stagingCovered t) := by
  have hlevel : Settles d hurt hurt p (p.setStagingLevel t true) := .of_bills rfl
  unfold Part.stagingCovered
  dsimp only
  split
  · have hfeeder : ∀ f, Settles d hurt hurt p ((p.setStagingLevel t true).mapFeeder t f) := fun f => .of_bills rfl
    split
    · exact (hfeeder _).trans (mapSheet_settles _ (fun _ => rfl) (fun _ => rfl) (fun _ _ _ _ => rfl) (fun _ _ _ => id)
        fun _ _ _ _ => id)
    · exact hfeeder _
  · split
    · exact .of_bills rfl
    · split
      · exact hlevel.trans (raise_settles ..)
      · split
        · exact hlevel.trans (raise_settles ..)
        · exact .of_bills rfl

theorem stagingUncovered_settles (p : Part) (t : TrayId) : Settles d hurt hurt p (p.stagingUncovered t) := by
  have hlevel : Settles d hurt hurt p (p.setStagingLevel t false) := .of_bills rfl
  have hanomaly : Settles d hurt hurt p (p.setStagingLevel t false).anomaly := .of_bills rfl
  unfold Part.stagingUncovered
  dsimp only
  split
  · split
    · split
      · exact hlevel.trans (raiseFor_settles ..)
      · exact (hlevel.trans (uncover_settles _ _ (.st t))).congr rfl
    · exact hanomaly
  · split
    · split
      · exact hlevel.trans (raiseFor_settles ..)
      · exact hanomaly
    · exact hanomaly

/-! ### Path deadlines and the gauge (R87, R90, R95, R97) -/

theorem Sheet.Bound.unwindowed {s : Sheet} (h : s.Bound) : Sheet.Bound { s with window := none } :=
  ⟨h.1, h.2.1, h.2.2.1, h.2.2.2.1, nofun⟩

theorem lateLimit_settles {n : Half} (h : Part.lateLimit n p = some q) : Settles d hurt hurt p q := by
  unfold Part.lateLimit at h
  split at h
  · split at h
    · cases h
    · split at h
      · cases h
      · split at h
        · cases h
          exact (mapSheet_settles_same n (f := fun r => { r with window := none }) (fun _ => rfl) (fun _ => rfl)
            (fun _ => rfl) (fun _ => rfl) fun _ => Sheet.Bound.unwindowed).trans (raiseFor_settles ..)
        · cases h
  · cases h

theorem stallAt_settles {n : Half} {x : Sensor} (h : Part.stallAt n x p = some q) : Settles d hurt hurt p q := by
  unfold Part.stallAt at h
  split at h
  · split at h
    · cases h
    · split at h
      · cases h
        exact raiseFor_settles ..
      · cases h
  · cases h

theorem gateRelease_bills {g : Gate} {n : Half} (h : Part.gateRelease g n p = some q) : q.bills = p.bills := by
  unfold Part.gateRelease at h
  dsimp only at h
  split at h
  · cases h
    rfl
  · cases h

theorem sampling_settles (n : Half) (x : Sampling) :
    Settles d hurt hurt p (p.mapSheet n fun r => { r with sampling := x }) :=
  mapSheet_settles_same n (fun _ => rfl) (fun _ => rfl) (fun _ => rfl) (fun _ => rfl) fun _ => id

theorem anomaly_bills (p : Part) : p.anomaly.bills = p.bills := rfl

theorem gauge_bills (p : Part) (g : Option (Half × Nat)) (m : Message) :
    (Part.send { p with track := { p.track with gauge := g } } m).bills = p.bills := rfl

theorem conversionStart_settles {n : Half} (h : Part.conversionStart n p = some q) : Settles d hurt hurt p q := by
  unfold Part.conversionStart at h
  split at h
  · split at h
    · cases h
    · split at h
      · rename_i values _ rest _
        split at h
        · split at h
          · cases h
            exact (sampling_settles n (.sampling values rest)).congr (gauge_bills _ _ _)
          · cases h
            exact (sampling_settles n .abandoned).congr (anomaly_bills _)
        · cases h
      · cases h
  · cases h

/-! ### Answers, the loop and the eject limit (R110, R112, R120, R121, R137) -/

theorem setCue_same (s : Sheet) (side : Side) (c : CueState) : (s.setCue side c).seq = s.seq
    ∧ (s.setCue side c).group = s.group ∧ (s.setCue side c).state = s.state
    ∧ (s.setCue side c).destination = s.destination ∧ (s.Bound → (s.setCue side c).Bound) := by
  cases side <;> exact ⟨rfl, rfl, rfl, rfl, id⟩

theorem setCue_settles (n : Half) (side : Side) (c : CueState) :
    Settles d hurt hurt p (p.mapSheet n fun s => s.setCue side c) :=
  mapSheet_settles_same n (fun s => (setCue_same s side c).1) (fun s => (setCue_same s side c).2.1)
    (fun s => (setCue_same s side c).2.2.1) (fun s => (setCue_same s side c).2.2.2.1)
    fun s => (setCue_same s side c).2.2.2.2

theorem readyAnswer_settles (p : Part) (n : Half) (side : Side) : Settles d hurt hurt p (p.readyAnswer n side) := by
  unfold Part.readyAnswer
  split
  · exact .since (setCue_settles n side .ready) rfl
  · exact .of_bills rfl

theorem parked_bills (p : Part) : p.parked.bills = p.bills := by
  unfold Part.parked
  split <;> rfl

theorem parkDeadline_settles (h : p.parkDeadline = some q) : Settles d hurt hurt p q := by
  unfold Part.parkDeadline at h
  split at h
  · split at h
    · cases h
    · dsimp only at h
      split at h
      · cases h
        exact .since (raiseFor_settles ..) rfl
      · cases h
        exact .since (raise_settles ..) rfl
  · cases h

/-- The eject record changed in its deadline or status. -/
theorem ejectRecord_settles {x : Option Eject} (hnone : x.isSome = p.acc.eject.isSome)
    (hsome : ∀ e, x = some e → ∃ e', p.acc.eject = some e' ∧ e.target = e'.target ∧ e.count = e'.count) :
    Settles d hurt hurt p { p with acc := { p.acc with eject := x } } where
  groups := id
  account _ ha := by
    obtain ⟨hcount, hnodup, hentry, hset, hsetGroup, heject, hheld⟩ := ha
    refine ⟨hcount, hnodup, hentry, hset, hsetGroup, fun e he => ?_, hheld⟩
    obtain ⟨e', he', -, hc⟩ := hsome e he
    rw [hc]
    exact heject e' he'
  whole _ _ hw := by
    refine ⟨fun g hg => ?_, hw.rooms, hw.room, hw.cadence⟩
    obtain ⟨hwhole, hhurt, hbroken, hany, heject⟩ := hw.entries g hg
    refine ⟨hwhole, fun hb hh => ⟨(hhurt hb hh).1, fun hx => (hhurt hb hh).2 (hnone ▸ hx)⟩, hbroken, hany, fun e he hs => ?_⟩
    obtain ⟨e', he', ht, -⟩ := hsome e he
    rw [ht]
    exact heject e' he' hs
  nextSeq _ _ := rfl
  seqs _ _ := List.Sublist.refl _
  length _ _ _ := rfl

theorem ejectTimeout_settles (h : p.ejectTimeout = some q) : Settles d hurt hurt p q := by
  unfold Part.ejectTimeout at h
  split at h
  · cases h
  · rename_i e he
    split at h
    · cases h
      refine (ejectRecord_settles (by rw [he]; rfl) fun x hx => ?_).trans (raise_settles ..)
      cases hx
      exact ⟨e, he, rfl, rfl⟩
    · cases h

theorem renewEject_settles (p : Part) : Settles d hurt hurt p p.renewEject := by
  refine ejectRecord_settles (Option.isSome_map ..) fun x hx => ?_
  obtain ⟨e, he, rfl⟩ := Option.map_eq_some_iff.1 hx
  refine ⟨e, he, ?_⟩
  split <;> exact ⟨rfl, rfl⟩

end
end Sys2Proof.Machine

namespace Sys2Proof.Machine

section
variable {p q r : Part} {d : Bool} {hurt hurt' : GroupKey → Prop}

/-! ### Sheets spoiled before their group is broken (R81, R98, R109, R111, R113) -/

/-- A record of the seq `n` is in the Sheet Track, of the group `k`. -/
def Part.HasSheet (p : Part) (n : Half) (k : GroupKey) : Prop := ∃ s ∈ p.track.sheets, s.seq = n ∧ s.group = k

theorem hasSheet_of_mem {s : Sheet} (h : s ∈ p.track.sheets) : p.HasSheet s.seq s.group := ⟨s, h, rfl, rfl⟩

theorem Part.HasSheet.mapSheet {n m : Half} {k : GroupKey} {f : Sheet → Sheet} (h : p.HasSheet n k)
    (hseq : ∀ s, (f s).seq = s.seq) (hgroup : ∀ s, (f s).group = s.group) : (p.mapSheet m f).HasSheet n k := by
  obtain ⟨s, hs, rfl, rfl⟩ := h
  refine ⟨_, List.mem_map_of_mem hs, ?_⟩
  split
  · exact ⟨hseq s, hgroup s⟩
  · exact ⟨rfl, rfl⟩

theorem Part.HasSheet.group_eq {n : Half} {k : GroupKey} (h : p.HasSheet n k) (ha : p.BillsAccounted) {s : Sheet}
    (hs : s ∈ p.track.sheets) (hn : s.seq = n) : s.group = k := by
  obtain ⟨x, hx, hxn, rfl⟩ := h
  rw [List.inj_on_of_nodup_map ha.2.1 hs hx (hn.trans hxn.symm)]

/-- A record spoiled hurts its group. -/
theorem spoilSheet_settles {n : Half} {k : GroupKey} (x : SpoilReason) (h : p.HasSheet n k) :
    Settles d hurt (fun j => hurt j ∨ j = k) p (p.spoilSheet n x) := by
  refine .of_accounted id fun _ ha => ?_
  have hwiden : Settles d hurt (fun j => hurt j ∨ j = k) p p := .change fun _ ha hw g hg hb =>
    ⟨.inl, fun e => e.imp id fun e => by
      obtain ⟨s, hs, -, hk⟩ := h
      exact whole_of_sheet ha hw hs hg (e.trans hk.symm) hb⟩
  exact hwiden.trans (mapSheet_settles n (fun _ => rfl) (fun _ => rfl) (fun _ _ _ => id) (fun _ _ _ _ => rfl)
    fun s hs hn hh => absurd (.inr (h.group_eq ha hs hn)) hh)

theorem spoilBreak_settles {n : Half} {k : GroupKey} (x : SpoilReason) (y : BreakReason) (h : p.HasSheet n k) :
    Settles d Unhurt Unhurt p ((p.spoilSheet n x).breakGroup k y) :=
  ((spoilSheet_settles x h).trans (breakGroup_settles_hurt y (.inr rfl))).hurt_congr fun _ =>
    ⟨False.elim, fun e => e.1.elim id fun e' => e.2 e'⟩

theorem missSide_settles {s : Sheet} (side : Side) (h : p.HasSheet s.seq s.group) :
    Settles d Unhurt Unhurt p (p.missSide s side) :=
  (setCue_settles s.seq side .missed).trans (spoilBreak_settles .imageMiss .image
    (h.mapSheet (fun s => (setCue_same s side .missed).1) fun s => (setCue_same s side .missed).2.1))

theorem evaluate_settles {s : Sheet} (m : Nat) (h : p.HasSheet s.seq s.group) :
    Settles d Unhurt Unhurt p (p.evaluate s m) := by
  have hmap : Settles d Unhurt Unhurt p
      (p.mapSheet s.seq fun r => { r with thickness := some (BitVec.ofNat 8 m), sampling := .idle }) :=
    mapSheet_settles_same s.seq (f := fun r => { r with thickness := some (BitVec.ofNat 8 m), sampling := .idle })
      (fun _ => rfl) (fun _ => rfl) (fun _ => rfl) (fun _ => rfl) fun _ => id
  unfold Part.evaluate
  dsimp only
  split
  · exact hmap.trans (raiseFor_settles ..)
  · split
    · exact hmap.trans (spoilBreak_settles .thin .media (h.mapSheet (fun _ => rfl) fun _ => rfl))
    · exact hmap

theorem conversionDone_settles (p : Part) (v : Byte) : Settles d Unhurt Unhurt p (p.conversionDone v) := by
  unfold Part.conversionDone
  split
  · exact .of_bills rfl
  · dsimp only
    split
    · exact .of_bills rfl
    · rename_i s hs
      have hmem := mem_of_sheet? hs
      split
      · exact (evaluate_settles _ (hasSheet_of_mem hmem)).since rfl
      · exact (sampling_settles s.seq _).since rfl
      · exact .of_bills rfl

theorem mapSheet_absent {n : Half} (f : Sheet → Sheet) (h : p.sheet? n = none) : p.mapSheet n f = p := by
  have hne : ∀ s ∈ p.track.sheets, ¬((s.seq == n) = true) := fun s hs => List.find?_eq_none.1 h s hs
  have hsame : (p.track.sheets.map fun s => if (s.seq == n) = true then f s else s) = p.track.sheets :=
    (List.map_congr_left fun s hs => if_neg (hne s hs)).trans (List.map_id _)
  unfold Part.mapSheet
  rw [hsame]

theorem declineAnswer_settles (p : Part) (n : Half) (side : Side) :
    Settles d Unhurt Unhurt p (p.declineAnswer n side) := by
  unfold Part.declineAnswer
  split
  · have hdrop : (p.dropCue n side).bills = p.bills := rfl
    dsimp only
    split
    · rename_i s hs
      have hmem := mem_of_sheet? hs
      obtain rfl := sheet?_seq hs
      refine Settles.since (q := p.dropCue s.seq side) ?_ hdrop
      have h : (p.dropCue s.seq side).HasSheet s.seq s.group := ⟨s, hmem, rfl, rfl⟩
      exact (setCue_settles s.seq side .declined).trans (spoilBreak_settles .imageDeclined .image
        (h.mapSheet (fun s => (setCue_same s side .declined).1) fun s => (setCue_same s side .declined).2.1))
    · rename_i hs
      have hnone : (p.dropCue n side).sheet? n = none := hs
      unfold Part.spoilSheet
      rw [mapSheet_absent _ hnone, mapSheet_absent _ hnone]
      exact .of_bills hdrop
  · exact .of_bills rfl

/-! ### Lead arrivals (R85, R86, R93, R94) -/

theorem setGd_bills (p : Part) (x : GdPosition) : (p.setGd x).bills = p.bills := by
  unfold Part.setGd
  split <;> rfl

theorem setGx_bills (p : Part) (x : Destination) : (p.setGx x).bills = p.bills := by
  unfold Part.setGx
  split <;> rfl

theorem cueAtRG_settles {s : Sheet} (h : p.HasSheet s.seq s.group) : Settles d Unhurt Unhurt p (p.cueAtRG s) := by
  unfold Part.cueAtRG
  dsimp only
  split
  · split
    · exact (setCue_settles s.seq _ .cued).congr rfl
    · exact missSide_settles _ h
  · exact .refl p

theorem beginSampling_settles (s : Sheet) : Settles d hurt hurt p (p.beginSampling s) := by
  unfold Part.beginSampling
  split
  · exact .refl p
  · exact sampling_settles s.seq _

theorem settleAtTR_settles {s : Sheet} (h : p.HasSheet s.seq s.group) : Settles d Unhurt Unhurt p (p.settleAtTR s) := by
  unfold Part.settleAtTR
  dsimp only
  split
  · have h' : (p.dropCue s.seq s.sideUp).HasSheet s.seq s.group := h
    exact (missSide_settles _ h').since rfl
  · exact .refl p

theorem decideGD_settles (s : Sheet) : Settles d hurt hurt p (p.decideGD s).1 := by
  by_cases h : p.gates.gdOccupants = [] ∨ p.gates.gd = s.gdNeed
  · rw [decideGD_taken h]
    refine (mapSheet_settles_same s.seq (f := s.decidedGD) (fun _ => rfl) (fun _ => rfl) (fun _ => rfl) (fun _ => rfl)
      fun r hr => ⟨hr.1, hr.2.1, ?_, hr.2.2.2⟩).since rfl
    show PathSensor.pg ∉ [if s.loops then PathSensor.dl else .xs]
    split <;> decide
  · rw [not_or] at h
    rw [decideGD_conflict h.1 h.2]
    exact raiseFor_settles ..

theorem decidedGX_settles {s : Sheet} (hs : ∃ x ∈ p.track.sheets, x.seq = s.seq ∧ x.destination = s.destination) :
    Settles d hurt hurt p (p.mapSheet s.seq s.decidedGX) := by
  refine .of_accounted id fun _ ha => mapSheet_settles s.seq (f := s.decidedGX) (fun _ => rfl) (fun _ => rfl)
    (fun _ _ _ => id) (fun _ _ _ => id) fun x hx hxs _ hr => ?_
  have hd : s.destination = .stack := by
    obtain ⟨y, hy, hys, hyd⟩ := hs
    rw [← hyd, ← List.inj_on_of_nodup_map ha.2.1 hx hy (hxs.trans hys.symm)]
    exact hr.1
  refine ⟨hr.1, ?_, ?_, hr.2.2.2⟩
  · show some s.destination ≠ some .purge
    rw [hd]
    decide
  · show PathSensor.pg ∉ [s.destination.station]
    rw [hd]
    decide

/-- The gate GX is decided by the record's own destination. -/
theorem decideGX_settles {s : Sheet} (hs : ∃ x ∈ p.track.sheets, x.seq = s.seq ∧ x.destination = s.destination) :
    Settles d hurt hurt p (p.decideGX s).1 := by
  by_cases h : p.gates.gxOccupants = [] ∨ p.gates.gx = s.destination
  · rw [decideGX_taken h]
    refine Settles.since (decidedGX_settles ?_) rfl
    exact hs
  · rw [not_or] at h
    rw [decideGX_conflict h.1 h.2]
    exact raiseFor_settles ..

theorem stationWork_settles {s : Sheet} (q : PathSensor) (h : p.HasSheet s.seq s.group)
    (hs : ∃ x ∈ p.track.sheets, x.seq = s.seq ∧ x.destination = s.destination) :
    Settles d Unhurt Unhurt p (p.stationWork s q).1 := by
  cases q with
  | rg => exact (cueAtRG_settles h).trans (beginSampling_settles s)
  | tr => exact settleAtTR_settles h
  | fx => exact decideGD_settles s
  | xs => exact decideGX_settles hs
  | ac =>
    unfold Part.stationWork
    dsimp only
    split
    · exact raiseFor_settles ..
    · exact .refl p
  | mg | dl | pg => exact .refl p

theorem openWindow_settles (n : Half) : Settles d hurt hurt p (p.openWindow n) := by
  refine mapSheet_settles_same n (fun _ => rfl) (fun _ => rfl) (fun _ => rfl) (fun _ => rfl) fun s hs =>
    ⟨hs.1, hs.2.1, hs.2.2.1, hs.2.2.2.1, fun w hw => ?_⟩
  obtain ⟨q, hq, rfl⟩ := Option.map_eq_some_iff.1 hw
  rintro rfl
  exact hs.2.2.1 (List.mem_of_head? hq)

theorem Sheet.Bound.arrived {s : Sheet} {q : PathSensor} (h : s.Bound) (hq : q ≠ .pg) : (p.arrivedAt q s).Bound := by
  obtain ⟨hd, he, hi, hc, -⟩ := h
  refine ⟨hd, he, fun e => hi (List.mem_of_mem_tail e), ?_, nofun⟩
  show (s.covered ++ [p.coverFor (.path q) s.length p.clock.tick]).any (fun e => e.station == .path .pg) = false
  rw [List.any_append, Bool.or_eq_false_iff]
  refine ⟨hc, ?_⟩
  rw [List.any_cons, List.any_nil, Bool.or_false, beq_eq_false_iff_ne]
  exact fun e => hq (by cases e; rfl)

/-- A lead arrival at the station where the record's window stands. -/
theorem leadArrival_settles {s : Sheet} {q : PathSensor} (hs : s ∈ p.track.sheets)
    (hq : (s.window.any fun w => w.station == q) = true) : Settles d Unhurt Unhurt p (p.leadArrival s q) := by
  have harrived : Settles d Unhurt Unhurt p (p.mapSheet s.seq (p.arrivedAt q)) := by
    refine .of_accounted id fun _ ha => mapSheet_settles s.seq (f := p.arrivedAt q) (fun _ => rfl) (fun _ => rfl)
      (fun _ _ _ => id) (fun _ _ _ => id) fun x hx hxs _ hb => hb.arrived fun e => ?_
    rw [List.inj_on_of_nodup_map ha.2.1 hx hs hxs] at hb
    obtain ⟨w, hw, hws⟩ := (Option.any_eq_true _ _).1 hq
    exact hb.2.2.2.2 w hw ((eq_of_beq hws).trans e)
  have hmem : p.arrivedAt q s ∈ (p.mapSheet s.seq (p.arrivedAt q)).track.sheets :=
    List.mem_map.2 ⟨s, hs, if_pos (beq_self_eq_true _)⟩
  have hwork : Settles d Unhurt Unhurt p (Part.stationWork (p.mapSheet s.seq (p.arrivedAt q)) s q).1 :=
    harrived.trans (stationWork_settles q ⟨_, hmem, rfl, rfl⟩ ⟨_, hmem, rfl, rfl⟩)
  rw [leadArrival_eq]
  split
  · exact hwork.trans (openWindow_settles s.seq)
  · exact hwork

theorem pathCovered_settles (p : Part) (q : PathSensor) : Settles d Unhurt Unhurt p (p.pathCovered q) := by
  have hlevel : (p.setPathLevel q true).bills = p.bills := rfl
  unfold Part.pathCovered
  dsimp only
  split
  · refine Settles.since ?_ hlevel
    unfold Part.matchArrival
    split
    · exact raise_settles ..
    · rename_i s hs
      obtain ⟨hmem, hwindow⟩ := List.mem_filter.1 (mem_of_lowestLaunch hs)
      split
      · exact raiseFor_settles ..
      · exact leadArrival_settles hmem hwindow
  · split
    · exact (raise_settles ..).since hlevel
    · exact .of_bills rfl

end
end Sys2Proof.Machine

namespace Sys2Proof.Machine

section
variable {p q r : Part} {d : Bool} {hurt hurt' : GroupKey → Prop}

/-! ### A record that leaves the Sheet Track (R104) -/

/-- The record of `s` leaves, with nothing else of the Sheet Track changed that the promises read. -/
structure Part.Leaves (p q : Part) (s : Sheet) : Prop where
  sheets : q.track.sheets = p.track.sheets.filter fun x => !(x.seq == s.seq)
  nextSeq : q.track.nextSeq = p.track.nextSeq

section
variable {s : Sheet}

theorem Part.Leaves.seqs (h : p.Leaves q s) :
    (q.track.sheets.map Sheet.seq).Sublist (p.track.sheets.map Sheet.seq) := by
  rw [h.sheets]
  exact List.filter_sublist.map _

theorem Part.Leaves.sheetsOf (h : p.Leaves q s) (j : GroupKey) :
    q.sheetsOf j = (p.sheetsOf j).filter fun x => !(x.seq == s.seq) := by
  unfold Part.sheetsOf
  rw [h.sheets, List.filter_comm]

theorem Part.Leaves.sheetsOf_other (h : p.Leaves q s) (hs : s ∈ p.track.sheets) (ha : p.BillsAccounted) {j : GroupKey}
    (hj : j ≠ s.group) : q.sheetsOf j = p.sheetsOf j := by
  rw [h.sheetsOf, List.filter_eq_self]
  intro x hx
  obtain ⟨hx, hxj⟩ := mem_sheetsOf.1 hx
  rw [Bool.not_eq_true', beq_eq_false_iff_ne]
  intro e
  rw [List.inj_on_of_nodup_map ha.2.1 hx hs e] at hxj
  exact hj hxj.symm

theorem Part.Leaves.length_own (h : p.Leaves q s) (hs : s ∈ p.track.sheets) (ha : p.BillsAccounted) :
    (q.sheetsOf s.group).length + 1 = (p.sheetsOf s.group).length := by
  have hmem : s.seq ∈ (p.sheetsOf s.group).map Sheet.seq := List.mem_map_of_mem (mem_sheetsOf.2 ⟨hs, rfl⟩)
  have hnodup : ((p.sheetsOf s.group).map Sheet.seq).Nodup := (List.filter_sublist.map _).nodup ha.2.1
  have hmap : (q.sheetsOf s.group).map Sheet.seq = ((p.sheetsOf s.group).map Sheet.seq).erase s.seq := by
    rw [h.sheetsOf, hnodup.erase_eq_filter, List.filter_map]
    rfl
  have hlen := congrArg List.length hmap
  rw [List.length_map, List.length_erase_of_mem hmem, List.length_map] at hlen
  have hpos := List.length_pos_of_mem (mem_sheetsOf.2 ⟨hs, rfl⟩ : s ∈ p.sheetsOf s.group)
  omega

/-- The account with a record gone from the path to another count of its group. -/
theorem Part.Leaves.billsAccounted {f : Group → Group} {g : Group} (h : p.Leaves q s) (hby : p.EntryBy q s.group f)
    (hacc : ∀ j, j ≠ s.group → q.acc.setGroup = some j ∨ p.acc.setGroup = some j → q.acc = p.acc)
    (hrooms : q.stacker.allowances = p.stacker.allowances) (hp : p.GroupsHold) (ha : p.BillsAccounted)
    (hs : s ∈ p.track.sheets) (hg : g ∈ p.groups.entries) (hk : g.key = s.group)
    (hsum : (f g).accepted = g.accepted ∧ (f g).inPath = g.inPath - 1 ∧ (f g).unfed = g.unfed
      ∧ (f g).inSet + (f g).delivered + (f g).purged + (f g).removed
        = g.inSet + g.delivered + g.purged + g.removed + 1)
    (hset : (f g).inSet = q.setOf s.group) (hsome : q.acc.setGroup.isSome = !q.acc.sheets.isEmpty)
    (heject : ∀ e, q.acc.eject = some e → e.count = q.acc.sheets.length ∧ q.acc.sheets ≠ []) : q.BillsAccounted := by
  obtain ⟨hcount, hpath, -⟩ := ha.1 g hg
  obtain ⟨h1, h2, h3, h4⟩ := hsum
  have hown := h.length_own hs ha
  rw [hk] at hpath
  refine hby.billsAccounted ⟨fun j => h.sheetsOf_other hs ha, hacc, by rw [hrooms]⟩ hp ha hg hk ⟨?_, ?_, hset⟩
    (h.seqs.nodup ha.2.1) hsome heject fun hr => ?_
  · omega
  · omega
  · have := (ha.2.2.2.2.2.2 g hg (hk ▸ hr)).1
    omega

end

/-! ### Removals (R104, R166, R172) -/

theorem removeSheet_leaves (p : Part) (s : Sheet) : p.Leaves (p.removeSheet s) s := ⟨rfl, rfl⟩

theorem removeSheet_entryBy (p : Part) (s : Sheet) : p.EntryBy (p.removeSheet s) s.group
    fun g => { g with inPath := g.inPath - 1, removed := g.removed + 1 } := ⟨fun _ => rfl, rfl, rfl, rfl⟩

theorem removeSheet_groupsHold (s : Sheet) (h : p.GroupsHold) : (p.removeSheet s).GroupsHold :=
  mapGroup_groupsHold s.group (f := fun g => { g with inPath := g.inPath - 1, removed := g.removed + 1 }) (fun _ => rfl)
    (fun _ => rfl) (fun _ => id) h

/-- A record removed hurts its group. -/
theorem removeSheet_settles {s : Sheet} (hs : s ∈ p.track.sheets) :
    Settles true hurt (fun j => hurt j ∨ j = s.group) p (p.removeSheet s) := by
  refine .of_accounted (removeSheet_groupsHold s) fun h ha => ?_
  obtain ⟨g, hg, hk⟩ := ha.2.2.1 s hs
  have hleaves := removeSheet_leaves p s
  have hby := removeSheet_entryBy p s
  have hset : g.inSet = p.setOf s.group := hk ▸ (ha.1 g hg).2.2
  refine ⟨removeSheet_groupsHold s, fun _ _ => ?_, fun _ _ hw => ?_, fun _ _ => rfl, fun _ _ => hleaves.seqs,
    fun _ _ => nofun⟩
  · refine hleaves.billsAccounted hby (fun _ _ _ => rfl) rfl h ha hs hg hk ⟨rfl, rfl, rfl, ?_⟩ hset ha.2.2.2.1
      ha.2.2.2.2.2.1
    exact (Nat.add_assoc _ _ _).symm
  · obtain ⟨hwhole, hhurt, hbroken, hany, heject⟩ := hw.entries g hg
    have hwas : g.state.broken = false → p.Whole g := whole_of_sheet ha hw hs hg hk
    have hsame : p.SameBut (p.removeSheet s) s.group := ⟨fun j => hleaves.sheetsOf_other hs ha, fun _ _ _ => rfl, rfl⟩
    refine hby.wholeBut hsame h hw hg hk (fun j hj => or_iff_left hj) ⟨fun _ hh => absurd (.inr hk) hh,
      fun hb _ => hwas hb, fun hb => ⟨(hbroken hb).1, fun x hx => ?_⟩, hany, heject⟩ hw.rooms
      (fun _ hm hak => hw.room_at (g := g) h hg hk hm hak)
      fun j hj => ⟨fun _ => hj, fun e => ⟨(hw.cadence_at (g := g) h hg hk hj e).1, .inl (.inr rfl)⟩⟩
    have hx : x ∈ (p.removeSheet s).sheetsOf g.key := hx
    rw [hleaves.sheetsOf] at hx
    exact (hbroken hb).2 x (List.mem_filter.1 hx).1

theorem removeSheets_groupsHold (l : List Sheet) : ∀ {p : Part}, p.GroupsHold → (p.removeSheets l).GroupsHold := by
  induction l with
  | nil => exact id
  | cons s l ih => exact fun h => ih (removeSheet_groupsHold s h)

theorem removeSheets_settles (l : List Sheet) : ∀ {p : Part} {hurt : GroupKey → Prop}, (∀ s ∈ l, s ∈ p.track.sheets) →
    (l.map Sheet.seq).Nodup → Settles true hurt (fun j => hurt j ∨ j ∈ l.map Sheet.group) p (p.removeSheets l) := by
  induction l with
  | nil => exact fun _ _ => .hurt_congr (.refl _) fun _ => or_iff_left (List.not_mem_nil)
  | cons s l ih =>
    intro p hurt hl hn
    obtain ⟨hne, hn⟩ := List.nodup_cons.1 hn
    refine ((removeSheet_settles (hl s List.mem_cons_self)).trans (ih (fun x hx => ?_) hn)).hurt_congr fun j => ?_
    · rw [(removeSheet_leaves p s).sheets, List.mem_filter, Bool.not_eq_true', beq_eq_false_iff_ne]
      exact ⟨hl x (List.mem_cons_of_mem _ hx), fun e => hne (e ▸ List.mem_map_of_mem hx)⟩
    · rw [List.map_cons, List.mem_cons, or_assoc]

/-- Records of the Sheet Track removed hurt their groups. -/
theorem removeSheets_settles_sublist {l : List Sheet} (hl : l.Sublist p.track.sheets) :
    Settles true hurt (fun j => hurt j ∨ j ∈ l.map Sheet.group) p (p.removeSheets l) :=
  .of_accounted (removeSheets_groupsHold l) fun _ ha =>
    removeSheets_settles l (fun _ hs => hl.subset hs) ((hl.map _).nodup ha.2.1)

/-- The runout's removals and breaks (R172). -/
theorem shedFresh_settles {l : List Sheet} (hl : l.Sublist p.track.sheets) :
    Settles true Unhurt Unhurt p (p.shedFresh l) := by
  refine (((removeSheets_settles_sublist hl).trans (breakOpen_settles .power)).trans
    (breakAll_settles (keys := l.map Sheet.group) .power fun _ _ _ g _ hk _ => .inl (.inr hk))).hurt_congr fun j => ?_
  exact ⟨False.elim, fun e => e.1.elim id e.2⟩

end
end Sys2Proof.Machine

namespace Sys2Proof.Machine

section
variable {p q r : Part} {d : Bool} {hurt hurt' : GroupKey → Prop}

/-! ### The runout (R172) -/

theorem enterRunout_settles (p : Part) : Settles true Unhurt Unhurt p p.enterRunout := by
  rw [enterRunout_eq]
  exact Settles.since (shedFresh_settles List.filter_sublist) rfl

theorem assertPowerWarn_settles (p : Part) : Settles true Unhurt Unhurt p p.assertPowerWarn := by
  unfold Part.assertPowerWarn
  dsimp only
  split
  case h_4 => exact .of_bills rfl
  all_goals exact Settles.since (enterRunout_settles _) rfl

/-! ### The set leaves the accumulator (R135, R136, R138) -/

/-- The accumulator is emptied, and `k`, the set's group, counts the set elsewhere. -/
structure Part.SetLeaves (p q : Part) (k : GroupKey) (f : Group → Group) : Prop where
  entry : p.EntryBy q k f
  set : p.acc.setGroup = some k
  track : q.track = p.track
  acc : q.acc = { setGroup := none, sheets := [], eject := none }

section
variable {k : GroupKey} {f : Group → Group} {g : Group}

theorem Part.SetLeaves.sheetsOf (h : p.SetLeaves q k f) (j : GroupKey) : q.sheetsOf j = p.sheetsOf j := by
  unfold Part.sheetsOf
  rw [h.track]

theorem Part.SetLeaves.sameBut (h : p.SetLeaves q k f)
    (hr : (q.stacker.allowances.filter fun a => !(a.group == k)) = p.stacker.allowances.filter fun a => !(a.group == k)) :
    p.SameBut q k where
  sheetsOf j _ := h.sheetsOf j
  acc j hj e := by
    rw [h.acc, h.set] at e
    exact absurd (e.resolve_left nofun) fun e => hj (Option.some.inj e).symm
  rooms := hr

theorem Part.BillsAccounted.inSet_eq (ha : p.BillsAccounted) (hg : g ∈ p.groups.entries)
    (hset : p.acc.setGroup = some g.key) : g.inSet = p.acc.sheets.length ∧ 1 ≤ g.inSet := by
  obtain ⟨-, -, hin⟩ := ha.1 g hg
  have hsome := ha.2.2.2.1
  unfold Part.setOf at hin
  rw [if_pos hset] at hin
  rw [hset, Option.isSome_some, eq_comm, Bool.not_eq_true', List.isEmpty_eq_false_iff, ← List.length_pos_iff] at hsome
  exact ⟨hin, hin ▸ hsome⟩

theorem Part.SetLeaves.billsAccounted (h : p.SetLeaves q k f) (hs : p.SameBut q k) (hp : p.GroupsHold)
    (ha : p.BillsAccounted) (hg : g ∈ p.groups.entries) (hk : g.key = k)
    (hsum : (f g).accepted = g.accepted ∧ (f g).inPath = g.inPath ∧ (f g).unfed = g.unfed ∧ (f g).inSet = 0
      ∧ (f g).delivered + (f g).purged + (f g).removed = g.inSet + g.delivered + g.purged + g.removed) :
    q.BillsAccounted := by
  obtain ⟨hcount, hpath, -⟩ := ha.1 g hg
  obtain ⟨h1, h2, h3, h4, h5⟩ := hsum
  refine h.entry.billsAccounted hs hp ha hg hk ⟨by omega, ?_, ?_⟩ (h.track ▸ ha.2.1) ?_ ?_ fun hr => ?_
  · rw [h2, h.sheetsOf, ← hk, hpath]
  · unfold Part.setOf
    rw [h.acc, h4]
    rfl
  · rw [h.acc]
    rfl
  · rw [h.acc]
    nofun
  · exact ⟨h2.trans (ha.2.2.2.2.2.2 g hg (hk ▸ hr)).1, h4⟩

end

theorem clearSet_settles (hset : p.acc.setGroup = none) : Settles d hurt hurt p p.clearSet := by
  refine .of_accounted id fun _ ha => .of_bills ?_
  have hsheets : p.acc.sheets = [] := by
    have := ha.2.2.2.1
    rw [hset, Option.isSome_none, eq_comm, Bool.not_eq_false', List.isEmpty_iff] at this
    exact this
  have heject : p.acc.eject = none := Option.eq_none_iff_forall_not_mem.2 fun e he => (ha.2.2.2.2.2.1 e he).2 hsheets
  have hacc : p.acc = { setGroup := none, sheets := [], eject := none } := by
    rw [← hset, ← heject, ← hsheets]
  unfold Part.clearSet Part.bills
  rw [hacc]

theorem removeSet_leaves {k : GroupKey} (h : p.acc.setGroup = some k) : p.SetLeaves p.removeSet k
    fun g => { g with inSet := g.inSet - p.acc.sheets.length, removed := g.removed + p.acc.sheets.length } := by
  unfold Part.removeSet
  rw [h]
  exact ⟨⟨fun _ => rfl, rfl, rfl, rfl⟩, h, rfl, rfl⟩

theorem removeSet_stacker (p : Part) : p.removeSet.stacker = p.stacker := by
  unfold Part.removeSet
  split <;> rfl

theorem removeSet_cadence (p : Part) : p.removeSet.arbiter = p.arbiter := by
  unfold Part.removeSet
  split <;> rfl

theorem removeSet_groupsHold (h : p.GroupsHold) : p.removeSet.GroupsHold := by
  unfold Part.removeSet
  split
  · exact h
  · rename_i k _
    exact mapGroup_groupsHold k
      (f := fun g => { g with inSet := g.inSet - p.acc.sheets.length, removed := g.removed + p.acc.sheets.length })
      (fun _ => rfl) (fun _ => rfl) (fun _ => id) h

/-- The set removed hurts its group. -/
theorem removeSet_settles : Settles d hurt (fun j => hurt j ∨ p.acc.sheets ≠ [] ∧ p.acc.setGroup = some j) p p.removeSet := by
  cases hset : p.acc.setGroup with
  | none =>
    refine Settles.hurt_congr ?_ fun j => or_iff_left fun e => nomatch e.2
    unfold Part.removeSet
    rw [hset]
    exact clearSet_settles hset
  | some k =>
    refine .of_accounted removeSet_groupsHold fun h ha => ?_
    have hleaves := removeSet_leaves hset
    have hsame := hleaves.sameBut (by rw [removeSet_stacker])
    obtain ⟨g, hg, rfl⟩ := ha.2.2.2.2.1 k hset
    obtain ⟨hin, hpos⟩ := ha.inSet_eq hg hset
    have hne : p.acc.sheets ≠ [] := List.length_pos_iff.1 (hin ▸ hpos)
    have htrack := hleaves.track
    refine ⟨removeSet_groupsHold, fun _ _ => ?_, fun _ _ hw => ?_, fun _ _ => by rw [htrack],
      fun _ _ => by rw [htrack], fun _ _ _ => by rw [htrack]⟩
    · refine hleaves.billsAccounted hsame h ha hg rfl ⟨rfl, rfl, rfl, ?_, ?_⟩ <;> dsimp only <;> omega
    · obtain ⟨hwhole, hhurt, hbroken, hany, -⟩ := hw.entries g hg
      have hnone : g.state.broken = false → g.delivered = 0 := fun hb => by
        by_cases hh : hurt g.key
        · exact (hhurt hb hh).1
        · obtain ⟨hsum, -⟩ := ha.1 g hg
          exact (hwhole hb hh).2.2.2.1.resolve_right fun e => by omega
      refine hleaves.entry.wholeBut hsame h hw hg rfl (fun j hj => or_iff_left fun e => hj (Option.some.inj e.2).symm)
        ⟨fun _ hh => absurd (.inr ⟨hne, rfl⟩) hh, fun hb _ => ⟨hnone hb, ?_⟩, fun hb => ?_, ?_, ?_⟩
        (by rw [removeSet_stacker]; exact hw.rooms) (fun a hm hak => hw.room_at (g := g) h hg rfl (removeSet_stacker p ▸ hm) hak)
        fun j hj => ?_
      · rw [hleaves.acc]
        nofun
      · rw [hleaves.sheetsOf]
        exact hbroken hb
      · rw [removeSet_stacker]
        exact hany
      · rw [hleaves.acc]
        nofun
      · rw [removeSet_cadence] at hj
        exact ⟨fun _ => hj, fun e => ⟨(hw.cadence_at (g := g) h hg rfl hj e).1, .inl (.inr ⟨hne, rfl⟩)⟩⟩

/-! ### CLEAR FAULT (R154, R166, R167) -/

theorem beforeSweep_bills (p : Part) : p.beforeSweep.bills = p.bills := by
  obtain ⟨m, e⟩ := beforeSweep_eq p
  rw [e]
  rfl

theorem mem_sweptGroups {j : GroupKey} : j ∈ p.sweptGroups ↔ j ∈ p.track.sheets.map Sheet.group
    ∨ p.ctl.sweepClass = some .stacker ∧ p.acc.sheets ≠ [] ∧ p.acc.setGroup = some j := by
  unfold Part.sweptGroups
  rw [List.mem_append]
  split
  · rename_i h
    rw [Option.mem_toList]
    exact or_congr_right ⟨fun e => ⟨h.1, h.2, e⟩, fun e => e.2.2⟩
  · rename_i h
    exact or_congr_right ⟨fun e => absurd e List.not_mem_nil, fun e => absurd ⟨e.1, e.2.1⟩ h⟩

/-- What the sweep takes hurts its groups. -/
theorem sweep_settles (p : Part) : Settles true Unhurt (fun j => j ∈ p.sweptGroups) p p.sweep := by
  have hacc := removeSheets_acc p.track.sheets p
  have hsheets := removeSheets_settles_sublist (hurt := Unhurt) (List.Sublist.refl p.track.sheets)
  unfold Part.sweep
  dsimp only
  split
  · rename_i hc
    refine (hsheets.trans removeSet_settles).hurt_congr fun j => ?_
    rw [mem_sweptGroups, hacc]
    exact ⟨fun e => e.imp .inr And.right, fun e => e.imp (fun e => e.resolve_left id) fun e => ⟨hc, e⟩⟩
  · rename_i hc
    refine hsheets.hurt_congr fun j => ?_
    rw [mem_sweptGroups]
    exact ⟨fun e => .inr (e.resolve_right fun e => hc e.1), fun e => .inl (e.resolve_left id)⟩

theorem jamBreaks_settles (l : List GroupKey) : Settles d (fun j => j ∈ l) Unhurt p (p.jamBreaks l) := by
  refine (breakAll_settles .jam fun h _ hw g hg hk hb => ?_).hurt_congr fun j =>
    ⟨False.elim, fun e => e.2 (List.mem_append_left _ e.1)⟩
  rcases List.mem_append.1 hk with hk | hk
  · exact .inl hk
  · exact .inr (whole_of_open hw hg ((h.open_iff hg).2 (Option.mem_toList.1 hk)) hb)

theorem recovering_settles (p : Part) : Settles true Unhurt Unhurt p p.recovering := by
  refine Settles.since (q := p.beforeSweep) ?_ (beforeSweep_bills p)
  exact (((sweep_settles _).trans (jamBreaks_settles _)).trans (renewEject_settles _)).congr rfl

theorem clearFaultControl_settles (p : Part) : Settles true Unhurt Unhurt p p.clearFaultControl := by
  rcases clearFaultControl_cases p with h | ⟨-, -, -, h⟩ <;> rw [h]
  · exact .of_bills (occur_bills p _ _ _)
  · exact ((recovering_settles p).trans (testResidue_settles _)).trans (testPurgeDoor_settles _)

end
end Sys2Proof.Machine

namespace Sys2Proof.Machine

section
variable {p q r : Part} {d : Bool} {hurt hurt' : GroupKey → Prop}

/-! ### Good trails at AC, PG and DL (R92, R119, R130, R149) -/

/-- The record joins the set (R130). -/
def Part.joined (p : Part) (s : Sheet) : Part :=
  let q := p.leaveTrack s.seq
  let q : Part := { q with acc := { q.acc with
    setGroup := if q.acc.sheets.isEmpty then some s.group else q.acc.setGroup
    sheets := q.acc.sheets ++ [⟨s.seq, s.tag⟩] } }
  q.mapGroup s.group fun g => { g with inPath := g.inPath - 1, inSet := g.inSet + 1 }

theorem joinSet_eq (p : Part) (s : Sheet) :
    p.joinSet s = if p.collides s.group then p.raiseFor .setCollision (.path .ac) s else p.joined s := rfl

theorem collides_false {k : GroupKey} (h : p.collides k = false) :
    p.acc.eject = none ∧ (p.acc.sheets = [] ∨ p.acc.setGroup = some k) := by
  unfold Part.collides at h
  rw [Bool.or_eq_false_iff] at h
  refine ⟨Option.not_isSome_iff_eq_none.1 (Bool.eq_false_iff.1 h.1), ?_⟩
  have h := h.2
  rw [Bool.and_eq_false_iff] at h
  exact h.imp (fun e => by simpa using e) fun e => by simpa using e

/-- While an unbroken group may gain a sheet its set is its own, or there is none (R129). -/
theorem joined_setGroup {s : Sheet} (ha : p.BillsAccounted) (h : p.collides s.group = false) :
    (p.joined s).acc.setGroup = some s.group ∧ (p.joined s).acc.sheets.length = p.setOf s.group + 1 := by
  obtain ⟨-, hset⟩ := collides_false h
  have hsome := ha.2.2.2.1
  refine ⟨?_, ?_⟩
  · show (if p.acc.sheets.isEmpty then some s.group else p.acc.setGroup) = _
    split
    · rfl
    · rename_i hne
      exact hset.resolve_left fun e => hne (by rw [e]; rfl)
  · show (p.acc.sheets ++ [_]).length = _
    unfold Part.setOf
    rw [List.length_append, List.length_singleton]
    rcases hset with e | e
    · rw [e] at hsome
      rw [if_neg (by rw [Option.isSome_eq_false_iff.1 hsome |> Option.isNone_iff_eq_none.1]; nofun), e]
      rfl
    · rw [if_pos e]

theorem joined_sameBut {s : Sheet} (hs : s ∈ p.track.sheets) (ha : p.BillsAccounted)
    (h : p.collides s.group = false) : p.SameBut (p.joined s) s.group := by
  have hleaves : p.Leaves (p.joined s) s := ⟨rfl, rfl⟩
  refine ⟨fun j => hleaves.sheetsOf_other hs ha, fun j hj e => ?_, rfl⟩
  rw [(joined_setGroup ha h).1] at e
  have hp := e.resolve_left fun e => hj (Option.some.inj e).symm
  rcases (collides_false h).2 with e | e
  · have := ha.2.2.2.1
    rw [e, hp] at this
    cases this
  · rw [e] at hp
    exact absurd (Option.some.inj hp).symm hj

theorem joined_account {s : Sheet} (hs : s ∈ p.track.sheets) (h : p.collides s.group = false) :
    KeepsAccount true p (p.joined s) := by
  have hgroups : p.GroupsHold → (p.joined s).GroupsHold :=
    mapGroup_groupsHold s.group (f := fun g => { g with inPath := g.inPath - 1, inSet := g.inSet + 1 }) (fun _ => rfl)
      (fun _ => rfl) (fun _ => id)
  have hleaves : p.Leaves (p.joined s) s := ⟨rfl, rfl⟩
  have hby : p.EntryBy (p.joined s) s.group fun g => { g with inPath := g.inPath - 1, inSet := g.inSet + 1 } :=
    ⟨fun _ => rfl, rfl, rfl, rfl⟩
  refine ⟨hgroups, fun hg ha => ?_, fun _ _ => rfl, fun _ _ => hleaves.seqs, fun _ _ => nofun⟩
  obtain ⟨g, hm, hk⟩ := ha.2.2.1 s hs
  obtain ⟨hset, hlen⟩ := joined_setGroup ha h
  refine hleaves.billsAccounted hby (joined_sameBut hs ha h).acc rfl hg ha hs hm hk ⟨rfl, rfl, rfl, ?_⟩ ?_ ?_ fun e he => ?_
  · dsimp only
    omega
  · have hin : g.inSet = p.setOf s.group := hk ▸ (ha.1 g hm).2.2
    unfold Part.setOf
    rw [if_pos hset, hlen, ← hin]
  · rw [hset]
    show true = !(p.acc.sheets ++ [_]).isEmpty
    simp
  · have he : p.acc.eject = some e := he
    rw [(collides_false h).1] at he
    cases he

/-- A fresh sheet stays fresh in the path when another leaves it. -/
theorem Part.Leaves.fresh_left {s : Sheet} (h : p.Leaves q s) (hs : s ∈ p.track.sheets) (ha : p.BillsAccounted)
    (hf : s.fresh = false) {k : GroupKey} (hk : ∃ x ∈ p.sheetsOf k, x.fresh = true) :
    ∃ x ∈ q.sheetsOf k, x.fresh = true := by
  obtain ⟨x, hx, hxf⟩ := hk
  refine ⟨x, ?_, hxf⟩
  rw [h.sheetsOf, List.mem_filter, Bool.not_eq_true', beq_eq_false_iff_ne]
  refine ⟨hx, fun e => ?_⟩
  rw [List.inj_on_of_nodup_map ha.2.1 (mem_sheetsOf.1 hx).1 hs e, hf] at hxf
  cases hxf

theorem joined_settles {s : Sheet} (hs : s ∈ p.track.sheets) (h : p.collides s.group = false) (hf : s.fresh = false) :
    Settles true Unhurt Unhurt p (p.joined s) := by
  have hacc := joined_account hs h
  have hleaves : p.Leaves (p.joined s) s := ⟨rfl, rfl⟩
  have hby : p.EntryBy (p.joined s) s.group fun g => { g with inPath := g.inPath - 1, inSet := g.inSet + 1 } :=
    ⟨fun _ => rfl, rfl, rfl, rfl⟩
  refine ⟨hacc.groups, hacc.account, fun hg ha hw => ?_, hacc.nextSeq, hacc.seqs, hacc.length⟩
  obtain ⟨g, hm, hk⟩ := ha.2.2.1 s hs
  obtain ⟨hwhole, -, hbroken, hany, -⟩ := hw.entries g hm
  have hless : ∀ {x}, x ∈ (p.joined s).sheetsOf g.key → x ∈ p.sheetsOf g.key := fun hx => by
    rw [hleaves.sheetsOf] at hx
    exact (List.mem_filter.1 hx).1
  refine hby.wholeBut (joined_sameBut hs ha h) hg hw hm hk (fun _ _ => Iff.rfl) ⟨fun hb hh => ?_, fun _ => False.elim,
    fun hb => ⟨(hbroken hb).1, fun x hx => (hbroken hb).2 x (hless hx)⟩, hany, fun e he => ?_⟩ hw.rooms
    (fun _ => hw.room_at (g := g) hg hm hk) fun j hj => ⟨fun _ => hj, fun e => ?_⟩
  · obtain ⟨hp, hr, hu, hd, hbound⟩ := hwhole hb hh
    exact ⟨hp, hr, hu, hd, fun x hx => hbound x (hless hx)⟩
  · have he : p.acc.eject = some e := he
    rw [(collides_false h).1] at he
    cases he
  · obtain ⟨hyb, hyc⟩ := hw.cadence_at (g := g) hg hm hk hj e
    exact ⟨hyb, hyc.imp id (Or.imp id (hleaves.fresh_left hs ha hf))⟩

theorem joinSet_account {s : Sheet} (hs : s ∈ p.track.sheets) : KeepsAccount true p (p.joinSet s) := by
  rw [joinSet_eq]
  split
  · exact (raiseFor_settles (hurt := Unhurt) ..).toAccount
  · rename_i h
    exact joined_account hs (Bool.eq_false_iff.2 h)

theorem joinSet_settles {s : Sheet} (hs : s ∈ p.track.sheets) (hf : s.fresh = false) :
    Settles true Unhurt Unhurt p (p.joinSet s) := by
  rw [joinSet_eq]
  split
  · exact raiseFor_settles ..
  · rename_i h
    exact joined_settles hs (Bool.eq_false_iff.2 h) hf

theorem landInPurge_entryBy (p : Part) (s : Sheet) : p.EntryBy (p.landInPurge s) s.group
    fun g => { g with inPath := g.inPath - 1, purged := g.purged + 1 } := ⟨fun _ => rfl, rfl, rfl, rfl⟩

theorem landInPurge_leaves (p : Part) (s : Sheet) : p.Leaves (p.landInPurge s) s := ⟨rfl, rfl⟩

theorem landInPurge_account {s : Sheet} (hs : s ∈ p.track.sheets) : KeepsAccount true p (p.landInPurge s) := by
  refine ⟨mapGroup_groupsHold s.group (f := fun g => { g with inPath := g.inPath - 1, purged := g.purged + 1 })
    (fun _ => rfl) (fun _ => rfl) (fun _ => id), fun hg ha => ?_, fun _ _ => rfl,
    fun _ _ => (landInPurge_leaves p s).seqs, fun _ _ => nofun⟩
  obtain ⟨g, hm, hk⟩ := ha.2.2.1 s hs
  refine (landInPurge_leaves p s).billsAccounted (landInPurge_entryBy p s) (fun _ _ _ => rfl) rfl hg ha hs hm hk
    ⟨rfl, rfl, rfl, ?_⟩ (hk ▸ (ha.1 g hm).2.2) ha.2.2.2.1 ha.2.2.2.2.2.1
  dsimp only
  omega

/-- A sheet of a broken group lands in the purge bin. -/
theorem landInPurge_settles {s : Sheet} (hs : s ∈ p.track.sheets) (hb : p.BrokenAt s.group) :
    Settles true Unhurt Unhurt p (p.landInPurge s) := by
  have hacc := landInPurge_account hs
  have hleaves := landInPurge_leaves p s
  refine ⟨hacc.groups, hacc.account, fun hg ha hw => ?_, hacc.nextSeq, hacc.seqs, hacc.length⟩
  obtain ⟨g, hm, hk⟩ := ha.2.2.1 s hs
  obtain ⟨-, -, hbroken, hany, heject⟩ := hw.entries g hm
  have hgb := hb g hm hk
  have hnot : ∀ {P : Prop}, g.state.broken = false → P := fun e => by rw [hgb] at e; cases e
  refine (landInPurge_entryBy p s).wholeBut ⟨fun j => hleaves.sheetsOf_other hs ha, fun _ _ _ => rfl, rfl⟩ hg hw hm hk
    (fun _ _ => Iff.rfl) ⟨hnot, hnot, fun hb => ⟨(hbroken hb).1, fun x hx => (hbroken hb).2 x ?_⟩, hany, heject⟩ hw.rooms
    (fun _ => hw.room_at (g := g) hg hm hk) fun j hj => ⟨fun _ => hj, fun e => hnot (hw.cadence_at (g := g) hg hm hk hj e).1⟩
  have hx : x ∈ (p.landInPurge s).sheetsOf g.key := hx
  rw [hleaves.sheetsOf] at hx
  exact (List.mem_filter.1 hx).1

theorem handOver_bills (p : Part) (s : Sheet) : (p.handOver s).bills
    = (p.mapSheet s.seq fun r => { r with state := .looped, window := none, covered := [] }).bills := rfl

theorem handOver_account (s : Sheet) : KeepsAccount d p (p.handOver s) :=
  (mapSheet_account s.seq (f := fun r => { r with state := .looped, window := none, covered := [] }) (fun _ => rfl)
    fun _ => rfl).trans (.of_bills (handOver_bills p s))

theorem handOver_settles {s : Sheet} (hs : s ∈ p.track.sheets) (hf : s.fresh = false) :
    Settles d hurt hurt p (p.handOver s) := by
  refine .of_whole (handOver_account s) fun _ ha _ => Settles.congr ?_ (handOver_bills p s)
  refine mapSheet_settles s.seq (f := fun r => { r with state := .looped, window := none, covered := [] })
    (fun _ => rfl) (fun _ => rfl) (fun x hx hxs hxf => ?_) (fun _ _ _ => id) fun x _ _ _ hb =>
      ⟨hb.1, hb.2.1, hb.2.2.1, rfl, nofun⟩
  rw [List.inj_on_of_nodup_map ha.2.1 hx hs hxs, hf] at hxf
  cases hxf

theorem cleared_account {s : Sheet} (x : PathSensor) (hs : s ∈ p.track.sheets) :
    KeepsAccount true p (p.cleared s x) := by
  cases x with
  | dl => exact handOver_account s
  | ac => exact joinSet_account hs
  | pg => exact landInPurge_account hs
  | mg | rg | tr | fx | xs => exact .of_bills rfl

theorem cleared_settles {s : Sheet} (x : PathSensor) (hs : s ∈ p.track.sheets) (hf : s.fresh = false)
    (hb : x = .pg → p.BrokenAt s.group) : Settles true Unhurt Unhurt p (p.cleared s x) := by
  cases x with
  | dl => exact handOver_settles hs hf
  | ac => exact joinSet_settles hs hf
  | pg => exact landInPurge_settles hs (hb rfl)
  | mg | rg | tr | fx | xs => exact .of_bills rfl

end
end Sys2Proof.Machine

namespace Sys2Proof.Machine

section
variable {p q r : Part} {d : Bool} {hurt hurt' : GroupKey → Prop}

/-! ### EJECT DONE (R132, R135, R136) -/

theorem clearSet_bills (p : Part) :
    p.clearSet.bills = { p.bills with acc := { setGroup := none, sheets := [], eject := none } } := rfl

/-- The entry of a group whose set of `e` has been delivered to the bin `b`. -/
def Group.deliveredBy (e : Eject) (b : BinId) (g : Group) : Group :=
  { g with inSet := g.inSet - e.count, delivered := g.delivered + e.count, bin := some b, jog := some e.jog }

/-- A delivery, but for the bin. -/
def Part.delivering (p : Part) (e : Eject) (b : BinId) (k : GroupKey) : Part :=
  Part.clearSet { p.mapGroup k (Group.deliveredBy e b) with
    stacker := { p.stacker with allowances := p.stacker.allowances.filter fun a => !(a.group == k) } }

theorem deliver_bills {e : Eject} {b : BinId} {g : Group} (h : p.acc.setGroup.bind p.group? = some g) :
    (p.deliver e b).bills = (p.delivering e b g.key).bills := by
  unfold Part.deliver
  rw [h]
  dsimp only
  rw [setBin_eq]
  rfl

theorem setGroup_of_eject (ha : p.BillsAccounted) {e : Eject} (he : p.acc.eject = some e) :
    ∃ g, p.acc.setGroup = some g.key ∧ p.group? g.key = some g ∧ e.count = g.inSet ∧ 1 ≤ g.inSet := by
  obtain ⟨hcount, -, -, hsome, hsetGroup, heject, -⟩ := id ha
  obtain ⟨hc, hne⟩ := heject e he
  rw [List.isEmpty_eq_false_iff.2 hne, Bool.not_false] at hsome
  obtain ⟨k, hk⟩ := Option.isSome_iff_exists.1 hsome
  obtain ⟨x, hx, hxk⟩ := hsetGroup k hk
  cases hg : p.group? k with
  | none => exact absurd hxk (group?_eq_none_iff.1 hg x hx)
  | some g =>
    obtain rfl := group?_key hg
    obtain ⟨hin, hpos⟩ := ha.inSet_eq (mem_of_group? hg) hk
    exact ⟨g, hk, hg, hc.trans hin.symm, hpos⟩

theorem delivering_settles {e : Eject} {b : BinId} {g : Group} (hset : p.acc.setGroup = some g.key)
    (hg? : p.group? g.key = some g) (he : p.acc.eject = some e) (ht : e.target = .bin b) (hcount : e.count = g.inSet)
    (hpos : 1 ≤ g.inSet) : Settles d Unhurt Unhurt p (p.delivering e b g.key) := by
  have hg := mem_of_group? hg?
  have hleaves : p.SetLeaves (p.delivering e b g.key) g.key (Group.deliveredBy e b) :=
    ⟨⟨fun _ => rfl, rfl, rfl, rfl⟩, hset, rfl, rfl⟩
  have hsame : p.SameBut (p.delivering e b g.key) g.key := hleaves.sameBut (by
    refine (List.filter_filter ..).trans (List.filter_congr fun a _ => ?_)
    rw [Bool.and_self])
  refine ⟨mapGroup_groupsHold g.key (fun _ => rfl) (fun _ => rfl) fun _ => id, fun h ha => ?_, fun h ha hw => ?_,
    fun _ _ => rfl, fun _ _ => List.Sublist.refl _, fun _ _ _ => rfl⟩
  · refine hleaves.billsAccounted hsame h ha hg rfl ⟨rfl, rfl, rfl, ?_, ?_⟩ <;>
    · unfold Group.deliveredBy
      dsimp only
      omega
  · obtain ⟨hwhole, -, -, hany, heject⟩ := hw.entries g hg
    have hbin := heject e he hset
    rw [ht] at hbin
    obtain ⟨hs, hin, hb⟩ := hbin
    obtain ⟨hsum, hpath, -⟩ := ha.1 g hg
    have hnb : g.state.broken = false := by rw [hs]; rfl
    obtain ⟨hp, hr, hu, -, hbound⟩ := hwhole hnb id
    refine hleaves.entry.wholeBut hsame h hw hg rfl (fun _ _ => Iff.rfl) ⟨fun _ _ => ⟨hp, hr, hu, .inr ⟨hs, ?_⟩, ?_⟩,
      fun _ => False.elim, fun hb' : g.state.broken = true => ?_, ?_, nofun⟩ ((List.filter_sublist.map _).nodup hw.rooms)
      (fun a ha' hak => ?_) fun j hj => ⟨fun _ => hj, fun e => ?_⟩
    · show g.delivered + e.count = g.accepted
      omega
    · exact hbound
    · rw [hnb] at hb'
      cases hb'
    · refine filter_any_self.trans ?_
      show false = (!g.state.broken && (g.delivered + e.count == 0))
      rw [beq_eq_false_iff_ne.2 (by omega), Bool.and_false]
    · exact absurd hak (by simpa using (List.mem_filter.1 ha').2)
    · obtain ⟨-, hc⟩ := hw.cadence_at (g := g) h hg rfl hj e
      have hnone : p.sheetsOf g.key = [] := List.eq_nil_of_length_eq_zero (by omega)
      rw [hs, hnone] at hc
      rcases hc with hc | hc | ⟨x, hx, -⟩
      · exact hc.elim
      · cases hc
      · cases hx

theorem deliver_settles {e : Eject} {b : BinId} (he : p.acc.eject = some e) (ht : e.target = .bin b) :
    Settles d Unhurt Unhurt p (p.deliver e b) := by
  refine .of_accounted ?_ fun h ha => ?_
  · cases hg : p.acc.setGroup.bind p.group? with
    | none =>
      intro h
      unfold Part.deliver
      rw [hg]
      dsimp only
      rw [setBin_eq]
      exact h
    | some g =>
      rw [groupsHold_bills (p.deliver e b), deliver_bills hg]
      exact mapGroup_groupsHold g.key (f := Group.deliveredBy e b) (fun _ => rfl) (fun _ => rfl) fun _ => id
  · obtain ⟨g, hset, hg, hcount, hpos⟩ := setGroup_of_eject ha he
    exact (delivering_settles hset hg he ht hcount hpos).congr (deliver_bills (by rw [hset]; exact hg))

/-- The entry of a group whose set of `e` has landed in the purge bin. -/
def Group.purgedBy (e : Eject) (g : Group) : Group :=
  { g with inSet := g.inSet - e.count, purged := g.purged + e.count }

theorem landSet_leaves {e : Eject} {k : GroupKey} (h : p.acc.setGroup = some k) :
    p.SetLeaves (p.landSet e) k (Group.purgedBy e) := by
  unfold Part.landSet
  rw [h]
  exact ⟨⟨fun _ => rfl, rfl, rfl, rfl⟩, h, rfl, rfl⟩

theorem landSet_same (p : Part) (e : Eject) : (p.landSet e).stacker.allowances = p.stacker.allowances
    ∧ (p.landSet e).arbiter = p.arbiter := by
  unfold Part.landSet
  dsimp only
  split <;> exact ⟨rfl, rfl⟩

theorem landSet_groupsHold (e : Eject) (h : p.GroupsHold) : (p.landSet e).GroupsHold := by
  unfold Part.landSet
  dsimp only
  split
  · exact h
  · rename_i k _
    exact mapGroup_groupsHold k (f := Group.purgedBy e) (fun _ => rfl) (fun _ => rfl) (fun _ => id) h

theorem landSet_settles {e : Eject} (he : p.acc.eject = some e) (ht : e.target = .purge) :
    Settles d Unhurt Unhurt p (p.landSet e) := by
  refine .of_accounted (landSet_groupsHold e) fun h ha => ?_
  obtain ⟨g, hset, hg?, hcount, -⟩ := setGroup_of_eject ha he
  have hg := mem_of_group? hg?
  have hleaves := landSet_leaves (e := e) hset
  obtain ⟨hrooms, harb⟩ := landSet_same p e
  have hsame := hleaves.sameBut (by rw [hrooms])
  have htrack := hleaves.track
  refine ⟨landSet_groupsHold e, fun _ _ => ?_, fun _ _ hw => ?_, fun _ _ => by rw [htrack], fun _ _ => by rw [htrack],
    fun _ _ _ => by rw [htrack]⟩
  · refine hleaves.billsAccounted hsame h ha hg rfl ⟨rfl, rfl, rfl, ?_, ?_⟩ <;>
    · unfold Group.purgedBy
      dsimp only
      omega
  · obtain ⟨-, -, hbroken, hany, heject⟩ := hw.entries g hg
    have hb := heject e he hset
    rw [ht] at hb
    have hnot : ∀ {P : Prop}, g.state.broken = false → P := fun e => by rw [hb] at e; cases e
    refine hleaves.entry.wholeBut hsame h hw hg rfl (fun _ _ => Iff.rfl) ⟨hnot, hnot, fun hb => ?_, ?_, ?_⟩
      (by rw [hrooms]; exact hw.rooms) (fun a hm hak => hw.room_at (g := g) h hg rfl (hrooms ▸ hm) hak) fun j hj => ?_
    · rw [hleaves.sheetsOf]
      exact hbroken hb
    · rw [hrooms]
      exact hany
    · rw [hleaves.acc]
      nofun
    · rw [harb] at hj
      exact ⟨fun _ => hj, fun e => hnot (hw.cadence_at (g := g) h hg rfl hj e).1⟩

theorem ejectDone_settles (p : Part) : Settles d Unhurt Unhurt p p.ejectDone := by
  unfold Part.ejectDone
  split
  · exact .of_bills rfl
  · rename_i e he
    split
    · exact .of_bills rfl
    · rename_i ht
      exact deliver_settles he ht
    · rename_i ht
      exact landSet_settles he ht

end
end Sys2Proof.Machine

namespace Sys2Proof.Machine

section
variable {p q r : Part} {d : Bool} {hurt hurt' : GroupKey → Prop}

/-! ### An uncovered edge (R89, R91) -/

theorem mem_uncover {s : Sheet} (x : Sensor) (hs : s ∈ p.track.sheets) :
    s.uncovered x ∈ (p.uncover s.seq x).track.sheets := by
  have hfilter : s.covered.filter (fun e => e.station ≠ x) = s.covered.filter fun e => !(e.station == x) :=
    List.filter_congr fun e _ => by rw [beq_eq_decide]; exact (decide_not ..)
  refine List.mem_map.2 ⟨s, hs, (if_pos (beq_self_eq_true _)).trans ?_⟩
  unfold Sheet.uncovered
  rw [hfilter]

theorem cleared_uncovered (p : Part) (s : Sheet) (x : Sensor) (y : PathSensor) :
    p.cleared (s.uncovered x) y = p.cleared s y := by
  cases y <;> rfl

/-- What a PATH_UNCOVERED edge clears: the record that covers the station, of a good trail. -/
theorem pathUncovered_cases (p : Part) (x : PathSensor) :
    Settles d hurt hurt p (p.pathUncovered x)
    ∨ ∃ s ∈ p.track.sheets, s.coversAt (.path x) = true
      ∧ p.pathUncovered x = (((p.setPathLevel x false).uncover s.seq (.path x)).cleared (s.uncovered (.path x)) x) := by
  have hlevel : Settles d hurt hurt p (p.setPathLevel x false) := .of_bills rfl
  unfold Part.pathUncovered
  dsimp only
  split
  · split
    · exact .inl (.of_bills rfl)
    · rename_i s hs
      split
      · exact .inl (hlevel.trans (raiseFor_settles ..))
      · obtain ⟨hm, hc⟩ := mem_of_covering hs
        exact .inr ⟨s, hm, hc, by rw [cleared_uncovered]⟩
  · split
    · exact .inl hlevel
    · exact .inl (.of_bills rfl)

theorem pathUncovered_account (p : Part) (x : PathSensor) : KeepsAccount true p (p.pathUncovered x) := by
  rcases pathUncovered_cases (d := true) (hurt := Unhurt) p x with h | ⟨s, hs, -, e⟩
  · exact h.toAccount
  · have hlevel : KeepsAccount true p (p.setPathLevel x false) := .of_bills rfl
    have hcover := uncover_settles (d := true) (hurt := Unhurt) (p.setPathLevel x false) s.seq (.path x)
    rw [e]
    exact (hlevel.trans hcover.toAccount).trans (cleared_account x (mem_uncover (p := p.setPathLevel x false) _ hs))

theorem Part.SheetsPlaced.not_fresh_of_covers (h : p.SheetsPlaced) {s : Sheet} (hs : s ∈ p.track.sheets) {x : Sensor}
    (hc : s.coversAt x = true) : s.fresh = false := by
  have hm : s.state = .moving := by
    by_contra hm
    unfold Sheet.coversAt at hc
    rw [(h.1 s hs hm).2] at hc
    cases hc
  unfold Sheet.fresh
  rw [hm]
  rfl

/-- A sheet that is not bound for its bill's bin is of a broken group. -/
theorem Part.WholeBut.broken_of_not_bound (hw : p.WholeBut Unhurt) {s : Sheet} (hs : s ∈ p.track.sheets)
    (hb : ¬s.Bound) : p.BrokenAt s.group := by
  intro g hg hk
  by_contra hn
  obtain ⟨-, -, -, -, hbound⟩ := (hw.entries g hg).1 (Bool.eq_false_iff.2 hn) id
  exact hb (hbound s (mem_sheetsOf.2 ⟨hs, hk.symm⟩))

theorem pathUncovered_settles (hplaced : p.SheetsPlaced) (x : PathSensor) :
    Settles true Unhurt Unhurt p (p.pathUncovered x) := by
  refine .of_whole (pathUncovered_account p x) fun _ _ hw => ?_
  rcases pathUncovered_cases (d := true) (hurt := Unhurt) p x with h | ⟨s, hs, hc, e⟩
  · exact h
  · have hlevel : Settles true Unhurt Unhurt p (p.setPathLevel x false) := .of_bills rfl
    rw [e]
    refine (hlevel.trans (uncover_settles _ s.seq (.path x))).trans (cleared_settles x
      (mem_uncover (p := p.setPathLevel x false) _ hs) (hplaced.not_fresh_of_covers (s := s) hs hc) ?_)
    rintro rfl
    refine hw.broken_of_not_bound (s := s) hs fun hb => ?_
    rw [hb.2.2.2.1] at hc
    cases hc

/-! ### Launches (R68, R69, R71) -/

theorem launchDR_account (p : Part) (s : Sheet) : KeepsAccount d p (p.launchDR s) :=
  (mapSheet_account s.seq (f := fun r => p.launched r .second .second []) (fun _ => rfl) fun _ => rfl).trans
    (.of_bills rfl)

/-- A launched record's way holds no purge station. -/
theorem launched_bound {s : Sheet} (x : Pass) (y : Route) (t : TrayId) (n : Nat) {c : List CoverEntry}
    (hc : c = [] ∨ c = [p.coverFor (.st t) n p.clock.tick]) (h : s.Bound) : (p.launched s x y c).Bound := by
  refine ⟨h.1, nofun, ?_, ?_, ?_⟩
  · show PathSensor.pg ∉ [_, _, _, _, if y = .freshLoop then PathSensor.dl else PathSensor.xs]
    cases y <;> decide
  · rcases hc with rfl | rfl <;> rfl
  · rintro w hw
    cases hw
    nofun

theorem launchDR_settles {s : Sheet} (hs : s ∈ p.track.sheets) (hf : s.fresh = false) :
    Settles d hurt hurt p (p.launchDR s) := by
  refine .of_whole (launchDR_account p s) fun _ ha _ =>
    Settles.congr (q := p.mapSheet s.seq fun r => p.launched r .second .second []) ?_ rfl
  · refine mapSheet_settles s.seq (f := fun r => p.launched r .second .second []) (fun _ => rfl) (fun _ => rfl)
      (fun x hx hxs hxf => ?_) (fun _ _ _ => id) fun x _ _ _ hb => launched_bound _ _ .t1 0 (.inl rfl) hb
    rw [List.inj_on_of_nodup_map ha.2.1 hx hs hxs, hf] at hxf
    cases hxf

/-- The record of a sheet after its FF launch (R68). -/
def Part.freshLaunch (p : Part) (s r : Sheet) : Sheet :=
  p.launched r .first (if s.loopBound then .freshLoop else .freshExit) [p.coverFor (.st r.tray) r.length p.clock.tick]

theorem launchFF_bills (p : Part) (s : Sheet) : (p.launchFF s).bills
    = (((p.mapSheet s.seq (p.freshLaunch s)).followCadence s)).bills := by
  unfold Part.launchFF Part.followCadence
  dsimp only
  split <;> rfl

theorem followCadence_account (s : Sheet) : KeepsAccount d p (p.followCadence s) := by
  obtain ⟨c, hc⟩ := followCadence_eq (p := p) s
  rw [hc]
  exact ⟨id, fun _ => id, fun _ _ => rfl, fun _ _ => List.Sublist.refl _, fun _ _ _ => rfl⟩

theorem launchFF_account (p : Part) (s : Sheet) : KeepsAccount d p (p.launchFF s) :=
  ((mapSheet_account s.seq (f := p.freshLaunch s) (fun _ => rfl) fun _ => rfl).trans
    (followCadence_account s)).trans (.of_bills (launchFF_bills p s))

theorem freshLaunch_entryWhole {s : Sheet} {g : Group} (h : p.EntryWhole hurt g) :
    (p.mapSheet s.seq (p.freshLaunch s)).EntryWhole hurt g := by
  refine sheetsBy_entryWhole (f := fun r => if r.seq == s.seq then p.freshLaunch s r else r) (fun r => ?_)
    (fun r _ h => ?_) (fun r _ _ hb => ?_) h <;> split
  · rfl
  · rfl
  · exact h
  · exact h
  · exact launched_bound _ _ r.tray r.length (.inr rfl) hb
  · exact hb

/-- A sheet of an unbroken group is not spoiled, one of a broken group is. -/
theorem Part.WholeBut.spoiled_eq (hw : p.WholeBut Unhurt) {s : Sheet} (hs : s ∈ p.track.sheets) {g : Group}
    (hg : g ∈ p.groups.entries) (hk : g.key = s.group) : s.spoiled = g.state.broken := by
  obtain ⟨hwhole, -, hbroken, -⟩ := hw.entries g hg
  have hmem : s ∈ p.sheetsOf g.key := mem_sheetsOf.2 ⟨hs, hk.symm⟩
  unfold Sheet.spoiled
  cases hb : g.state.broken with
  | true => rw [(hbroken hb).2 s hmem]; rfl
  | false =>
    obtain ⟨-, -, -, -, hbound⟩ := hwhole hb id
    rw [(hbound s hmem).1]
    rfl

/-- The cadence group after the FF launch of a sheet (R71). -/
theorem followCadence_cadence {s : Sheet} {k : GroupKey} (h : (p.followCadence s).arbiter.cadenceGroup = some k) :
    (s.spoiled = true ∧ p.arbiter.cadenceGroup = some k)
    ∨ (s.spoiled = false ∧ k = s.group ∧ ((p.group? k).any (fun g => g.state == .closed) = false
        ∨ ∃ x ∈ p.sheetsOf k, x.fresh = true)) := by
  unfold Part.followCadence at h
  split at h
  · rename_i hs
    exact .inl ⟨hs, h⟩
  · rename_i hs
    refine .inr ⟨Bool.eq_false_iff.2 hs, ?_⟩
    dsimp only at h
    split at h
    · cases h
    · rename_i hn
      cases h
      refine ⟨rfl, ?_⟩
      rw [Bool.and_eq_true, not_and_or, Bool.not_eq_true, Bool.not_eq_true', Bool.not_eq_false] at hn
      refine hn.imp id fun hn => ?_
      obtain ⟨x, hx, hxf⟩ := List.any_eq_true.1 hn
      rw [Bool.and_eq_true, beq_iff_eq] at hxf
      exact ⟨x, mem_sheetsOf.2 ⟨hx, hxf.1⟩, hxf.2⟩

theorem GroupState.eq_admitting {x : GroupState} (hb : x.broken = false) (hc : x ≠ .closed) : x = .admitting := by
  cases x with
  | admitting => rfl
  | closed => exact absurd rfl hc
  | brokenOpen | brokenClosed => cases hb

theorem launchFF_settles {s : Sheet} (hs : s ∈ p.track.sheets) : Settles d Unhurt Unhurt p (p.launchFF s) := by
  have hacc : KeepsAccount d p (p.launchFF s) := launchFF_account p s
  refine ⟨hacc.groups, hacc.account, fun hg ha hw => ?_, hacc.nextSeq, hacc.seqs, hacc.length⟩
  rw [wholeBut_bills, launchFF_bills, ← wholeBut_bills]
  obtain ⟨c, hc⟩ := followCadence_eq (p := p.mapSheet s.seq (p.freshLaunch s)) s
  refine ⟨fun g hm => ?_, ?_, ?_, fun k hk => ?_⟩
  · rw [hc] at hm ⊢
    exact freshLaunch_entryWhole (hw.entries g hm)
  · rw [hc]
    exact hw.rooms
  · rw [hc]
    exact hw.room
  have hk := followCadence_cadence hk
  rw [hc]
  rcases hk with ⟨hspoiled, hk⟩ | ⟨hspoiled, rfl, hk⟩
  · obtain ⟨g, hm, rfl, hb, h⟩ := hw.cadence k hk
    refine ⟨g, hm, rfl, hb, h.imp id (Or.imp id ?_)⟩
    rintro ⟨x, hx, hxf⟩
    obtain ⟨hxm, hxk⟩ := mem_sheetsOf.1 hx
    refine ⟨x, mem_sheetsOf.2 ⟨List.mem_map.2 ⟨x, hxm, if_neg ?_⟩, hxk⟩, hxf⟩
    rw [beq_iff_eq]
    intro e
    have hxs : x = s := List.inj_on_of_nodup_map ha.2.1 hxm hs e
    rw [← hxs, hw.spoiled_eq hxm hm hxk.symm, hb] at hspoiled
    cases hspoiled
  · obtain ⟨g, hm, hgk⟩ := ha.2.2.1 s hs
    have hb : g.state.broken = false := by rw [← hw.spoiled_eq hs hm hgk, hspoiled]
    refine ⟨g, hm, hgk, hb, .inr (hk.imp (fun hk => ?_) fun ⟨x, hx, hxf⟩ => ⟨x, hx, hxf⟩)⟩
    have hk : (p.group? s.group).any (fun g => g.state == .closed) = false := hk
    rw [← hgk, hg.group?_of_mem hm] at hk
    exact GroupState.eq_admitting hb fun e => by simp [e] at hk

/-! ### Boundaries (R60, R66, R72) -/

theorem mem_of_drCandidate {s : Sheet} (h : p.drCandidate = some s) :
    s ∈ p.track.sheets ∧ ∃ e ∈ p.loop, e.seq = s.seq := by
  unfold Part.drCandidate at h
  split at h
  · rename_i e l hl
    split at h
    · exact ⟨List.mem_of_find?_eq_some h, e, by rw [hl]; exact List.mem_cons_self, (by
        have := List.find?_some h
        exact (eq_of_beq this).symm)⟩
    · cases h
  · cases h

theorem Part.SheetsPlaced.not_fresh_of_loop (h : p.SheetsPlaced) (ha : p.BillsAccounted) {s : Sheet}
    (hs : s ∈ p.track.sheets) {e : LoopEntry} (he : e ∈ p.loop) (hes : e.seq = s.seq) : s.fresh = false := by
  obtain ⟨x, hx, hxs, hstate⟩ := h.2.2.1 e he
  rw [← List.inj_on_of_nodup_map ha.2.1 hx hs (hxs.trans hes)]
  unfold Sheet.fresh
  rw [hstate]
  rfl

theorem choice_account {k : BitVec 32} (h : p.choice k = some q) : KeepsAccount d p q := by
  rcases choice_cases _ h with ⟨f, -, -, rfl⟩ | ⟨x, -, -, rfl⟩
  · exact launchFF_account p f
  · exact launchDR_account p x

theorem choice_settles {k : BitVec 32} (h : p.choice k = some q) (hplaced : p.SheetsPlaced) :
    Settles d Unhurt Unhurt p q := by
  refine .of_whole (choice_account h) fun _ ha _ => ?_
  rcases choice_cases _ h with ⟨f, hf, -, rfl⟩ | ⟨x, hx, -, rfl⟩
  · exact launchFF_settles (List.mem_filter.1 (mem_of_lowestSeq hf)).1
  · obtain ⟨hm, e, he, hes⟩ := mem_of_drCandidate hx
    exact launchDR_settles hm (hplaced.not_fresh_of_loop ha hm he hes)

/-- The cadence group may still be broken. -/
theorem whole_of_cadence (hg : p.GroupsHold) (ha : p.BillsAccounted) (hw : p.WholeBut Unhurt) {k : GroupKey}
    (hk : p.arbiter.cadenceGroup = some k) {g : Group} (hm : g ∈ p.groups.entries) (hgk : g.key = k) : p.Whole g := by
  obtain ⟨hb, h⟩ := hw.cadence_at hg hm hgk hk rfl
  rcases h with h | h | ⟨s, hs, -⟩
  · exact h.elim
  · exact whole_of_open hw hm (by rw [h]; rfl) hb
  · obtain ⟨hs, hsk⟩ := mem_sheetsOf.1 hs
    exact whole_of_sheet ha hw hs hm (hgk.trans hsk.symm) hb

theorem starve_settles (p : Part) : Settles d Unhurt Unhurt p p.starve := by
  rcases starve_cases (p := p) with h | ⟨k, hk, h⟩
  · rw [h]
    exact .refl p
  · rw [h]
    exact (breakGroup_settles .starved fun hg ha hw g hm hgk _ => .inr (whole_of_cadence hg ha hw hk hm hgk)).hurt_congr
      fun _ => ⟨False.elim, fun e => e.1⟩

theorem boundary_account (p : Part) (line : Bool) : KeepsAccount d p (p.boundary line) := by
  have hslot : KeepsAccount d p p.raiseSlot := .of_bills rfl
  rcases boundary_cases p line with ⟨-, h⟩ | h | ⟨-, h⟩
  · rw [h]
    exact .of_bills rfl
  · exact hslot.trans (choice_account h)
  · rw [h]
    split
    · exact hslot.trans (starve_settles _).toAccount
    · exact hslot

theorem boundary_settles (hplaced : p.SheetsPlaced) (line : Bool) : Settles d Unhurt Unhurt p (p.boundary line) := by
  have hslot : Settles d Unhurt Unhurt p p.raiseSlot := .of_bills rfl
  rcases boundary_cases p line with ⟨-, h⟩ | h | ⟨-, h⟩
  · rw [h]
    exact .of_bills rfl
  · exact hslot.trans (choice_settles h hplaced)
  · rw [h]
    split
    · exact hslot.trans (starve_settles _)
    · exact hslot

end
end Sys2Proof.Machine

namespace Sys2Proof.Machine

section
variable {p q r : Part} {d : Bool} {hurt hurt' : GroupKey → Prop}

/-! ### What the own effect of a command keeps (R29, R35, R71, R79) -/

/-- What the own effect of a command keeps of the promises: bill integrity with every record where its state says. The
seqs that the cascade may still give out are free after it. -/
structure KeepsPromises (p q : Part) : Prop where
  groups : p.GroupsHold → q.GroupsHold
  account : p.GroupsHold → p.SeqsFree → p.BillsAccounted → q.BillsAccounted
  whole : p.GroupsHold → p.SeqsFree → p.BillsAccounted → p.SheetsPlaced → p.WholeBut Unhurt → q.WholeBut Unhurt
  left : p.GroupsHold → p.SeqsFree → p.BillsAccounted → q.SeqsLeft

theorem KeepsBills.promises (h : KeepsBills p q) : KeepsPromises p q where
  groups := h.groups
  account hg hf := h.account hg hf.left
  whole hg hf ha _ := h.whole hg hf.left ha
  left hg hf := h.left hg hf.left

theorem KeepsPromises.then (h : KeepsPromises p q) (k : KeepsBills q r) : KeepsPromises p r where
  groups := k.groups ∘ h.groups
  account hg hf ha := k.account (h.groups hg) (h.left hg hf ha) (h.account hg hf ha)
  whole hg hf ha hp hw := k.whole (h.groups hg) (h.left hg hf ha) (h.account hg hf ha) (h.whole hg hf ha hp hw)
  left hg hf ha := k.left (h.groups hg) (h.left hg hf ha) (h.account hg hf ha)

/-- Sheets that leave the track leave their seqs free. -/
theorem KeepsAccount.seqsFree (h : KeepsAccount d p q) (hg : p.GroupsHold) (ha : p.BillsAccounted) (hf : p.SeqsFree) :
    q.SeqsFree := by
  intro i hi s hs
  obtain ⟨x, hx, hxs⟩ := List.mem_map.1 ((h.seqs hg ha).subset (List.mem_map_of_mem hs))
  rw [h.nextSeq hg ha, ← hxs]
  exact hf i hi x hx

theorem KeepsPromises.of_placed (h : KeepsAccount d p q) (hw : p.SheetsPlaced → Settles d Unhurt Unhurt p q) :
    KeepsPromises p q where
  groups := h.groups
  account hg _ := h.account hg
  whole hg _ ha hp := (hw hp).whole hg ha
  left hg hf ha := (h.seqsFree hg ha hf).left

theorem Settles.promises (h : Settles d Unhurt Unhurt p q) : KeepsPromises p q := .of_placed h.toAccount fun _ => h

theorem KeepsPromises.refl (p : Part) : KeepsPromises p p := (KeepsBills.refl p).promises

theorem KeepsPromises.attempt {e : Part → Option Part} (h : ∀ q, e p = some q → KeepsPromises p q) :
    KeepsPromises p (p.attempt e) := by
  unfold Part.attempt
  cases he : e p with
  | none => exact .refl p
  | some q => exact h q he

/-! ### The resets -/

theorem afterReset_promises (l : Lines) (k : Clock) (v : Tables) (b : PerBin Bin) (n : Nat) :
    KeepsPromises p (p.afterReset l k v b n) where
  groups _ := ⟨⟨.nil, fun _ h => (nomatch h), fun _ h => (nomatch h), fun _ h => (nomatch h), fun _ h => (nomatch h)⟩,
    .nil, fun _ h => (nomatch h)⟩
  account _ _ _ := ⟨fun _ h => (nomatch h), .nil, fun _ h => (nomatch h), rfl, fun _ h => (nomatch h),
    fun _ h => (nomatch h), fun _ h => (nomatch h)⟩
  whole _ _ _ _ _ := ⟨fun _ h => (nomatch h), .nil, fun _ h => (nomatch h), fun _ h => (nomatch h)⟩
  left _ _ _ := fun _ _ _ h => nomatch h

/-! ### The receiving of records -/

theorem accept_settles (p : Part) (x : Inbound) : Settles true Unhurt Unhurt p (p.accept x) := by
  cases x with
  | queued x => exact enqueue_settles p x
  | start => exact startControl_settles p
  | halt => exact haltControl_settles p
  | clearFault => exact clearFaultControl_settles p
  | binEmptied n => exact .of_bills (binEmptied_bills p n)
  | query => exact .of_bills (occur_bills ..)

theorem takeByte_settles (p : Part) (b : Byte) : Settles true Unhurt Unhurt p (p.takeByte b) := by
  unfold Part.takeByte
  split
  · exact .of_bills rfl
  · exact (toHunt_settles p).trans (dropped_settles _ _)
  · exact (toHunt_settles p).trans (dropped_settles _ _)
  · exact (toHunt_settles p).trans (accept_settles _ _)

/-! ### Boundaries -/

theorem pitchExpiry_promises (h : p.pitchExpiry = some q) : KeepsPromises p q := by
  have hdue : Settles false Unhurt Unhurt p { p with arbiter := { p.arbiter with expiryDue := false } } := .of_bills rfl
  rcases (pitchExpiry_some h).2 with rfl | rfl
  · exact hdue.promises
  · exact .of_placed (hdue.toAccount.trans (boundary_account _ false)) fun hp =>
      hdue.trans (boundary_settles (p := { p with arbiter := { p.arbiter with expiryDue := false } }) hp false)

theorem cadencePulse_bills (p : Part) : p.cadencePulse.bills = if p.sourceIsLine then (p.boundary true).bills else p.bills := by
  unfold Part.cadencePulse
  split
  · dsimp only
    split <;> rfl
  · rfl

theorem cadencePulse_promises (p : Part) : KeepsPromises p p.cadencePulse := by
  have h := cadencePulse_bills p
  split at h
  · exact .of_placed (d := false) ((boundary_account p true).trans (.of_bills h)) fun hp =>
      (boundary_settles hp true).congr h
  · exact (KeepsBills.of_bills h).promises

/-! ### The own effects -/

theorem ownEffect_promises (p : Part) (c : Instr) : KeepsPromises p (ownEffect c p) := by
  have hbills : ∀ {q : Part}, q.bills = p.bills → KeepsPromises p q := fun h => (KeepsBills.of_bills h).promises
  have hhunt : ∀ {q : Part}, Settles true Unhurt Unhurt p.toHunt q → KeepsPromises p q := fun h =>
    ((toHunt_settles p).trans h).promises
  have hstays : ∀ {q : Part}, Settles true Unhurt Unhurt p q → KeepsPromises p q := fun h => h.promises
  have hevent : ∀ {e : Part → Option Part}, (∀ q, e p = some q → Settles true Unhurt Unhurt p q) →
      KeepsPromises p (p.attempt e) := fun h => .attempt fun q hq => (h q hq).promises
  have hhead : ∀ {e : Part → Option Part}, (∀ q, e p = some q → KeepsBills p q) → KeepsPromises p (p.attempt e) :=
    fun h => .attempt fun q hq => (h q hq).promises
  cases c with
  | powerOnReset l => exact afterReset_promises ..
  | controllerReset l => exact afterReset_promises ..
  | sheetOrder o => exact hhunt (enqueue_settles _ _)
  | stop => exact hhunt (enqueue_settles _ _)
  | purge => exact hhunt (enqueue_settles _ _)
  | load l => exact hstays (takeLoad_settles p l)
  | start => exact hhunt (startControl_settles _)
  | halt => exact hhunt (haltControl_settles _)
  | clearFault => exact hhunt (clearFaultControl_settles _)
  | binEmptied n => exact hhunt (.of_bills (binEmptied_bills _ n))
  | query => exact hhunt (.of_bills (occur_bills ..))
  | droppedRecord c => exact hhunt (dropped_settles _ _)
  | groupAdmission => exact hhead fun _ => groupAdmission_keeps
  | brokenFromStart => exact hhead fun _ => brokenFromStart_keeps
  | furtherOrderPick => exact hhead fun _ => furtherOrderPick_keeps
  | discardedAsUnfed => exact hhead fun _ => discardedAsUnfed_keeps
  | orphan => exact hhead fun _ => orphanTaken_keeps
  | stopTaken => exact hevent fun _ => stopTaken_settles
  | purgeTaken => exact hevent fun _ => purgeTaken_settles
  | liveLoadTaken => exact hevent fun _ => liveLoadTaken_settles
  | lockedLoadTaken => exact hevent fun _ => lockedLoadTaken_settles
  | pendingLoadApplied => exact hevent fun _ => pendingLoadApplied_settles
  | stagingCoveredEdge t => exact hstays (stagingCovered_settles p t)
  | stagingUncoveredEdge t => exact hstays (stagingUncovered_settles p t)
  | pathCoveredEdge x => exact hstays (pathCovered_settles p x)
  | pathUncoveredEdge x => exact .of_placed (pathUncovered_account p x) fun hp => pathUncovered_settles hp x
  | drawerOpening t => exact hstays (openDrawer_settles p t)
  | drawerClosing t => exact hbills (closeDrawer_bills p t)
  | paperSensorEdge t which active => exact hbills (paperEdge_bills p t which active)
  | pickDeadline t => exact hevent fun _ => pickDeadline_settles
  | stallEnd => exact hevent fun _ => stallEnd_settles
  | pitchExpiry => exact .attempt fun _ => pitchExpiry_promises
  | cadencePulse => exact cadencePulse_promises p
  | cadenceLoss => exact hevent fun _ => cadenceLoss_settles
  | lateLimitReached n => exact hevent fun _ => lateLimit_settles
  | stall n x => exact hevent fun _ => stallAt_settles
  | gateRelease g n => exact hevent fun _ h => .of_bills (gateRelease_bills h)
  | conversionStart n => exact hevent fun _ => conversionStart_settles
  | conversionCompletion v => exact hstays (conversionDone_settles p v)
  | readyAnswer n side => exact hstays (readyAnswer_settles p n side)
  | declineAnswer n side => exact hstays (declineAnswer_settles p n side)
  | parked => exact hbills (parked_bills p)
  | parkDeadline => exact hevent fun _ => parkDeadline_settles
  | setEjectStart => exact hevent fun _ => setEjectStart_settles
  | ejectDone => exact hstays (ejectDone_settles p)
  | ejectTimeout => exact hevent fun _ => ejectTimeout_settles
  | binDoorOpening b => exact hbills (setBin_bills p b _)
  | binDoorClosing b => exact hbills (closeBin_bills p b)
  | fullSensorEdge b active => exact hbills (setBin_bills p b _)
  | purgeDoorOpening => exact hstays (openPurge_settles p)
  | purgeDoorClosing => exact hbills (closePurge_bills p)
  | coverOpening => exact hstays (openCover_settles p)
  | coverClosing => exact hbills rfl
  | powerWarnAsserted => exact hstays (assertPowerWarn_settles p)
  | powerWarnCleared => exact hstays (clearPowerWarn_settles p)
  | warmupEnd => exact hevent fun _ => warmupEnd_settles
  | drainEnd => exact hevent fun _ => drainEnd_settles
  | runoutEnd => exact hevent fun _ => runoutEnd_settles
  | runEnd => exact hevent fun _ => runEndReached_settles
  | groupResolution => exact hevent fun _ => groupResolution_settles
  | returnReadyAsserted => exact hbills rfl
  | returnReadyCleared => exact hbills rfl
  | transmissionComplete => exact hevent fun _ => transmissionDone_settles
  | startDelimiter b => exact hstays (takeByte_settles p b)

/-! ### The tick -/

/-- No deadline of a tick takes a sheet away. -/
theorem clockEvent_keeps {e : Part → Option Part} (h : ClockEvent e) (hx : p.arbiter.expiryDue = false)
    (hq : e p = some q) : KeepsBills p q := by
  cases h with
  | pitchExpiry =>
    rw [(pitchExpiry_some hq).1] at hx
    cases hx
  | pickDeadline t => exact (pickDeadline_settles hq).keepsBills
  | lateLimit n => exact (lateLimit_settles hq).keepsBills
  | stallAt n x => exact (stallAt_settles hq).keepsBills
  | gateRelease g n => exact .of_bills (gateRelease_bills hq)
  | conversionStart n => exact (conversionStart_settles hq).keepsBills
  | parkDeadline => exact (parkDeadline_settles hq).keepsBills
  | ejectTimeout => exact (ejectTimeout_settles hq).keepsBills
  | cadenceLoss => exact (cadenceLoss_settles hq).keepsBills
  | warmupEnd => exact (warmupEnd_settles hq).keepsBills
  | runEndReached => exact (runEndReached_settles hq).keepsBills

theorem deadlines_keep (h : p.arbiter.expiryDue = false) {l : List (Part → Option Part)} (hl : ∀ e ∈ l, ClockEvent e) :
    KeepsBills p (l.foldl Part.fire p) := by
  refine (foldl_fire_keeps (I := fun x => x.arbiter.expiryDue = false ∧ KeepsBills p x) (fun e x he hx => ⟨?_, ?_⟩) l hl
    ⟨h, .refl p⟩).2
  · exact Bool.eq_false_iff.2 fun hd => Bool.eq_false_iff.1 hx.1 ((fire_all he x).expiry hd)
  · rcases fire_cases e x with ⟨-, h⟩ | ⟨q, hq, h⟩ <;> rw [h]
    · exact hx.2
    · exact hx.2.trans ((clockEvent_keeps he hx.1 hq).trans (close_keeps q))

theorem endTick_bills (p : Part) : p.endTick.bills = p.bills := by
  obtain ⟨n, e, he⟩ := endTick_eq p
  rw [he]
  rfl

theorem tick_promises (p : Part) : KeepsPromises p.start p.tick := by
  have hfirst : KeepsPromises p.start (p.start.fire Part.pitchExpiry) := by
    rcases fire_cases Part.pitchExpiry p.start with ⟨-, h⟩ | ⟨q, hq, h⟩ <;> rw [h]
    · exact .refl _
    · exact (pitchExpiry_promises hq).then (close_keeps q)
  have hrest := deadlines_keep (fire_pitchExpiry_expiry p.start) (l := p.start.deadlines) fun _ => clockEvent_of_deadline
  rw [← fireAll_eq] at hrest
  exact (hfirst.then hrest).then (.of_bills (endTick_bills _))

/-! ### Every step -/

theorem step_promises {s t : State} (h : step s = .next t) : KeepsPromises s.toPart.start t.toPart := by
  rcases step_cases h with ⟨c, hc⟩ | ⟨-, rfl⟩
  · rw [hc]
    exact (ownEffect_promises _ c).then (close_keeps _)
  · exact tick_promises s.toPart

theorem Part.ReportsAgree.groupsHold (h : p.ReportsAgree) (hg : p.GroupsAgree) : p.GroupsHold := by
  obtain ⟨-, -, -, -, -, hnodup, hentries⟩ := h
  exact ⟨hg, hnodup, hentries⟩

/-- Settles O12: the entries and the open group, with every held result's entry, through the own effect of the command and
all that follows. -/
theorem stepKeepsGroups : Obligations.StepKeepsGroups := fun _ _ _ hr hg hst =>
  ((step_promises hst).groups (hr.groupsHold hg)).1

/-- Settles O13: every change of the records and of the set has its change of the entry's counts. -/
theorem stepKeepsTheAccount : Obligations.StepKeepsTheAccount := fun _ _ _ hr hg hf ha hst =>
  (step_promises hst).account (hr.groupsHold hg) hf ha

/-- Settles O15: a sheet spoiled or removed has its group broken in the same event, and a sheet of an unbroken group leaves
the path by its bin alone. -/
theorem stepKeepsBillsWhole : Obligations.StepKeepsBillsWhole := fun _ _ _ hr hg hf ha hp hw hst =>
  (billsWhole_iff _).2 ((step_promises hst).whole (hr.groupsHold hg) hf ha hp ((billsWhole_iff _).1 hw))

end
end Sys2Proof.Machine

namespace Sys2Proof.Machine

section
variable {p q : Part}

/-! ### GROUP_RESOLUTION (R27, R40, R41) -/

theorem groupResolution_found {g : Group} (h : p.groups.entries.find? p.resolvable = some g) :
    p.groupResolution = if p.link.reports.length < 64 then some (p.reportGroup g)
      else some { p with link := { p.link with held := { p.link.held with
        results := p.link.held.results ++ [g.key] } } } := by
  have hroom : p.reportRoom = decide (p.link.reports.length < 64) := rfl
  unfold Part.groupResolution
  rw [h, hroom]
  simp only [decide_eq_true_eq]

theorem resolvable_done {g : Group} (h : p.resolvable g = true) :
    g.state.closedState = true ∧ g.inPath = 0 ∧ g.inSet = 0 := by
  unfold Part.resolvable at h
  simp only [Bool.and_eq_true, beq_iff_eq] at h
  obtain ⟨⟨⟨hc, hpath⟩, hset⟩, -⟩ := h
  exact ⟨hc, hpath, hset⟩

/-- A group with no sheet left is whole or not at all (R41). -/
theorem whole_of_done (hg : p.GroupsAgree) (ha : p.BillsAccounted) (hw : p.BillsWhole) {g : Group}
    (hm : g ∈ p.groups.entries) (hpath : g.inPath = 0) (hset : g.inSet = 0) (hc : g.state.closedState = true) :
    g.accepted = g.delivered + g.purged + g.removed + g.unfed ∧ (g.delivered = 0 ∨ g.delivered = g.accepted)
    ∧ (g.delivered = g.accepted ↔ g.state = .closed) := by
  obtain ⟨hwhole, hbroken, -⟩ := hw
  obtain ⟨hsum, -, -⟩ := ha.1 g hm
  obtain ⟨-, -, hpos, -⟩ := (hg.2.1 g hm).2
  have hsum : g.accepted = g.delivered + g.purged + g.removed + g.unfed := by omega
  refine ⟨hsum, ?_⟩
  cases hb : g.state.broken with
  | true =>
    have hd := (hbroken g hm hb).1
    have hnot : g.state ≠ .closed := fun e => by rw [e] at hb; cases hb
    exact ⟨.inl hd, fun e => by omega, fun e => absurd e hnot⟩
  | false =>
    obtain ⟨hp, hr, hu, -, -⟩ := hwhole g hm hb
    have hclosed : g.state = .closed := by
      cases hs : g.state with
      | closed => rfl
      | admitting => rw [hs] at hc; cases hc
      | brokenOpen | brokenClosed => rw [hs] at hb; cases hb
    exact ⟨.inr (by omega), fun _ => hclosed, fun _ => by omega⟩

theorem result_delivered_iff (g : Group) : (∃ b j, g.result.outcome = .delivered b j) ↔ g.state = .closed := by
  unfold Group.result
  dsimp only
  split <;> rename_i h
  · exact ⟨fun _ => h, fun _ => ⟨_, _, rfl⟩⟩
  · exact ⟨fun ⟨_, _, e⟩ => (nomatch e), fun e => absurd e h⟩

/-- Settles O60: the entry that leaves the table is the one that is reported, and a group with no sheet left is whole or
not at all. -/
theorem groupResolutionReportsTheBill : Obligations.GroupResolutionReportsTheBill := by
  intro s g hfind
  have hm := List.mem_of_find?_eq_some hfind
  obtain ⟨hc, hpath, hset⟩ := resolvable_done (List.find?_some hfind)
  have hevent := groupResolution_found (p := s.toPart.start) hfind
  refine ⟨fun hroom => ?_, fun hroom => ?_⟩
  · have hevent := hevent.trans (if_pos hroom)
    refine ⟨s.toPart.start.reportGroup g, ?_, ?_, rfl, rfl, g.result, rfl, rfl, rfl, rfl, rfl, rfl, rfl, rfl, rfl,
      fun h => if_pos h, fun h => if_neg (by rw [h]; nofun), fun hg ha hw => ?_⟩
    · rw [exec_groupResolution, attempt_some hevent]
    · exact List.filter_congr fun x _ => by by_cases e : x.key = g.key <;> simp [e]
    · rw [result_delivered_iff]
      exact whole_of_done hg ha hw hm hpath hset hc
  · have hevent := hevent.trans (if_neg (Nat.not_lt.2 hroom))
    rw [exec_groupResolution, attempt_some hevent]
    rfl

end
end Sys2Proof.Machine

namespace Sys2Proof.Machine

section
variable {p q : Part}

/-! ### The conditions of a pick (R48, R49) -/

theorem picking_iff {x : TransportState} : x.picking = true ↔ x = .warmup ∨ x = .running := by
  cases x <;> decide

/-- A staging position that is not free (R49). -/
def Part.stagingTaken (p : Part) (t : TrayId) : Bool :=
  (p.feeders.get t).holder.isSome || p.sensors.staging.get t || (p.feeders.get t).abandoned

theorem stagingFree_eq_not (t : TrayId) : p.stagingFree t = !p.stagingTaken t := by
  unfold Part.stagingFree Part.stagingTaken
  rw [Bool.not_or, Bool.not_or, Option.not_isSome]

theorem stagingTaken_eq_false {t : TrayId} : p.stagingTaken t = false ↔
    (p.feeders.get t).holder = none ∧ p.sensors.staging.get t = false ∧ (p.feeders.get t).abandoned = false := by
  unfold Part.stagingTaken
  rw [Bool.or_eq_false_iff, Bool.or_eq_false_iff, Option.isSome_eq_false_iff, Option.isNone_iff_eq_none, and_assoc]

theorem pickCheck_eq (m : MediaEntry) : p.pickCheck m =
    if 16 ≤ p.track.sheets.length then .error .track
    else if p.stagingTaken (p.pickTray m) then .error .tray
    else if p.purgeCapacity - p.stacker.purgeStacked < p.track.sheets.length + p.acc.sheets.length + 1 then
      .error .purgeRoom
    else .ok (p.pickTray m) := by
  unfold Part.pickCheck
  dsimp only
  rw [stagingFree_eq_not, Bool.not_not]
  rfl

theorem pickCheck_iff {m : MediaEntry} {t : TrayId} : p.pickCheck m = .ok t ↔
    p.track.sheets.length < 16 ∧ t = p.pickTray m ∧ p.stagingTaken (p.pickTray m) = false
    ∧ p.track.sheets.length + p.acc.sheets.length + 1 ≤ p.purgeCapacity - p.stacker.purgeStacked := by
  rw [pickCheck_eq]
  split
  · exact ⟨nofun, fun h => by omega⟩
  · split
    · rename_i ht
      exact ⟨nofun, fun ⟨_, _, h, _⟩ => by rw [ht] at h; cases h⟩
    · rename_i ht
      split
      · exact ⟨nofun, fun h => by omega⟩
      · refine ⟨fun h => ⟨by omega, (Except.ok.inj h).symm, Bool.eq_false_iff.2 ht, by omega⟩, fun ⟨_, h, _⟩ => by rw [h]⟩

/-- The pick tray: the primary when usable, else a usable alternate, else the primary (R48). -/
theorem pickTray_cases {m : MediaEntry} {t : TrayId} (h : trayOf? m.primary = some t) :
    (p.usable t = true → p.pickTray m = t)
    ∧ (p.usable t = false → ∀ u, trayOf? m.alternate = some u → p.usable u = true → p.pickTray m = u)
    ∧ (p.usable t = false → (∀ u, trayOf? m.alternate = some u → p.usable u = false) → p.pickTray m = t) := by
  have hprimary : m.primaryTray = t := by rw [MediaEntry.primaryTray, h]; rfl
  unfold Part.pickTray MediaEntry.alternateTray
  rw [hprimary]
  refine ⟨fun hu => if_pos hu, fun hn u ha hu => ?_, fun hn ha => ?_⟩ <;> rw [if_neg (Bool.eq_false_iff.1 hn)]
  · rw [ha]
    exact if_pos hu
  · split
    · rename_i u hau
      exact if_neg (Bool.eq_false_iff.1 (ha u hau))
    · rfl

theorem usable_iff {t : TrayId} :
    p.usable t = true ↔ (p.feeders.get t).state = .ready ∨ (p.feeders.get t).state = .low := by
  unfold Part.usable
  cases (p.feeders.get t).state <;> decide

/-! ### The route (R22) -/

/-- An account class matches a Routing Table entry (R22). -/
def RoutingEntry.hit (a : Half) (e : RoutingEntry) : Bool := e.valid && (a &&& e.mask == e.value &&& e.mask)

theorem hit_iff {a : Half} {e : RoutingEntry} : e.hit a = true ↔ e.valid = true ∧ a &&& e.mask = e.value &&& e.mask := by
  unfold RoutingEntry.hit
  rw [Bool.and_eq_true, beq_iff_eq]

theorem route_of_hit {a : Half} {e : RoutingEntry} (h : p.tables.routing.find? (RoutingEntry.hit a) = some e) :
    p.route a = (e.bin, if e.jog = 1 then .alternate else .fixed) := by
  unfold Part.route
  rw [show p.tables.routing.find? (fun e => e.valid && (a &&& e.mask == e.value &&& e.mask)) = some e from h]

theorem route_of_no_hit {a : Half} (h : p.tables.routing.find? (RoutingEntry.hit a) = none) :
    p.route a = (p.params.defaultLbin, .fixed) := by
  unfold Part.route
  rw [show p.tables.routing.find? (fun e => e.valid && (a &&& e.mask == e.value &&& e.mask)) = none from h]

/-! ### The conditions of admission (R23, R143) -/

/-- Conditions 2 and 3 of R23: a place in the Group Table and one for every report to come. -/
def Part.tablesRoom (p : Part) : Prop :=
  p.groups.entries.length < 16 ∧ p.link.reports.length + (p.groups.entries.length + 1) + 6 ≤ 64

theorem tableCheck_eq (p : Part) : p.tableCheck =
    if !p.ctl.state.picking then .error .none
    else if 16 ≤ p.groups.entries.length then .error .report
    else if 64 < p.link.reports.length + (p.groups.entries.length + 1) + 6 then .error .report
    else .ok () := rfl

theorem tableCheck_stopped (h : p.ctl.state.picking = false) : p.tableCheck = .error .none := by
  rw [tableCheck_eq, h]
  rfl

theorem tableCheck_full (h : p.ctl.state.picking = true) (hn : ¬p.tablesRoom) : p.tableCheck = .error .report := by
  unfold Part.tablesRoom at hn
  rw [tableCheck_eq, h, if_neg (by decide)]
  split
  · rfl
  · rw [if_pos (by omega)]

theorem tableCheck_passed (h : p.ctl.state.picking = true) (hr : p.tablesRoom) : p.tableCheck = .ok () := by
  obtain ⟨hgroups, hreports⟩ := hr
  rw [tableCheck_eq, h, if_neg (by decide), if_neg (Nat.not_le.2 hgroups), if_neg (Nat.not_lt.2 hreports)]

theorem tableCheck_iff : p.tableCheck = .ok () ↔ p.ctl.state.picking = true ∧ p.tablesRoom := by
  refine ⟨fun h => ?_, fun h => tableCheck_passed h.1 h.2⟩
  cases hp : p.ctl.state.picking with
  | false => rw [tableCheck_stopped hp] at h; cases h
  | true =>
    refine ⟨rfl, ?_⟩
    by_contra hn
    rw [tableCheck_full hp hn] at h
    cases h

theorem canGrant_iff {b : BinId} {c : Nat} :
    p.canGrant b c = true ↔ c ≤ p.freeRoom b ∧ (p.stacker.bins.get b).full = false := by
  unfold Part.canGrant
  rw [Bool.and_eq_true, decide_eq_true_eq, Bool.not_eq_true']

theorem grantBin_eq_some {x y : Option BinId} {c : Nat} {b : BinId} : p.grantBin x y c = some b ↔
    p.canGrant b c = true ∧ (x = some b ∨ (∀ a, x = some a → ¬p.canGrant a c = true) ∧ y = some b) := by
  unfold Part.grantBin
  cases h : x.filter fun b => p.canGrant b c with
  | some a =>
    obtain ⟨hx, ha⟩ := Option.filter_eq_some_iff.1 h
    rw [Option.orElse_some, Option.some_inj]
    refine ⟨fun e => e ▸ ⟨ha, .inl hx⟩, fun ⟨_, e⟩ => ?_⟩
    rcases e with e | ⟨hn, -⟩
    · exact Option.some.inj (hx.symm.trans e)
    · exact absurd ha (hn a hx)
  | none =>
    have hn := Option.filter_eq_none_iff.1 h
    rw [Option.orElse_none, Option.filter_eq_some_iff, and_comm]
    exact and_congr_right fun hb => ⟨fun e => .inr ⟨hn, e⟩, fun e => e.elim (fun e => absurd hb (hn b e)) And.right⟩

theorem grantBin_eq_none {x y : Option BinId} {c : Nat} : p.grantBin x y c = none ↔
    ∀ b, x = some b ∨ y = some b → ¬p.canGrant b c = true := by
  refine ⟨fun h b hb hc => ?_, fun h => ?_⟩
  · by_cases hx : ∃ a, x = some a ∧ p.canGrant a c = true
    · obtain ⟨a, ha, hac⟩ := hx
      exact nomatch h.symm.trans (grantBin_eq_some.2 ⟨hac, .inl ha⟩)
    · have hy : y = some b := hb.resolve_left fun e => hx ⟨b, e, hc⟩
      exact nomatch h.symm.trans (grantBin_eq_some.2 ⟨hc, .inr ⟨fun a ha hac => hx ⟨a, ha, hac⟩, hy⟩⟩)
  · refine Option.eq_none_iff_forall_ne_some.2 fun b e => ?_
    obtain ⟨hc, hb⟩ := grantBin_eq_some.1 e
    exact h b (hb.imp id And.right) hc

theorem admissionCheck_no_bin {o : SheetOrder} {f : FirstFields} {m : MediaEntry} (ht : p.tableCheck = .ok ())
    (hm : p.media? o.media.toNat = some m)
    (hb : p.grantBin (p.logicalBin (p.route f.account).1).1 (p.logicalBin (p.route f.account).1).2 f.declared.toNat
      = none) : p.admissionCheck o f = .error .bin := by
  unfold Part.admissionCheck
  rw [ht, hm]
  dsimp only
  rw [hb]

theorem admissionCheck_no_pick {o : SheetOrder} {f : FirstFields} {m : MediaEntry} {b : BinId} {e : WaitReason}
    (ht : p.tableCheck = .ok ()) (hm : p.media? o.media.toNat = some m)
    (hb : p.grantBin (p.logicalBin (p.route f.account).1).1 (p.logicalBin (p.route f.account).1).2 f.declared.toNat
      = some b) (hp : p.pickCheck m = .error e) : p.admissionCheck o f = .error e := by
  unfold Part.admissionCheck
  rw [ht, hm]
  dsimp only
  rw [hb]
  dsimp only
  rw [hp]

theorem admissionCheck_granted {o : SheetOrder} {f : FirstFields} {m : MediaEntry} {b : BinId} {t : TrayId}
    (ht : p.tableCheck = .ok ()) (hm : p.media? o.media.toNat = some m)
    (hb : p.grantBin (p.logicalBin (p.route f.account).1).1 (p.logicalBin (p.route f.account).1).2 f.declared.toNat
      = some b) (hp : p.pickCheck m = .ok t) :
    p.admissionCheck o f = .ok ⟨b, (p.logicalBin (p.route f.account).1).2, (p.route f.account).2, m, t⟩ := by
  unfold Part.admissionCheck
  rw [ht, hm]
  dsimp only
  rw [hb]
  dsimp only
  rw [hp]

theorem admissionCheck_error {o : SheetOrder} {f : FirstFields} {e : WaitReason} (h : p.tableCheck = .error e) :
    p.admissionCheck o f = .error e := by
  unfold Part.admissionCheck
  rw [h]

theorem admissionCheck_unknown {o : SheetOrder} {f : FirstFields} (h : p.media? o.media.toNat = none) {g : Grant} :
    p.admissionCheck o f ≠ .ok g := by
  unfold Part.admissionCheck
  rw [h]
  cases p.tableCheck with
  | error e => nofun
  | ok u => nofun

theorem admissionCheck_iff {o : SheetOrder} {f : FirstFields} {g : Grant} : p.admissionCheck o f = .ok g ↔
    p.tableCheck = .ok () ∧ p.media? o.media.toNat = some g.media
    ∧ p.grantBin (p.logicalBin (p.route f.account).1).1 (p.logicalBin (p.route f.account).1).2 f.declared.toNat
        = some g.bin
    ∧ p.pickCheck g.media = .ok g.tray
    ∧ g.alternate = (p.logicalBin (p.route f.account).1).2 ∧ g.policy = (p.route f.account).2 := by
  constructor
  · intro h
    cases ht : p.tableCheck with
    | error e =>
      rw [admissionCheck_error ht] at h
      cases h
    | ok =>
      cases hm : p.media? o.media.toNat with
      | none => exact absurd h (admissionCheck_unknown hm)
      | some m =>
        cases hb : p.grantBin (p.logicalBin (p.route f.account).1).1 (p.logicalBin (p.route f.account).1).2
            f.declared.toNat with
        | none =>
          rw [admissionCheck_no_bin ht hm hb] at h
          cases h
        | some b =>
          cases hp : p.pickCheck m with
          | error e =>
            rw [admissionCheck_no_pick ht hm hb hp] at h
            cases h
          | ok t =>
            rw [admissionCheck_granted ht hm hb hp] at h
            cases h
            exact ⟨rfl, rfl, rfl, hp, rfl, rfl⟩
  · rintro ⟨ht, hm, hb, hp, ha, hpol⟩
    rw [admissionCheck_granted ht hm hb hp, ← ha, ← hpol]

/-! ### The waiting reason (R25, R58, R181) -/

theorem waitOf_pickCheck (m : MediaEntry) : waitOf (p.pickCheck m) =
    if 16 ≤ p.track.sheets.length then .track
    else if p.stagingTaken (p.pickTray m) then .tray
    else if p.purgeCapacity - p.stacker.purgeStacked < p.track.sheets.length + p.acc.sheets.length + 1 then .purgeRoom
    else .none := by
  rw [pickCheck_eq, apply_ite waitOf, apply_ite waitOf, apply_ite waitOf]
  rfl

theorem waitOf_no_bin {o : SheetOrder} {f : FirstFields} {m : MediaEntry} (ht : p.tableCheck = .ok ())
    (hm : p.media? o.media.toNat = some m)
    (hb : p.grantBin (p.logicalBin (p.route f.account).1).1 (p.logicalBin (p.route f.account).1).2 f.declared.toNat
      = none) : waitOf (p.admissionCheck o f) = .bin := by
  rw [admissionCheck_no_bin ht hm hb]
  rfl

theorem waitOf_bin {o : SheetOrder} {f : FirstFields} {m : MediaEntry} {b : BinId} (ht : p.tableCheck = .ok ())
    (hm : p.media? o.media.toNat = some m)
    (hb : p.grantBin (p.logicalBin (p.route f.account).1).1 (p.logicalBin (p.route f.account).1).2 f.declared.toNat
      = some b) : waitOf (p.admissionCheck o f) = waitOf (p.pickCheck m) := by
  cases hp : p.pickCheck m with
  | error e => rw [admissionCheck_no_pick ht hm hb hp]; rfl
  | ok t => rw [admissionCheck_granted ht hm hb hp]; rfl

theorem examines_of_picking {x : TransportState} (h : x.picking = true) : x.examines = true := by
  rcases picking_iff.1 h with rfl | rfl <;> rfl

theorem startBreak_eq_none {o : SheetOrder} {f : FirstFields} : p.startBreak o f = none ↔
    1 ≤ f.declared.toNat ∧ f.declared.toNat ≤ 64 ∧ p.media? o.media.toNat ≠ none := by
  unfold Part.startBreak
  split
  · exact ⟨nofun, fun h => by omega⟩
  · rw [ite_eq_right_iff, Option.isNone_iff_eq_none]
    exact ⟨fun h => ⟨by omega, by omega, fun e => nomatch h e⟩, fun h e => absurd e h.2.2⟩

/-- The waiting reason of a FIRST order at the head (R21, R25). -/
theorem orderWait_first {o : SheetOrder} {f : FirstFields} (ho : o.first = some f) (hp : p.ctl.state.picking = true)
    (hx : p.startBreak o f = none) : p.orderWait o = waitOf (p.admissionCheck o f) := by
  unfold Part.orderWait
  rw [examines_of_picking hp, ho]
  dsimp only
  rw [hx]
  rfl

theorem orderWait_broken {o : SheetOrder} {f : FirstFields} {x : BreakReason} (ho : o.first = some f)
    (hp : p.ctl.state.picking = true) (hx : p.startBreak o f = some x) : p.orderWait o = waitOf p.tableCheck := by
  unfold Part.orderWait
  rw [examines_of_picking hp, ho]
  dsimp only
  rw [hx]
  rfl

/-- No FIRST order is taken, and none waits, outside WARMUP and RUNNING. -/
theorem orderWait_stopped {o : SheetOrder} (hp : p.ctl.state.picking = false) : p.orderWait o = .none := by
  unfold Part.orderWait
  split
  · rfl
  · split
    · rename_i f _
      cases p.startBreak o f with
      | none => rw [admissionCheck_error (tableCheck_stopped hp)]; rfl
      | some x => rw [tableCheck_stopped hp]; rfl
    · rw [hp]
      rfl

theorem orderWait_further {o : SheetOrder} {g : Group} {m : MediaEntry} (ho : o.first = none)
    (hp : p.ctl.state.picking = true) (hg : p.openGroup? = some g) (hs : g.state = .admitting) (hid : g.id = o.group)
    (hm : p.media? o.media.toNat = some m) : p.orderWait o = waitOf (p.pickCheck m) := by
  unfold Part.orderWait
  rw [examines_of_picking hp, ho, hp, hg, hm, if_neg (by decide)]
  dsimp only
  rw [if_neg (by decide), hs, hid, beq_self_eq_true, beq_self_eq_true]
  rfl

/-- A further order of no ADMITTING open group does not wait. -/
theorem orderWait_other {o : SheetOrder} (ho : o.first = none)
    (hg : ∀ g, p.openGroup? = some g → g.state ≠ .admitting ∨ g.id ≠ o.group) : p.orderWait o = .none := by
  unfold Part.orderWait
  rw [ho]
  split
  · rfl
  · dsimp only
    split
    · rfl
    · split
      · rename_i g m hgo _
        refine if_neg fun h => ?_
        rw [Bool.and_eq_true, beq_iff_eq, beq_iff_eq] at h
        exact (hg g hgo).elim (absurd h.1) (absurd h.2)
      · rfl

theorem plannerWait_order {o : SheetOrder} {rest : List Queued} (h : p.link.orders = .order o :: rest) :
    p.plannerWait = p.orderWait o := by
  unfold Part.plannerWait
  rw [h]

theorem plannerWait_load {t : TableId} {i : Nat} {b : List Byte} {rest : List Queued}
    (h : p.link.orders = .load t i b :: rest) :
    p.plannerWait = if p.link.reports.length < 64 ∧ p.anyHeld = false then .none else .report := by
  have hroom : p.loadRoom = true ↔ p.link.reports.length < 64 ∧ p.anyHeld = false := by
    unfold Part.loadRoom
    rw [Bool.and_eq_true, reportRoom_iff, Bool.not_eq_true']
  unfold Part.plannerWait
  rw [h]
  dsimp only
  rw [if_congr hroom rfl rfl]

theorem plannerWait_other (h : p.link.orders = [] ∨ p.link.orders.head? = some .stop ∨ p.link.orders.head? = some .purge) :
    p.plannerWait = .none := by
  unfold Part.plannerWait
  cases hl : p.link.orders with
  | nil => rfl
  | cons x rest =>
    rw [hl] at h
    cases x with
    | stop | purge => rfl
    | order o | load t i b => simp at h

theorem reportedWait_of_none : p.reportedWait .none = if p.trayWait then .tray else .none := rfl

theorem reportedWait_of_ne {w : WaitReason} (h : w ≠ .none) : p.reportedWait w = w := by
  cases w with
  | none => exact absurd rfl h
  | tray | bin | report | track | purgeRoom => rfl

end
end Sys2Proof.Machine

namespace Sys2Proof.Machine

section
variable {p q : Part}

/-! ### Admission exactly when its conditions hold (R22, R23, R25, R48, R49, R58) -/

theorem admitted_iff (o : SheetOrder) (f : FirstFields) (g : Grant) : p.admissionCheck o f = .ok g ↔
    (p.ctl.state = .warmup ∨ p.ctl.state = .running) ∧ p.groups.entries.length < 16
    ∧ p.link.reports.length + (p.groups.entries.length + 1) + 6 ≤ 64
    ∧ p.media? o.media.toNat = some g.media ∧ g.policy = (p.route f.account).2
    ∧ g.alternate = (p.logicalBin (p.route f.account).1).2
    ∧ (let can (b : BinId) : Prop := f.declared.toNat ≤ p.freeRoom b ∧ (p.stacker.bins.get b).full = false
       let primary := (p.logicalBin (p.route f.account).1).1
       can g.bin ∧ (primary = some g.bin ∨ ((∀ b, primary = some b → ¬ can b) ∧ g.alternate = some g.bin)))
    ∧ p.track.sheets.length < 16 ∧ g.tray = p.pickTray g.media
    ∧ (p.feeders.get g.tray).holder = none ∧ p.sensors.staging.get g.tray = false
    ∧ (p.feeders.get g.tray).abandoned = false
    ∧ p.track.sheets.length + p.acc.sheets.length + 1 ≤ p.purgeCapacity - p.stacker.purgeStacked := by
  rw [admissionCheck_iff, tableCheck_iff, picking_iff, grantBin_eq_some, pickCheck_iff, stagingTaken_eq_false]
  simp only [canGrant_iff]
  constructor
  · rintro ⟨⟨hs, hg, hr⟩, hm, hb, ⟨htrack, ht, hstage, hpurge⟩, ha, hpol⟩
    rw [← ht] at hstage
    rw [← ha] at hb
    exact ⟨hs, hg, hr, hm, hpol, ha, hb, htrack, ht, hstage.1, hstage.2.1, hstage.2.2, hpurge⟩
  · rintro ⟨hs, hg, hr, hm, hpol, ha, hb, htrack, ht, hholder, hlevel, hmark, hpurge⟩
    rw [ha] at hb
    exact ⟨⟨hs, hg, hr⟩, hm, hb, ⟨htrack, ht, ht ▸ ⟨hholder, hlevel, hmark⟩, hpurge⟩, ha, hpol⟩

/-- The first entry that an account class matches (R22). -/
theorem route_first {a : Half} {before after : List RoutingEntry} {e : RoutingEntry}
    (h : p.tables.routing = before ++ e :: after)
    (hb : ∀ x ∈ before, ¬(x.valid = true ∧ a &&& x.mask = x.value &&& x.mask))
    (he : e.valid = true ∧ a &&& e.mask = e.value &&& e.mask) :
    p.route a = (e.bin, if e.jog = 1 then .alternate else .fixed) := by
  refine route_of_hit ?_
  rw [h, List.find?_append, List.find?_eq_none.2 fun x hx hm => hb x hx (hit_iff.1 hm), Option.none_or,
    List.find?_cons_of_pos (hit_iff.2 he)]

theorem route_none {a : Half}
    (h : ∀ e ∈ p.tables.routing, ¬(e.valid = true ∧ a &&& e.mask = e.value &&& e.mask)) :
    p.route a = (p.params.defaultLbin, .fixed) :=
  route_of_no_hit (List.find?_eq_none.2 fun e he hm => h e he (hit_iff.1 hm))

/-- The waiting reason of a FIRST order whose count and media are valid: no bin, or the first pick condition that fails. -/
theorem orderWait_valid {o : SheetOrder} {f : FirstFields} {m : MediaEntry} (ho : o.first = some f)
    (hp : p.ctl.state.picking = true) (hr : p.tablesRoom) (hlo : 1 ≤ f.declared.toNat) (hhi : f.declared.toNat ≤ 64)
    (hm : p.media? o.media.toNat = some m) :
    p.orderWait o = if p.grantBin (p.logicalBin (p.route f.account).1).1 (p.logicalBin (p.route f.account).1).2
      f.declared.toNat = none then .bin else waitOf (p.pickCheck m) := by
  rw [orderWait_first ho hp (startBreak_eq_none.2 ⟨hlo, hhi, by rw [hm]; nofun⟩)]
  split
  · rename_i hb
    exact waitOf_no_bin (tableCheck_passed hp hr) hm hb
  · rename_i hb
    obtain ⟨b, hb⟩ := Option.ne_none_iff_exists'.1 hb
    exact waitOf_bin (tableCheck_passed hp hr) hm hb

theorem orderWait_full {o : SheetOrder} {f : FirstFields} (ho : o.first = some f) (hp : p.ctl.state.picking = true)
    (hn : ¬p.tablesRoom) : p.orderWait o = .report := by
  have ht := tableCheck_full hp hn
  cases hx : p.startBreak o f with
  | none => rw [orderWait_first ho hp hx, admissionCheck_error ht]; rfl
  | some x => rw [orderWait_broken ho hp hx, ht]; rfl

theorem orderWait_invalid {o : SheetOrder} {f : FirstFields} (ho : o.first = some f) (hp : p.ctl.state.picking = true)
    (hr : p.tablesRoom)
    (hx : f.declared.toNat < 1 ∨ 64 < f.declared.toNat ∨ p.media? o.media.toNat = none) : p.orderWait o = .none := by
  have hsome : p.startBreak o f ≠ none := fun e => by
    obtain ⟨hlo, hhi, hm⟩ := startBreak_eq_none.1 e
    exact hx.elim (fun h => by omega) (Or.elim · (fun h => by omega) hm)
  obtain ⟨x, hx⟩ := Option.ne_none_iff_exists'.1 hsome
  rw [orderWait_broken ho hp hx, tableCheck_passed hp hr]
  rfl

/-- A stall, or a pick left open in DRAINING (R58). -/
theorem trayWait_eq : p.trayWait = p.track.sheets.any fun x =>
    decide (x.state = .picking ∧ ((p.feeders.get x.tray).request = false ∨ p.ctl.state = .draining)) := by
  unfold Part.trayWait
  congr 1
  funext x
  unfold Part.stalled
  rw [Bool.eq_iff_iff, decide_eq_true_eq, Bool.or_eq_true, Bool.and_eq_true, Bool.and_eq_true, Bool.not_eq_true',
    beq_iff_eq, beq_iff_eq]
  exact ⟨fun h => h.elim (fun h => ⟨h.1, .inl h.2⟩) fun h => ⟨h.2, .inr h.1⟩,
    fun h => h.2.imp (fun e => ⟨h.1, e⟩) fun e => ⟨e, h.1⟩⟩

/-- Settles O37: the conditions one by one, each in the order in which it is tested. -/
theorem admissionNeedsItsConditions : Obligations.AdmissionNeedsItsConditions := by
  refine ⟨fun p => admitted_iff, fun p a => ⟨fun before e after h hb he => route_first h hb he, route_none⟩,
    fun p m t ht => ?_, fun p => ?_⟩
  · have hnot : ∀ {u}, ¬((p.feeders.get u).state = .ready ∨ (p.feeders.get u).state = .low) → p.usable u = false :=
      fun h => Bool.eq_false_iff.2 fun e => h (usable_iff.1 e)
    obtain ⟨hfirst, hsecond, hneither⟩ := pickTray_cases (p := p) ht
    exact ⟨fun h => hfirst (usable_iff.2 h), fun h u hu hus => hsecond (hnot h) u hu (usable_iff.2 hus),
      fun h ha => hneither (hnot h) fun u hu => hnot (ha u hu)⟩
  have hexamines : decide (p.ctl.state = .warmup ∨ p.ctl.state = .running) = p.ctl.state.picking := by
    rw [Bool.eq_iff_iff, decide_eq_true_eq, picking_iff]
  have hcan : ∀ {b c}, (c ≤ p.freeRoom b ∧ (p.stacker.bins.get b).full = false) ↔ p.canGrant b c = true :=
    canGrant_iff.symm
  have htables : decide (p.groups.entries.length < 16
      ∧ p.link.reports.length + (p.groups.entries.length + 1) + 6 ≤ 64) = true ↔ p.tablesRoom := decide_eq_true_iff
  dsimp only
  rw [hexamines]
  refine ⟨fun o f rest h ho => ?_, fun o rest h ho => ?_, fun t i b rest h => plannerWait_load h,
    plannerWait_other, fun w => ?_⟩
  · rw [plannerWait_order h]
    refine ⟨fun hp => orderWait_stopped hp, fun hp hn => orderWait_full ho hp (htables.not.1 (Bool.eq_false_iff.1 hn)), fun hp hr =>
      ⟨orderWait_invalid ho hp (htables.1 hr), fun m hlo hhi hm => ?_⟩⟩
    rw [orderWait_valid ho hp (htables.1 hr) hlo hhi hm]
    simp only [hcan]
    refine ⟨fun hn => if_pos (grantBin_eq_none.2 hn), fun b hb hc => ?_⟩
    rw [if_neg fun e => grantBin_eq_none.1 e b hb hc]
    exact waitOf_pickCheck m
  · rw [plannerWait_order h]
    refine ⟨fun g m hp hg hs hid hm => ?_, fun hn => ?_⟩
    · rw [orderWait_further ho hp hg hs hid hm]
      exact waitOf_pickCheck m
    · exact hn.elim orderWait_stopped (orderWait_other ho)
  · by_cases hw : w = .none
    · rw [hw, reportedWait_of_none, trayWait_eq]
      rfl
    · rw [reportedWait_of_ne hw, if_pos hw]

end
end Sys2Proof.Machine

namespace Sys2Proof.Machine

section
variable {p q : Part}

/-! ### The record at the head (R19, R179) -/

/-- The part with another Stream Link. -/
def Part.linked (p : Part) (l : Link) : Part := { p with link := l }

/-- A record taken changes the Stream Link alone. -/
theorem takeHead_eq (p : Part) : ∃ l, p.takeHead = p.linked l ∧ l.orders = p.link.orders.tail :=
  ⟨p.takeHead.link, congrArg (fun x : Part => { x with link := p.takeHead.link }) (takeHead_same p),
    (takeHead_leaves p).2⟩

theorem headOrder_eq {o : SheetOrder} {rest : List Queued} (h : p.link.orders = .order o :: rest)
    (hx : p.ctl.state.examines = true) : p.headOrder = some o := by
  unfold Part.headOrder
  rw [h]
  exact if_pos hx

theorem takeHead_orders {x : Queued} {rest : List Queued} (h : p.link.orders = x :: rest) :
    p.takeHead.link.orders = rest := by
  rw [(takeHead_leaves p).2, h]
  rfl

/-! ### An order taken into a pick (R50) -/

/-- What a pick reads and leaves beside the groups. -/
def Part.pickView (p : Part) : Track × PerTray Feeder × Clock × Tables × List Message :=
  (p.track, p.feeders, p.clock, p.tables, p.sent)

theorem Part.PickedAs.congr {p' q' : Part} {x : Sheet} {t : TrayId} (h : p.PickedAs q x t)
    (hp : p'.pickView = p.pickView) (hq : q'.pickView = q.pickView) : p'.PickedAs q' x t := by
  unfold Part.pickView at hp hq
  simp only [Prod.mk.injEq] at hp hq
  obtain ⟨hptrack, hpfeeders, hpclock, hptables, hpsent⟩ := hp
  obtain ⟨hqtrack, hqfeeders, -, -, hqsent⟩ := hq
  unfold Part.PickedAs Part.params at *
  rw [hptrack, hpfeeders, hpclock, hptables, hpsent, hqtrack, hqfeeders, hqsent]
  exact h

theorem takeIntoPick_pickedAs (p : Part) (o : SheetOrder) (m : MediaEntry) (k : GroupKey) (t : TrayId) :
    p.PickedAs (p.takeIntoPick o m k t) (p.freshSheet o m k t) t := by
  have hget : ∀ u, (p.feeders.set t { p.feeders.get t with holder := some p.track.nextSeq }).get u
      = if u = t then { p.feeders.get t with holder := some p.track.nextSeq } else p.feeders.get u := fun u =>
    PerTray.get_set ..
  have husable : TrayState.usable ((p.feeders.set t { p.feeders.get t with holder := some p.track.nextSeq }).get t).state
      = p.usable t := by
    rw [hget, if_pos rfl]
    rfl
  have heq : p.takeIntoPick o m k t = if p.usable t
      then Part.requestPick ((p.picked o m k t).mapFeeder t fun f => { f with holder := some p.track.nextSeq }) t
      else (p.picked o m k t).mapFeeder t fun f => { f with holder := some p.track.nextSeq } := by
    rw [← husable]
    rfl
  rw [heq]
  by_cases hu : p.usable t = true
  · rw [if_pos hu]
    refine ⟨rfl, fun u hut => ?_, fun _ => ⟨?_, rfl⟩, fun hr hl => absurd (usable_iff.1 hu) (not_or.2 ⟨hr, hl⟩)⟩
    · refine (PerTray.get_set ..).trans ((if_neg hut).trans ?_)
      exact (PerTray.get_set ..).trans (if_neg hut)
    · refine (PerTray.get_set ..).trans ((if_pos rfl).trans ?_)
      exact congrArg (fun f : Feeder => { f with request := true, deadline := some (p.after p.params.pickLimit) })
        ((PerTray.get_set ..).trans (if_pos rfl))
  · rw [if_neg hu]
    exact ⟨rfl, fun u hut => (PerTray.get_set ..).trans (if_neg hut), fun h => absurd (usable_iff.2 h) hu,
      fun _ _ => ⟨(PerTray.get_set ..).trans (if_pos rfl), rfl⟩⟩

theorem takeIntoPick_link (p : Part) (o : SheetOrder) (m : MediaEntry) (k : GroupKey) (t : TrayId) :
    (p.takeIntoPick o m k t).link = p.link ∧ (p.takeIntoPick o m k t).ctl = p.ctl := by
  unfold Part.takeIntoPick
  dsimp only
  split <;> exact ⟨rfl, rfl⟩

/-! ### The LAST order (R31, R144) -/

theorem closeIfLast_leaves (p : Part) (o : SheetOrder) (k : GroupKey) : (p.closeIfLast o k).link = p.link
    ∧ (p.closeIfLast o k).ctl = p.ctl ∧ (p.closeIfLast o k).pickView = p.pickView := by
  unfold Part.closeIfLast
  split <;> exact ⟨rfl, rfl, rfl⟩

theorem closeIfLast_false {o : SheetOrder} (k : GroupKey) (h : o.last = false) : p.closeIfLast o k = p := by
  unfold Part.closeIfLast
  rw [h]
  rfl

theorem closeIfLast_true {o : SheetOrder} (k : GroupKey) (h : o.last = true) :
    p.closeIfLast o k = p.closeIntact k o.tag := by
  unfold Part.closeIfLast
  rw [h]
  rfl

/-- The room of a group closed intact is cut to the sheets accepted (R144). -/
theorem closeIntact_allowances {k : GroupKey} {g : Group} (tag : Half) (h : p.group? k = some g) :
    (p.closeIntact k tag).stacker.allowances
      = p.stacker.allowances.map fun a => if a.group = k then { a with count := g.accepted } else a := by
  unfold Part.closeIntact
  rw [h]
  exact List.map_congr_left fun a _ => if_congr beq_iff_eq rfl rfl

/-! ### GROUP_ADMISSION (R23, R24, R31, R143) -/

theorem groupAdmission_eq {o : SheetOrder} {f : FirstFields} {g : Grant} (hh : p.headOrder = some o)
    (ho : o.first = some f) (hopen : p.planner.openGroup = none) (hlo : 1 ≤ f.declared.toNat)
    (hhi : f.declared.toNat ≤ 64) (hg : p.admissionCheck o f = .ok g) :
    p.groupAdmission = some (p.openGroupWith o f g) := by
  have hx : p.startBreak o f = none :=
    startBreak_eq_none.2 ⟨hlo, hhi, by rw [(admissionCheck_iff.1 hg).2.1]; nofun⟩
  unfold Part.groupAdmission
  rw [hh]
  dsimp only
  rw [ho]
  dsimp only
  rw [truncate_none hopen, hx, hg]

/-- What an admission leaves, before the close by a LAST order. -/
theorem opened_picked (o : SheetOrder) (f : FirstFields) (g : Grant)
    (hkeys : ∀ x ∈ p.groups.entries, x.key < p.groups.nextKey) :
    let r := (p.opened o f g).takeIntoPick o g.media p.groups.nextKey g.tray
    r.groups.entries = p.groups.entries ++ [admitted p.groups.nextKey o f g]
    ∧ r.planner.openGroup = some p.groups.nextKey
    ∧ r.stacker.allowances = p.stacker.allowances
        ++ [{ group := p.groups.nextKey, bin := g.bin, count := f.declared.toNat, alternate := g.alternate }] := by
  have hb := takeIntoPick_bills (p.opened o f g) o g.media p.groups.nextKey g.tray
  exact ⟨(congrArg (fun v => v.groups.entries) hb).trans (opened_entries o f g hkeys), congrArg BillView.openGroup hb,
    congrArg BillView.allowances hb⟩

theorem admitted_group? {k : GroupKey} {l : List Group} {g : Group} (he : p.groups.entries = l ++ [g]) (hk : g.key = k)
    (hl : ∀ x ∈ l, x.key ≠ k) : p.group? k = some g := by
  unfold Part.group?
  rw [he, List.find?_append, List.find?_eq_none.2 fun x hx => by simpa using hl x hx, Option.none_or]
  exact List.find?_cons_of_pos (p := fun g : Group => g.key == k) (beq_iff_eq.2 hk)

/-- The entry of the new group, closed intact by a LAST order. -/
theorem closeIntact_last {k : GroupKey} {l : List Group} {g : Group} (tag : Half) (he : p.groups.entries = l ++ [g])
    (hk : g.key = k) (hl : ∀ x ∈ l, x.key ≠ k) :
    (p.closeIntact k tag).groups.entries = l ++ [{ g with lastTag := some tag, state := .closed }] := by
  subst hk
  refine Eq.trans ?_ (map_last (fun g => { g with lastTag := some tag, state := .closed }) hl)
  rw [← he]
  rfl

/-- Settles O38: the new entry comes last, the pick adds its sheet, and a LAST order cuts the room to that sheet. -/
theorem admissionOpensTheGroup : Obligations.AdmissionOpensTheGroup := by
  intro s o f g rest horders ho hopen hlo hhi hcheck hagree hroom
  have hkeys : ∀ x ∈ s.groups.entries, x.key < s.groups.nextKey := fun x hx => (hagree.2.1 x hx).1
  have hpicking := (tableCheck_iff.1 (admissionCheck_iff.1 hcheck).1).1
  have hevent : s.toPart.start.groupAdmission = some (s.toPart.start.openGroupWith o f g) :=
    groupAdmission_eq (headOrder_eq horders (examines_of_picking hpicking)) ho hopen hlo hhi hcheck
  obtain ⟨l, hl, hrest⟩ := takeHead_eq s.toPart.start
  have hrest : l.orders = rest := hrest.trans (congrArg List.tail horders)
  rw [openGroupWith_eq, hl] at hevent
  have hleft := opened_picked (p := s.toPart.start.linked l) o f g hkeys
  have hpick := takeIntoPick_pickedAs ((s.toPart.start.linked l).opened o f g) o g.media s.groups.nextKey g.tray
  have hlink := takeIntoPick_link ((s.toPart.start.linked l).opened o f g) o g.media s.groups.nextKey g.tray
  have hkey : (s.toPart.start.linked l).groups.nextKey = s.groups.nextKey := rfl
  dsimp only at hleft
  rw [hkey] at hleft
  generalize hr : ((s.toPart.start.linked l).opened o f g).takeIntoPick o g.media s.groups.nextKey g.tray
    = r at hleft hpick hlink
  obtain ⟨hentries, hplanner, hallow⟩ := hleft
  obtain ⟨hclink, hcctl, hcview⟩ := closeIfLast_leaves r o s.groups.nextKey
  refine ⟨r.closeIfLast o s.groups.nextKey, ?_, ?_, hcctl.trans hlink.2, hpick.congr rfl hcview, fun h => ?_, fun h => ?_⟩
  · rw [exec_groupAdmission, attempt_some hevent, ← hr]
    rfl
  · rw [hclink, hlink.1]
    exact hrest
  · rw [closeIfLast_false _ h]
    exact ⟨hentries, hplanner, hallow⟩
  · have hold : ∀ x ∈ s.groups.entries, x.key ≠ s.groups.nextKey := fun x hx => Nat.ne_of_lt (hkeys x hx)
    rw [closeIfLast_true _ h]
    refine ⟨closeIntact_last o.tag hentries rfl hold, rfl, ?_⟩
    have hgroup : r.group? s.groups.nextKey = some (admitted s.groups.nextKey o f g) := admitted_group? hentries rfl hold
    have hrooms : s.stacker.allowances.map (fun a => if a.group = s.groups.nextKey then { a with count := 1 } else a)
        = s.stacker.allowances := (List.map_congr_left fun a ha => if_neg (hroom a ha)).trans (List.map_id' _)
    refine (closeIntact_allowances o.tag hgroup).trans ?_
    rw [hallow, List.map_append]
    refine congrArg₂ (· ++ ·) hrooms ?_
    rw [List.map_cons, if_pos rfl]
    rfl

end
end Sys2Proof.Machine

namespace Sys2Proof.Machine

section
variable {p q : Part}

/-! ### BROKEN_FROM_START (R21) -/

theorem startBreak_eq {o : SheetOrder} {f : FirstFields} {r : BreakReason}
    (h : (f.declared.toNat < 1 ∨ 64 < f.declared.toNat) ∧ r = .count
      ∨ (1 ≤ f.declared.toNat ∧ f.declared.toNat ≤ 64 ∧ p.media? o.media.toNat = none) ∧ r = .media) :
    p.startBreak o f = some r := by
  unfold Part.startBreak
  rcases h with ⟨h, rfl⟩ | ⟨⟨hlo, hhi, hm⟩, rfl⟩
  · exact if_pos h
  · rw [if_neg (by omega), hm]
    rfl

theorem brokenFromStart_eq {o : SheetOrder} {f : FirstFields} {r : BreakReason} (hh : p.headOrder = some o)
    (ho : o.first = some f) (hopen : p.planner.openGroup = none) (hx : p.startBreak o f = some r)
    (ht : p.tableCheck = .ok ()) : p.brokenFromStart = some (p.openBroken o f r) := by
  unfold Part.brokenFromStart
  rw [hh]
  dsimp only
  rw [ho]
  dsimp only
  rw [truncate_none hopen, hx, ht]

theorem openBroken_last {o : SheetOrder} (f : FirstFields) (r : BreakReason) (h : o.last = true) :
    p.openBroken o f r
      = p.takeHead.addGroup (unfedGroup p.groups.nextKey o f r .brokenClosed (some o.tag)) := by
  unfold Part.openBroken
  rw [h]
  rfl

theorem openBroken_open {o : SheetOrder} (f : FirstFields) (r : BreakReason) (h : o.last = false) :
    p.openBroken o f r = (p.takeHead.addGroup (unfedGroup p.groups.nextKey o f r .brokenOpen none)).setOpen
      p.groups.nextKey := by
  unfold Part.openBroken
  rw [h]
  rfl

/-- Settles O39: the order leaves the queue and its group's entry comes last, broken and with the one order unfed. -/
theorem brokenFromTheStart : Obligations.BrokenFromTheStart := by
  intro s o f r rest horders ho hopen hstate hgroups hreports hbreak
  have hpicking : s.ctl.state.picking = true := picking_iff.2 hstate
  have hevent := brokenFromStart_eq (p := s.toPart.start) (headOrder_eq horders (examines_of_picking hpicking)) ho hopen
    (startBreak_eq hbreak) (tableCheck_passed hpicking ⟨hgroups, hreports⟩)
  obtain ⟨l, hl, hrest⟩ := takeHead_eq s.toPart.start
  have hrest : l.orders = rest := hrest.trans (congrArg List.tail horders)
  cases hlast : o.last with
  | true =>
    rw [openBroken_last f r hlast, hl] at hevent
    refine ⟨(s.toPart.start.linked l).addGroup (unfedGroup s.groups.nextKey o f r .brokenClosed (some o.tag)), ?_, hrest,
      rfl, hopen, rfl, rfl, rfl, rfl, rfl⟩
    rw [exec_brokenFromStart, attempt_some hevent]
    rfl
  | false =>
    rw [openBroken_open f r hlast, hl] at hevent
    refine ⟨((s.toPart.start.linked l).addGroup (unfedGroup s.groups.nextKey o f r .brokenOpen none)).setOpen
      s.groups.nextKey, ?_, hrest, rfl, rfl, rfl, rfl, rfl, rfl, rfl⟩
    rw [exec_brokenFromStart, attempt_some hevent]
    rfl

end
end Sys2Proof.Machine

namespace Sys2Proof.Machine

section
variable {p q : Part} {k : CoalescedKind} {f : Report → Report} {r x : Report}

/-! ### An occurrence where the queue is full or a record of its kind stands (R186, R187) -/

theorem occur_holds (h : p.queuedOf k = 0) (hh : p.link.held.slots.get k = none) (hr : 64 ≤ p.link.reports.length) :
    p.occur k x f = { p with link := { p.link with held := { p.link.held with
      slots := p.link.held.slots.set k (some x) } } } := by
  unfold Part.occur
  rw [if_neg (sendingKind_of_queuedOf h), if_neg (by rw [queuedOf_eq_zero h]; decide), hh]
  exact if_neg fun e => absurd ((reportRoom_iff p).1 e) (Nat.not_lt.2 hr)

theorem occur_refreshes_held (h : p.queuedOf k = 0) (hh : p.link.held.slots.get k = some r) :
    p.occur k x f = { p with link := { p.link with held := { p.link.held with
      slots := p.link.held.slots.set k (some (f r)) } } } := by
  unfold Part.occur
  rw [if_neg (sendingKind_of_queuedOf h), if_neg (by rw [queuedOf_eq_zero h]; decide), hh]

theorem occur_refreshes_queued {pre post : List Report} (hs : p.sendingKind ≠ some k)
    (hr : p.link.reports = pre ++ r :: post) (hk : r.kind = some k) (ho : ∀ y ∈ pre ++ post, y.kind ≠ some k) :
    p.occur k x f = { p with link := { p.link with reports := pre ++ f r :: post } } := by
  have hany : (p.link.reports.any fun y => y.kind == some k) = true :=
    List.any_eq_true.2 ⟨r, by rw [hr]; exact List.mem_append_right _ (List.mem_cons_self ..), beq_iff_eq.2 hk⟩
  have hsame : ∀ {l : List Report}, (∀ y ∈ l, y.kind ≠ some k) →
      l.map (fun y => if y.kind == some k then f y else y) = l := fun h =>
    (List.map_congr_left fun y hy => if_neg (by simpa using h y hy)).trans (List.map_id' _)
  unfold Part.occur
  rw [if_neg hs, if_pos hany, hr, List.map_append, List.map_cons, if_pos (beq_iff_eq.2 hk),
    hsame fun y hy => ho y (List.mem_append_left _ hy), hsame fun y hy => ho y (List.mem_append_right _ hy)]

theorem occur_pends (hs : p.sendingKind = some k) (hw : p.link.waiting.get k = none) :
    p.occur k x f = { p with link := { p.link with waiting := p.link.waiting.set k (some x) } } := by
  unfold Part.occur
  rw [if_pos hs, hw]

theorem occur_refreshes_pending (hs : p.sendingKind = some k) (hw : p.link.waiting.get k = some r) :
    p.occur k x f = { p with link := { p.link with waiting := p.link.waiting.set k (some (f r)) } } := by
  unfold Part.occur
  rw [if_pos hs, hw]

/-! ### A STREAM FAULT occurrence (R187, R189) -/

theorem plus_sum (f d : StreamFault) : f.Sum d (f.plus d) := by
  refine ⟨rfl, rfl, rfl, rfl, rfl, ?_⟩
  show (d.lastRefused.orElse fun _ => f.lastRefused) = _
  cases d.lastRefused <;> rfl

theorem streamFault_counted (p : Part) (d : StreamFault) : p.Counted (p.streamFault d) d := by
  refine ⟨fun h hh hr => ?_, fun h hh hr => ?_, fun f h hh => ?_, fun pre f post hr hs ho => ?_, fun hs => ?_⟩
  · unfold Part.streamFault
    rw [occur_appends _ _ h hh hr]
    exact ⟨rfl, rfl, rfl⟩
  · unfold Part.streamFault
    rw [occur_holds h hh hr]
    exact ⟨rfl, rfl, rfl⟩
  · unfold Part.streamFault
    rw [occur_refreshes_held h hh]
    exact ⟨rfl, rfl, f.plus d, rfl, plus_sum f d⟩
  · unfold Part.streamFault
    rw [occur_refreshes_queued hs hr rfl ho]
    exact ⟨rfl, rfl, f.plus d, rfl, plus_sum f d⟩
  · unfold Part.streamFault
    cases hw : p.link.waiting.streamFault with
    | none =>
      rw [occur_pends hs hw]
      exact ⟨rfl, rfl, fun _ => rfl, nofun⟩
    | some r =>
      rw [occur_refreshes_pending hs hw]
      refine ⟨rfl, rfl, nofun, fun f e => ?_⟩
      cases e
      exact ⟨f.plus d, rfl, plus_sum f d⟩

/-- What is counted is read off the Stream Link alone. -/
theorem Part.Counted.congr {p' q' : Part} {d : StreamFault} (h : p.Counted q d) (hp : p'.link = p.link)
    (hq : q'.link = q.link) : p'.Counted q' d := by
  unfold Part.Counted Part.sendingKind Part.queuedOf at *
  rw [hp, hq]
  exact h

end
end Sys2Proof.Machine

namespace Sys2Proof.Machine

section
variable {p q : Part} {k : GroupKey} {g : Group}

/-! ### Orders discarded as unfed (R32) -/

/-- A BROKEN_OPEN entry with one more order, unfed. -/
def Group.discarded (o : SheetOrder) (st : GroupState) (g : Group) : Group :=
  { g with
    accepted := g.accepted + 1, unfed := g.unfed + 1, state := st
    lastTag := if o.last then some o.tag else g.lastTag }

/-- What a discard leaves of a part. -/
structure Part.DiscardedAs (p q : Part) (k : GroupKey) (g : Group) (o : Option GroupKey) : Prop where
  entry : q.group? k = some g
  openGroup : q.planner.openGroup = o
  orders : q.link.orders = p.link.orders.tail
  track : q.track = p.track
  feeders : q.feeders = p.feeders
  stacker : q.stacker = p.stacker

/-- A change of one entry and of the open group, with the head record taken. -/
theorem discardedAs_of {f : Group → Group} {x : Group} {o : Option GroupKey} (hg : p.group? k = some g)
    (hf : ∀ y, (f y).key = y.key) (hx : f g = x)
    (hq : q = { p.takeHead.mapGroup k f with planner := { p.takeHead.planner with openGroup := o } }) :
    p.DiscardedAs q k x o := by
  obtain ⟨l, hl, hrest⟩ := takeHead_eq p
  rw [hq, hl]
  refine ⟨(mapGroup_group? (p.linked l) k hf).trans ?_, rfl, hrest, rfl, rfl, rfl⟩
  rw [show (p.linked l).group? k = some g from hg, ← hx]
  rfl

theorem discard_closes (o : SheetOrder) (hg : p.group? k = some g) (hs : g.state = .brokenOpen) 
    (h : o.last = true ∨ 63 ≤ g.accepted) :
    p.DiscardedAs (p.discard o k) k (g.discarded o .brokenClosed) none := by
  have hentry : (p.takeHead.mapGroup k fun g => { g with accepted := g.accepted + 1, unfed := g.unfed + 1 }).group? k
      = some { g with accepted := g.accepted + 1, unfed := g.unfed + 1 } :=
    (mapGroup_group? _ k (f := fun g => { g with accepted := g.accepted + 1, unfed := g.unfed + 1 }) fun _ => rfl).trans
      (by rw [(group?_of_bills (takeHead_bills p) k).trans hg]; rfl)
  cases hl : o.last with
  | true =>
    refine discardedAs_of (f := fun g => { g with
      accepted := g.accepted + 1, unfed := g.unfed + 1, state := .brokenClosed, lastTag := some o.tag }) hg
      (fun _ => rfl) ?_ ?_
    · unfold Group.discarded
      rw [hl]
      rfl
    · unfold Part.discard
      dsimp only
      rw [hl, if_pos rfl, mapGroup_mapGroup _ _ fun _ => by rfl]
      rfl
  | false =>
    refine discardedAs_of (f := fun g => { g with
      accepted := g.accepted + 1, unfed := g.unfed + 1, state := .brokenClosed }) hg (fun _ => rfl) ?_ ?_
    · unfold Group.discarded
      rw [hl]
      rfl
    · have hcap : 64 ≤ g.accepted + 1 := by
        have := h.resolve_left (by rw [hl]; decide)
        omega
      unfold Part.discard Part.closeAtCap
      dsimp only
      rw [hl, if_neg (by decide), hentry]
      dsimp only
      rw [if_pos ⟨hs, hcap⟩, mapGroup_mapGroup _ _ fun _ => by rfl]
      rfl

theorem discard_stays (o : SheetOrder) (hg : p.group? k = some g) (hs : g.state = .brokenOpen) 
    (h : ¬(o.last = true ∨ 63 ≤ g.accepted)) :
    p.DiscardedAs (p.discard o k) k (g.discarded o .brokenOpen) p.planner.openGroup := by
  obtain ⟨hlast, hcap⟩ := not_or.1 h
  have hl : o.last = false := Bool.eq_false_iff.2 hlast
  have hentry : (p.takeHead.mapGroup k fun g => { g with accepted := g.accepted + 1, unfed := g.unfed + 1 }).group? k
      = some { g with accepted := g.accepted + 1, unfed := g.unfed + 1 } :=
    (mapGroup_group? _ k (f := fun g => { g with accepted := g.accepted + 1, unfed := g.unfed + 1 }) fun _ => rfl).trans
      (by rw [(group?_of_bills (takeHead_bills p) k).trans hg]; rfl)
  refine discardedAs_of (f := fun g => { g with accepted := g.accepted + 1, unfed := g.unfed + 1 }) hg (fun _ => rfl) ?_ ?_
  · unfold Group.discarded
    rw [hl, ← hs]
    rfl
  · have hopen : p.takeHead.planner.openGroup = p.planner.openGroup := congrArg BillView.openGroup (takeHead_bills p)
    unfold Part.discard Part.closeAtCap
    dsimp only
    rw [hl, if_neg (by decide), hentry]
    dsimp only
    rw [if_neg fun e => by omega, ← hopen]
    rfl

/-- An order of a BROKEN_OPEN group discarded: the LAST order or the 64th closes it. -/
theorem discard_leaves (o : SheetOrder) (hg : p.group? k = some g) (hs : g.state = .brokenOpen) :
    p.DiscardedAs (p.discard o k) k
      (g.discarded o (if o.last = true ∨ 63 ≤ g.accepted then .brokenClosed else .brokenOpen))
      (if o.last = true ∨ 63 ≤ g.accepted then none else p.planner.openGroup) := by
  by_cases h : o.last = true ∨ 63 ≤ g.accepted
  · rw [if_pos h, if_pos h]
    exact discard_closes o hg hs h
  · rw [if_neg h, if_neg h]
    exact discard_stays o hg hs h

/-! ### The examined order's group -/

theorem openGroup?_some (h : p.openGroup? = some g) : p.planner.openGroup = some g.key ∧ p.group? g.key = some g := by
  unfold Part.openGroup? at h
  split at h
  · cases h
  · rename_i k hk
    obtain rfl := group?_key h
    exact ⟨hk, h⟩

theorem ownGroup_eq {o : SheetOrder} (ho : o.first = none) (hg : p.openGroup? = some g) (hid : g.id = o.group) :
    p.ownGroup o = some g := by
  unfold Part.ownGroup
  rw [ho, if_neg (by decide), hg]
  exact if_pos (beq_iff_eq.2 hid)

theorem ownGroup_none {o : SheetOrder} (hg : ∀ g, p.openGroup? = some g → g.id ≠ o.group) : p.ownGroup o = none := by
  unfold Part.ownGroup
  split
  · rfl
  · exact Option.filter_eq_none_iff.2 fun g h => by simpa using hg g h

end
end Sys2Proof.Machine

namespace Sys2Proof.Machine

section
variable {p q : Part} {k : GroupKey} {g : Group}

/-! ### Break requests of the open group (R34) -/

theorem breakOpen_broken (x : BreakReason) (h : ∀ g, p.openGroup? = some g → g.state.broken = true) :
    p.breakOpen x = p := by
  unfold Part.breakOpen
  unfold Part.openGroup? at h
  cases hk : p.planner.openGroup with
  | none => rfl
  | some k =>
    rw [hk] at h
    dsimp only at h ⊢
    cases hg : p.group? k with
    | none => exact breakGroup_none x hg
    | some g => exact breakGroup_broken x hg (h g hg)

theorem breakOpen_none (x : BreakReason) (h : p.planner.openGroup = none) : p.breakOpen x = p := by
  unfold Part.breakOpen
  rw [h]

theorem BreakLeaves.sheets_length (h : BreakLeaves p q) : q.track.sheets.length = p.track.sheets.length := by
  have hlen := congrArg List.length h.sheets
  rwa [List.length_map, List.length_map] at hlen

/-! ### Orders of no open group (R33, R189) -/

theorem eq_linked (h : { q with link := p.link } = p) : q = p.linked q.link :=
  Eq.trans (b := Part.linked { q with link := p.link } q.link) rfl (congrArg (fun x : Part => x.linked q.link) h)

theorem streamFault_linked (p : Part) (d : StreamFault) :
    ∃ l, p.streamFault d = p.linked l ∧ l.orders = p.link.orders := by
  have h := occur_leaves p .streamFault (.streamFault d) fun r =>
    match r with
    | .streamFault f => .streamFault (f.plus d)
    | r => r
  have hfold : p.streamFault d = p.occur .streamFault (.streamFault d) fun r =>
    match r with
    | .streamFault f => .streamFault (f.plus d)
    | r => r := rfl
  rw [← hfold] at h
  generalize p.streamFault d = q at h
  obtain ⟨hsame, -, horders, -⟩ := h
  exact ⟨q.link, eq_linked hsame, horders⟩

theorem streamFault_appends {d : StreamFault} (hq : p.queuedOf .streamFault = 0)
    (hh : p.link.held.slots.streamFault = none) (hr : p.link.reports.length < 64) :
    p.streamFault d = p.appendReport (.streamFault d) := occur_appends _ _ hq hh hr

/-- What the Stream Link becomes in an occurrence rests on the Stream Link alone. -/
theorem occur_link_congr {k : CoalescedKind} {x : Report} {f : Report → Report} (h : q.link = p.link) :
    (q.occur k x f).link = (p.occur k x f).link := by
  unfold Part.occur Part.sendingKind Part.reportRoom Part.appendReport
  rw [h]
  repeat' split
  all_goals rfl

theorem takeHead_link_congr (h : q.link = p.link) : q.takeHead.link = p.takeHead.link := by
  have hlink : q.dropHead.link = p.dropHead.link := congrArg (fun l : Link => { l with orders := l.orders.tail }) h
  unfold Part.takeHead Part.countTaken
  rw [hlink]
  split
  · exact congrArg (fun l : Link => { l with taken := p.dropHead.link.taken + 1 }) hlink
  · exact occur_link_congr (congrArg (fun l : Link => { l with taken := 0 }) hlink)

/-- The discard of an orphan: the count, then the break of the open group. -/
theorem discardOrphan_eq (p : Part) : ∃ l, p.discardOrphan = (p.linked l).breakOpen .sequence
    ∧ l.orders = p.link.orders.tail ∧ p.takeHead.Counted (p.linked l) { StreamFault.zero with orphan := 1 }
    ∧ (p.link.taken < 31 → p.queuedOf .streamFault = 0 → p.link.held.slots.streamFault = none →
        p.link.reports.length < 64 →
        l.reports = p.link.reports ++ [.streamFault { StreamFault.zero with orphan := 1 }]) := by
  obtain ⟨l, hl, horders⟩ := takeHead_eq p
  obtain ⟨m, hm, hmo⟩ := streamFault_linked p.takeHead { StreamFault.zero with orphan := 1 }
  have hm : p.takeHead.streamFault { StreamFault.zero with orphan := 1 } = p.linked m := by
    rw [hm, hl]
    rfl
  refine ⟨m, ?_, hmo.trans (takeHead_leaves p).2, hm ▸ streamFault_counted p.takeHead _, fun ht hq hh hr => ?_⟩
  · unfold Part.discardOrphan
    rw [hm]
  · have hbelow := takeHead_below p ht
    have happend := streamFault_appends (p := p.takeHead) (d := { StreamFault.zero with orphan := 1 })
      (by rw [hbelow]; exact hq) (by rw [hbelow]; exact hh) (by rw [hbelow]; exact hr)
    have hlink : m = (p.takeHead.appendReport (.streamFault { StreamFault.zero with orphan := 1 })).link := by
      rw [← happend]
      exact (congrArg Part.link hm).symm
    rw [hlink, hbelow]
    rfl

theorem discardedAsUnfed_eq {o : SheetOrder} (hh : p.headOrder = some o) (hg : p.ownGroup o = some g)
    (hs : g.state = .brokenOpen) : p.discardedAsUnfed = some (p.discard o g.key) := by
  unfold Part.discardedAsUnfed
  rw [hh]
  dsimp only
  rw [hg]
  exact if_pos hs

theorem orphanTaken_eq {o : SheetOrder} (hh : p.headOrder = some o) (ho : o.first = none) (hg : p.ownGroup o = none) :
    p.orphanTaken = some p.discardOrphan := by
  unfold Part.orphanTaken
  rw [hh]
  dsimp only
  rw [ho, hg]
  rfl

/-- Settles O41: the discard changes the one entry, the orphan the STREAM FAULT counts and what a break changes. -/
theorem discardedOrders : Obligations.DiscardedOrders := by
  intro s o rest horders ho hexamines
  have hhead : s.toPart.start.headOrder = some o := headOrder_eq horders hexamines
  have htail : s.link.orders.tail = rest := congrArg List.tail horders
  refine ⟨fun g hg hid hs => ?_, fun hnone => ?_⟩
  · have hevent := discardedAsUnfed_eq hhead (ownGroup_eq (p := s.toPart.start) ho hg hid) hs
    obtain ⟨-, hentry⟩ := openGroup?_some hg
    refine ⟨s.toPart.start.discard o g.key, by rw [exec_discardedAsUnfed, attempt_some hevent], ?_⟩
    obtain ⟨he, hopen, hrest, htrack, hfeeders, hstacker⟩ := discard_leaves (p := s.toPart.start) o hentry hs
    exact ⟨hrest.trans htail, htrack, hfeeders, hstacker, he, hopen⟩
  · have hevent := orphanTaken_eq hhead ho (ownGroup_none (p := s.toPart.start) hnone)
    obtain ⟨l, hl, hrest, hcounted, hreports⟩ := discardOrphan_eq s.toPart.start
    have hleaves := breakOpen_leaves (s.toPart.start.linked l) .sequence
    refine ⟨s.toPart.start.discardOrphan, by rw [exec_orphan, attempt_some hevent], ?_⟩
    rw [hl]
    refine ⟨?_, hleaves.sheets_length, hleaves.feeders, fun ht hq hh hr => ?_, hcounted.congr (takeHead_link_congr rfl) hleaves.link,
      fun g hg hs ha => breakOpen_admitting (s.toPart.start.linked l) .sequence hg hs ha, fun hb => ?_⟩
    · rw [hleaves.link]
      exact hrest.trans htail
    · rw [hleaves.link]
      exact hreports ht hq hh hr
    · rw [breakOpen_broken (p := s.toPart.start.linked l) .sequence hb]
      exact ⟨rfl, rfl⟩

end
end Sys2Proof.Machine

namespace Sys2Proof.Machine

section
variable {p q : Part} {k : GroupKey} {g : Group} {o : SheetOrder}

/-! ### FURTHER_ORDER_PICK (R30 to R32, R50) -/

theorem furtherBreak_eq {r : BreakReason}
    (h : g.accepted = g.declared ∧ r = .overlength
      ∨ (g.accepted ≠ g.declared ∧ p.media? o.media.toNat = none) ∧ r = .media) : p.furtherBreak o g = some r := by
  unfold Part.furtherBreak
  rcases h with ⟨h, rfl⟩ | ⟨⟨h, hm⟩, rfl⟩
  · exact if_pos h
  · rw [if_neg h, hm]
    rfl

theorem furtherBreak_eq_none {m : MediaEntry} (h : g.accepted ≠ g.declared) (hm : p.media? o.media.toNat = some m) :
    p.furtherBreak o g = none := by
  unfold Part.furtherBreak
  rw [if_neg h, hm]
  rfl

theorem furtherOrderPick_picks {m : MediaEntry} {t : TrayId} (hh : p.headOrder = some o) (hg : p.ownGroup o = some g)
    (hs : g.state = .admitting) (hd : g.accepted ≠ g.declared) (hm : p.media? o.media.toNat = some m)
    (hp : p.ctl.state.picking = true) (hc : p.pickCheck m = .ok t) :
    p.furtherOrderPick = some ((p.takeHead.takeIntoPick o m g.key t).closeIfLast o g.key) := by
  unfold Part.furtherOrderPick
  rw [hh]
  dsimp only
  rw [hg]
  dsimp only
  rw [if_pos hs, furtherBreak_eq_none hd hm]
  dsimp only
  rw [hm]
  dsimp only
  rw [if_pos hp, hc]

theorem furtherOrderPick_breaks {r : BreakReason} (hh : p.headOrder = some o) (hg : p.ownGroup o = some g)
    (hs : g.state = .admitting) (hr : p.furtherBreak o g = some r) :
    p.furtherOrderPick = some (if (p.breakGroup g.key r).planner.openGroup.isSome
      then (p.breakGroup g.key r).discard o g.key else (p.breakGroup g.key r).discardOrphan) := by
  unfold Part.furtherOrderPick
  rw [hh]
  dsimp only
  rw [hg]
  dsimp only
  rw [if_pos hs, hr]

theorem takeIntoPick_group? (o : SheetOrder) (m : MediaEntry) (t : TrayId) (hg : p.group? k = some g) :
    (p.takeIntoPick o m k t).group? k = some { g with accepted := g.accepted + 1, inPath := g.inPath + 1 } := by
  refine (group?_of_bills (takeIntoPick_bills p o m k t) k).trans ?_
  refine (mapGroup_group? p k (f := fun g => { g with accepted := g.accepted + 1, inPath := g.inPath + 1 })
    fun _ => rfl).trans ?_
  rw [hg]
  rfl

theorem closeIntact_group? (tag : Half) (hg : p.group? k = some g) :
    (p.closeIntact k tag).group? k = some { g with lastTag := some tag, state := .closed } := by
  refine (mapGroup_group? p k (f := fun g => { g with lastTag := some tag, state := .closed }) fun _ => rfl).trans ?_
  rw [hg]
  rfl

/-- After a break every sheet of the group in the track is bound for purge (R35). -/
theorem breakAs_purged (st : GroupState) (x : BreakReason) (y : Option GroupKey) :
    ∀ s ∈ (p.breakAs k st x y).track.sheets, s.group = k → s.destination = .purge := by
  intro s hs hk
  have hmem : s ∈ (p.breakAs k st x y).sheetsOf k := mem_sheetsOf.2 ⟨hs, hk⟩
  rw [breakAs_sheetsOf, if_pos rfl] at hmem
  obtain ⟨z, -, rfl⟩ := List.mem_map.1 hmem
  rfl

theorem breakAs_length (st : GroupState) (x : BreakReason) (y : Option GroupKey) :
    (p.breakAs k st x y).track.sheets.length = p.track.sheets.length := List.length_map ..

/-- A further order picked for its group (R30, R31, R50). -/
theorem pickFurther_leaves {m : MediaEntry} {t : TrayId} (hg : p.group? k = some g) :
    let q := (p.takeHead.takeIntoPick o m k t).closeIfLast o k
    q.link.orders = p.link.orders.tail ∧ p.PickedAs q (p.freshSheet o m k t) t
    ∧ (o.last = false → q.group? k = some { g with accepted := g.accepted + 1, inPath := g.inPath + 1 }
        ∧ q.planner = p.planner ∧ q.stacker = p.stacker)
    ∧ (o.last = true →
        q.group? k = some { g with
          accepted := g.accepted + 1, inPath := g.inPath + 1, state := .closed, lastTag := some o.tag }
        ∧ q.planner.openGroup = none
        ∧ q.stacker.allowances = p.stacker.allowances.map fun a =>
            if a.group = k then { a with count := g.accepted + 1 } else a) := by
  obtain ⟨l, hl, hrest⟩ := takeHead_eq p
  dsimp only
  rw [hl]
  obtain ⟨hclink, -, hcview⟩ := closeIfLast_leaves ((p.linked l).takeIntoPick o m k t) o k
  obtain ⟨-, hstacker, -, hplanner⟩ := takeIntoPick_leaves (p.linked l) o m k t
  have hentry := takeIntoPick_group? (p := p.linked l) o m t hg
  refine ⟨?_, (takeIntoPick_pickedAs (p.linked l) o m k t).congr rfl hcview, fun h => ?_, fun h => ?_⟩
  · rw [hclink, (takeIntoPick_link (p.linked l) o m k t).1]
    exact hrest
  · rw [closeIfLast_false k h]
    exact ⟨hentry, hplanner, hstacker⟩
  · rw [closeIfLast_true k h]
    refine ⟨closeIntact_group? o.tag hentry, rfl, (closeIntact_allowances o.tag hentry).trans ?_⟩
    rw [hstacker]
    rfl

/-- Settles O40: a pick within the declared count, or a break with the order discarded for the group that it leaves open,
or as an orphan where the break closed it. -/
theorem furtherOrdersArePicked : Obligations.FurtherOrdersArePicked := by
  intro s o g rest horders ho hg hid hs
  have htail : s.link.orders.tail = rest := congrArg List.tail horders
  have hown := ownGroup_eq (p := s.toPart.start) ho hg hid
  obtain ⟨hopen, hentry⟩ := openGroup?_some hg
  have hhead : s.ctl.state.examines = true → s.toPart.start.headOrder = some o := fun h => headOrder_eq horders h
  refine ⟨fun m t hd hm hstate hc => ?_, fun r hexamines hlt hbreak => ?_, fun hexamines hacc hdec => ?_⟩
  · have hp : s.ctl.state.picking = true := picking_iff.2 hstate
    have hevent := furtherOrderPick_picks (p := s.toPart.start) (hhead (examines_of_picking hp)) hown hs hd hm hp hc
    obtain ⟨hrest, hleft⟩ := pickFurther_leaves (p := s.toPart.start) (o := o) (m := m) (t := t) hentry
    exact ⟨_, by rw [exec_furtherOrderPick, attempt_some hevent], hrest.trans htail, hleft⟩
  · have hevent := furtherOrderPick_breaks (p := s.toPart.start) (hhead hexamines) hown hs (furtherBreak_eq hbreak)
    have hbroken : s.toPart.start.breakGroup g.key r = s.toPart.start.breakAs g.key .brokenOpen r s.planner.openGroup :=
      (breakGroup_open (p := s.toPart.start) r hentry hs).trans (if_neg (Nat.not_le.2 hlt))
    have hstays : (s.toPart.start.breakAs g.key .brokenOpen r s.planner.openGroup).planner.openGroup.isSome = true := by
      show s.planner.openGroup.isSome = true
      rw [hopen]
      rfl
    rw [hbroken, if_pos hstays] at hevent
    have hentry' : (s.toPart.start.breakAs g.key .brokenOpen r s.planner.openGroup).group? g.key
        = some { g with state := .brokenOpen, reason := some r } := by
      rw [breakAs_group?, show s.toPart.start.group? g.key = some g from hentry]
      rfl
    have hcap : (if o.last = true ∨ 63 ≤ g.accepted then GroupState.brokenClosed else .brokenOpen)
        = if o.last = true ∨ g.accepted = 63 then .brokenClosed else .brokenOpen :=
      if_congr (or_congr_right ⟨fun h => by omega, fun h => by omega⟩) rfl rfl
    obtain ⟨he, -, hrest, htrack, -, -⟩ := discard_leaves o hentry' rfl
    refine ⟨_, by rw [exec_furtherOrderPick, attempt_some hevent], hrest.trans htail, ?_, ?_, ?_⟩
    · rw [htrack]
      exact breakAs_length ..
    · rw [htrack]
      exact fun x hx hk => breakAs_purged _ _ _ x hx hk
    · rw [← hcap]
      exact he
  · have hevent := furtherOrderPick_breaks (p := s.toPart.start) (hhead hexamines) hown hs
      (furtherBreak_eq (.inl ⟨hacc.trans hdec.symm, rfl⟩))
    have hbroken : s.toPart.start.breakGroup g.key .overlength
        = s.toPart.start.breakAs g.key .brokenClosed .overlength none :=
      (breakGroup_open (p := s.toPart.start) .overlength hentry hs).trans (if_pos (Nat.le_of_eq hacc.symm))
    have hclosed : ¬(s.toPart.start.breakAs g.key .brokenClosed .overlength none).planner.openGroup.isSome = true := nofun
    rw [hbroken, if_neg hclosed] at hevent
    obtain ⟨l, hl, hrest, hcounted, -⟩ :=
      discardOrphan_eq (s.toPart.start.breakAs g.key .brokenClosed .overlength none)
    rw [hl, breakOpen_none .sequence rfl] at hevent
    refine ⟨_, by rw [exec_furtherOrderPick, attempt_some hevent], hrest.trans htail, rfl,
      hcounted.congr (takeHead_link_congr rfl) rfl, breakAs_length _ _ none, ?_⟩
    refine (breakAs_group? (p := s.toPart.start) g.key .brokenClosed .overlength none).trans ?_
    rw [show s.toPart.start.group? g.key = some g from hentry]
    rfl

end
end Sys2Proof.Machine

namespace Sys2Proof.Machine

section
variable {p q : Part} {k : GroupKey} {g : Group}

/-! ### A STOP or PURGE at the head (R38, R155) -/

theorem truncate_feeders (p : Part) : p.truncate.feeders = p.feeders := by
  unfold Part.truncate
  split
  · rfl
  · split
    · rfl
    · split <;> rfl

theorem stopTaken_running {rest : List Queued} (h : p.link.orders = .stop :: rest) (hs : p.ctl.state = .running) :
    p.stopTaken = some (p.takeHead.truncate.enterDraining .stop) := by
  unfold Part.stopTaken
  rw [h]
  dsimp only
  rw [hs]

theorem stopTaken_draining {rest : List Queued} (h : p.link.orders = .stop :: rest) (hs : p.ctl.state = .draining) :
    p.stopTaken = some { p.takeHead.truncate with ctl := { p.takeHead.truncate.ctl with
      drainReason := if p.ctl.drainReason = some .load then some .stop else p.ctl.drainReason } } := by
  have hctl : p.takeHead.truncate.ctl = p.ctl := (truncate_ctl _).trans (takeHead_ctl p)
  unfold Part.stopTaken
  rw [h]
  dsimp only
  rw [hs, ← hctl]
  dsimp only
  split <;> rfl

theorem stopTaken_still {rest : List Queued} (h : p.link.orders = .stop :: rest)
    (hs : p.ctl.state = .standby ∨ p.ctl.state = .runout ∨ p.ctl.state = .safe) :
    p.stopTaken = some p.takeHead.truncate := by
  unfold Part.stopTaken
  rw [h]
  dsimp only
  rcases hs with hs | hs | hs <;> rw [hs]

theorem purgeTaken_eq {rest : List Queued} (h : p.link.orders = .purge :: rest) (hs : p.ctl.state.examines = true) :
    p.purgeTaken = some (p.takeHead.breakOpen .purged) := by
  unfold Part.purgeTaken
  rw [h]
  exact if_pos hs

/-- What the open group comes to when a STOP is taken, however the transport goes on. -/
structure Part.StoppedAs (p q : Part) : Prop where
  orders : q.link.orders = p.link.orders.tail
  openGroup : q.planner.openGroup = none
  admitting : ∀ g, p.openGroup? = some g → g.state = .admitting →
    q.group? g.key = some { g with state := .brokenClosed, reason := some .truncated }
  brokenOpen : ∀ g, p.openGroup? = some g → g.state = .brokenOpen →
    q.group? g.key = some { g with state := .brokenClosed } ∧ q.track.sheets = p.track.sheets

theorem takeHead_truncate_stoppedAs (p : Part) : p.StoppedAs p.takeHead.truncate := by
  obtain ⟨l, hl, hrest⟩ := takeHead_eq p
  rw [hl]
  refine ⟨(congrArg Link.orders (truncate_leaves (p.linked l)).1).trans hrest, truncate_openGroup _,
    fun g hg => (truncate_group? (p.linked l) hg).1, fun g hg hs => ⟨(truncate_group? (p.linked l) hg).2 hs, ?_⟩⟩
  obtain ⟨hopen, hentry⟩ := openGroup?_some hg
  rw [truncate_brokenOpen (p := p.linked l) hopen hentry hs]
  rfl

theorem Part.StoppedAs.congr {q' : Part} (h : p.StoppedAs q) (hl : q'.link = q.link) (hp : q'.planner = q.planner)
    (hg : q'.groups = q.groups) (ht : q'.track = q.track) : p.StoppedAs q' := by
  have hgroup : ∀ k, q'.group? k = q.group? k := fun k => by unfold Part.group?; rw [hg]
  exact ⟨hl ▸ h.orders, hp ▸ h.openGroup, fun g e hs => (hgroup _).trans (h.admitting g e hs),
    fun g e hs => ⟨(hgroup _).trans (h.brokenOpen g e hs).1, ht ▸ (h.brokenOpen g e hs).2⟩⟩

/-- A PURGE breaks the ADMITTING open group. -/
theorem breakOpen_purges (x : BreakReason) (hg : p.openGroup? = some g) (hs : g.state = .admitting)
    (ha : g.accepted < 64) :
    (p.breakOpen x).planner = p.planner
    ∧ ∀ s ∈ (p.breakOpen x).track.sheets, s.group = g.key → s.destination = .purge := by
  obtain ⟨hopen, hentry⟩ := openGroup?_some hg
  have hbreak : p.breakOpen x = p.breakAs g.key .brokenOpen x p.planner.openGroup := by
    unfold Part.breakOpen
    rw [hopen]
    dsimp only
    rw [breakGroup_open x hentry hs, if_neg (Nat.not_le.2 ha), hopen]
  rw [hbreak]
  exact ⟨rfl, fun s => breakAs_purged _ _ _ s⟩

end
end Sys2Proof.Machine

namespace Sys2Proof.Machine

section
variable {p q r : Part} {k : GroupKey}

/-! ### Events apart from the Order Queue head

Seven events of the cascade take no record from the Order Queue. Of the groups they break at most a CLOSED one, and
they open none. -/

/-- What such an event leaves of the orders, the entries, the records and the rooms. -/
structure Part.Apart (p q : Part) : Prop where
  orders : q.link.orders = p.link.orders
  examines : p.ctl.state.examines = true → q.ctl.state.examines = true
  openGroup : q.planner.openGroup = p.planner.openGroup
  nextKey : q.groups.nextKey = p.groups.nextKey
  keys : (q.groups.entries.map Group.key).Sublist (p.groups.entries.map Group.key)
  entry : ∀ h ∈ q.groups.entries, ∃ x ∈ p.groups.entries, x.key = h.key ∧ h.accepted = x.accepted
    ∧ (x.state = .closed ∨ (h.state = x.state ∧ h.reason = x.reason))
  kept : ∀ x ∈ p.groups.entries, x.state.closedState = false → x.key ∈ q.groups.entries.map Group.key
  sheet : ∀ s ∈ q.track.sheets, ∃ x ∈ p.track.sheets, x.group = s.group
    ∧ (x.destination = .purge → s.destination = .purge)
  room : ∀ a ∈ q.stacker.allowances, ∃ b ∈ p.stacker.allowances, b.group = a.group

/-- An event that changes no more of the bills than records, each in its place. -/
theorem Part.Apart.of_sheets (horders : q.link.orders = p.link.orders)
    (hexamines : p.ctl.state.examines = true → q.ctl.state.examines = true) (hgroups : q.groups = p.groups)
    (hopen : q.planner.openGroup = p.planner.openGroup) (hrooms : q.stacker.allowances = p.stacker.allowances)
    (hsheet : ∀ s ∈ q.track.sheets, ∃ x ∈ p.track.sheets, x.group = s.group
      ∧ (x.destination = .purge → s.destination = .purge)) : p.Apart q :=
  ⟨horders, hexamines, hopen, by rw [hgroups], by rw [hgroups],
    fun h hh => ⟨h, hgroups ▸ hh, rfl, rfl, .inr ⟨rfl, rfl⟩⟩, fun x hx _ => hgroups.symm ▸ List.mem_map_of_mem hx, hsheet,
    fun a ha => ⟨a, hrooms ▸ ha, rfl⟩⟩

theorem Part.Apart.of_bills (horders : q.link.orders = p.link.orders)
    (hexamines : p.ctl.state.examines = true → q.ctl.state.examines = true) (hb : q.bills = p.bills) : p.Apart q := by
  have hsheets : q.track.sheets = p.track.sheets := congrArg BillView.sheets hb
  exact .of_sheets horders hexamines (congrArg BillView.groups hb) (congrArg BillView.openGroup hb)
    (congrArg BillView.allowances hb) fun s hs => ⟨s, hsheets ▸ hs, rfl, id⟩

theorem pendingLoadApplied_apart (h : p.pendingLoadApplied = some q) : p.Apart q := by
  unfold Part.pendingLoadApplied at h
  split at h
  · rename_i c _
    split at h
    · cases h
      refine .of_bills ?_ (fun hx => ?_) (applyLocked_bills _ c)
      · rw [applyLocked_link]
        rfl
      · rw [applyLocked_ctl]
        exact hx
    · cases h
  · cases h

theorem discardSampling_sheets (p : Part) : ∀ s ∈ p.discardSampling.track.sheets, ∃ x ∈ p.track.sheets,
    x.group = s.group ∧ (x.destination = .purge → s.destination = .purge) := by
  intro s hs
  obtain ⟨x, hx, rfl⟩ := List.mem_map.1 hs
  obtain ⟨y, hy⟩ := discardSampling_eq x
  rw [hy]
  exact ⟨x, hx, rfl, id⟩

theorem enterStandby_apart (p : Part) : p.Apart p.enterStandby := by
  have hb := enterStandby_bills p
  have hsheets : p.enterStandby.track.sheets = p.discardSampling.track.sheets := (congrArg BillView.sheets hb :)
  have hlink : p.enterStandby.link.orders = p.link.orders ∧ p.enterStandby.ctl.state = .standby := by
    unfold Part.enterStandby
    dsimp only
    split <;> exact ⟨rfl, rfl⟩
  refine .of_sheets hlink.1 (fun _ => by rw [hlink.2]; rfl) (congrArg BillView.groups hb)
    (congrArg BillView.openGroup hb) (congrArg BillView.allowances hb) fun s hs => ?_
  exact discardSampling_sheets p s (hsheets ▸ hs)

theorem enterSafe_apart (p : Part) : p.Apart p.enterSafe :=
  .of_sheets rfl (fun _ => rfl) rfl rfl rfl (discardSampling_sheets p)

theorem resumeRunning_apart (p : Part) : p.Apart p.resumeRunning := by
  have hlink : p.resumeRunning.link.orders = p.link.orders ∧ p.resumeRunning.ctl.state = .running := by
    unfold Part.resumeRunning Part.armWatch
    split <;> exact ⟨rfl, rfl⟩
  exact .of_bills hlink.1 (fun _ => by rw [hlink.2]; rfl) (resumeRunning_bills p)

theorem Part.Apart.trans (h : p.Apart q) (k : q.Apart r) (hs : q.groups.entries = p.groups.entries) : p.Apart r where
  orders := k.orders.trans h.orders
  examines := k.examines ∘ h.examines
  openGroup := k.openGroup.trans h.openGroup
  nextKey := k.nextKey.trans h.nextKey
  keys := k.keys.trans h.keys
  entry x hx := hs ▸ k.entry x hx
  kept x hx := k.kept x (hs ▸ hx)
  sheet s hs := by
    obtain ⟨x, hx, hg, hd⟩ := k.sheet s hs
    obtain ⟨y, hy, hyg, hyd⟩ := h.sheet x hx
    exact ⟨y, hy, hyg.trans hg, hd ∘ hyd⟩
  room a ha := by
    obtain ⟨b, hb, hbg⟩ := k.room a ha
    obtain ⟨c, hc, hcg⟩ := h.room b hb
    exact ⟨c, hc, hcg.trans hbg⟩

theorem drainEnd_apart (h : p.drainEnd = some q) : p.Apart q := by
  unfold Part.drainEnd at h
  split at h
  · cases h
    split
    · exact resumeRunning_apart p
    · exact enterStandby_apart p
  · cases h

theorem runoutEnd_apart (h : p.runoutEnd = some q) : p.Apart q := by
  unfold Part.runoutEnd at h
  split at h
  · cases h
    split
    · exact enterSafe_apart p
    · exact (enterSafe_apart p).trans (enterStandby_apart _) rfl
  · cases h

theorem recoveryEnd_apart (h : p.recoveryEnd = some q) : p.Apart q := by
  unfold Part.recoveryEnd at h
  split at h
  · cases h
    exact Part.Apart.trans (p := p) (q := p.dropSweepClass) (.of_bills rfl id rfl) (enterStandby_apart _) rfl
  · cases h

theorem mapSheet_apart (p : Part) (n : Half) {f : Sheet → Sheet} (hf : ∀ s, (f s).group = s.group
    ∧ (f s).destination = s.destination) : p.Apart (p.mapSheet n f) := by
  refine .of_sheets rfl id rfl rfl rfl fun s hs => ?_
  obtain ⟨x, hx, rfl⟩ := List.mem_map.1 hs
  refine ⟨x, hx, ?_⟩
  split
  · exact ⟨(hf x).1.symm, fun h => (hf x).2.trans h⟩
  · exact ⟨rfl, id⟩

theorem stallEnd_apart (h : p.stallEnd = some q) : p.Apart q := by
  unfold Part.stallEnd at h
  split at h
  · split at h
    · cases h
    · rename_i s _
      split at h
      · cases h
      · rename_i t _
        have hrequest : ∀ x : Part, x.Apart (x.requestPick t) := fun x => .of_bills rfl id rfl
        split at h
        · cases h
          exact (mapSheet_apart p s.seq (f := fun r => { r with attempts := 0 }) fun _ => ⟨rfl, rfl⟩).trans (hrequest _) rfl
        · cases h
          refine Part.Apart.trans (q := (p.mapFeeder s.tray fun f => { f with
            holder := none, request := false, deadline := none }).mapFeeder t fun f => { f with holder := some s.seq })
            (.of_bills rfl id rfl) ?_ rfl
          exact (mapSheet_apart _ s.seq (f := fun r => { r with tray := t, attempts := 0 }) fun _ => ⟨rfl, rfl⟩).trans
            (hrequest _) rfl
  · cases h

/-- A change of the entries of one key, each keeping what an event apart from the head keeps. -/
theorem Part.Apart.of_entries {f : Group → Group} (horders : q.link.orders = p.link.orders) (hctl : q.ctl = p.ctl)
    (hopen : q.planner.openGroup = p.planner.openGroup) (hnext : q.groups.nextKey = p.groups.nextKey)
    (hentries : q.groups.entries = p.groups.entries.map fun g => if g.key == k then f g else g)
    (hf : ∀ g, (f g).key = g.key ∧ (f g).accepted = g.accepted)
    (hstate : ∀ g ∈ p.groups.entries, g.key = k → g.state = .closed ∨ ((f g).state = g.state ∧ (f g).reason = g.reason))
    (hsheet : ∀ s ∈ q.track.sheets, ∃ x ∈ p.track.sheets, x.group = s.group
      ∧ (x.destination = .purge → s.destination = .purge))
    (hroom : ∀ a ∈ q.stacker.allowances, ∃ b ∈ p.stacker.allowances, b.group = a.group) : p.Apart q := by
  have hkeys : q.groups.entries.map Group.key = p.groups.entries.map Group.key := by
    rw [hentries, List.map_map]
    refine List.map_congr_left fun g _ => ?_
    rw [Function.comp_apply]
    split
    · exact (hf g).1
    · rfl
  refine ⟨horders, fun hx => hctl ▸ hx, hopen, hnext, hkeys ▸ List.Sublist.refl _, fun h hh => ?_,
    fun x hx _ => hkeys ▸ List.mem_map_of_mem hx, hsheet, hroom⟩
  rw [hentries] at hh
  obtain ⟨x, hx, rfl⟩ := List.mem_map.1 hh
  refine ⟨x, hx, ?_⟩
  split
  · rename_i hk
    exact ⟨(hf x).1.symm, (hf x).2, hstate x hx (eq_of_beq hk)⟩
  · exact ⟨rfl, rfl, .inr ⟨rfl, rfl⟩⟩

section
variable (hn : (p.groups.entries.map Group.key).Nodup)
include hn

theorem groupResolution_apart (h : p.groupResolution = some q) : p.Apart q := by
  unfold Part.groupResolution at h
  split at h
  · cases h
  · rename_i g hfind
    split at h
    · cases h
      refine ⟨rfl, id, rfl, rfl, List.filter_sublist.map _, fun x hx => ?_, fun x hx hc => ?_, fun s hs => ⟨s, hs, rfl, id⟩,
        fun a ha => ⟨a, ha, rfl⟩⟩
      · exact ⟨x, (List.mem_filter.1 hx).1, rfl, rfl, .inr ⟨rfl, rfl⟩⟩
      · refine List.mem_map_of_mem (List.mem_filter.2 ⟨hx, ?_⟩)
        have hne : x.key ≠ g.key := fun e => by
          have hclosed := (resolvable_done (List.find?_some hfind)).1
          rw [← List.inj_on_of_nodup_map hn hx (List.mem_of_find?_eq_some hfind) e, hc] at hclosed
          cases hclosed
        simpa using hne
    · cases h
      exact .of_sheets rfl id rfl rfl rfl fun s hs => ⟨s, hs, rfl, id⟩

theorem breakClosed_apart {g : Group} (hg : p.group? k = some g) (hs : g.state = .closed) (x : BreakReason) :
    p.Apart (p.breakGroup k x) := by
  rw [breakGroup_closed x hg hs]
  refine .of_entries (f := fun g => { g with state := .brokenClosed, reason := some x }) rfl rfl rfl rfl rfl
    (fun _ => ⟨rfl, rfl⟩) (fun y hy hk => .inl ?_) (fun s hm => ?_) fun a ha => ⟨a, (List.mem_filter.1 ha).1, rfl⟩
  · rw [List.inj_on_of_nodup_map hn hy (mem_of_group? hg) (hk.trans (group?_key hg).symm), hs]
  · obtain ⟨y, hy, rfl⟩ := List.mem_map.1 hm
    refine ⟨y, hy, ?_⟩
    split
    · exact ⟨rfl, fun _ => rfl⟩
    · exact ⟨rfl, id⟩

theorem ejectIntact_apart {g : Group} (hg : p.group? g.key = some g) (hs : g.state = .closed) :
    p.Apart (p.ejectIntact g) := by
  have heject : ∀ (x : Part) (t : EjectTarget) (j : Jog), x.Apart (x.startEject t j) := fun x t j =>
    .of_sheets rfl id rfl rfl rfl fun s hs => ⟨s, hs, rfl, id⟩
  unfold Part.ejectIntact
  split
  · exact heject p _ _
  · split
    · rename_i b _
      refine .of_entries (k := g.key) (f := fun g => { g with bin := some b }) rfl rfl rfl rfl rfl (fun _ => ⟨rfl, rfl⟩)
        (fun _ _ _ => .inr ⟨rfl, rfl⟩) (fun s hm => ⟨s, hm, rfl, id⟩) fun a ha => ?_
      obtain ⟨c, hc, rfl⟩ := List.mem_map.1 ha
      refine ⟨c, hc, ?_⟩
      split <;> rfl
    · have hbreak := breakClosed_apart hn hg hs .bin
      exact ⟨hbreak.orders, hbreak.examines, hbreak.openGroup, hbreak.nextKey, hbreak.keys, hbreak.entry, hbreak.kept,
        hbreak.sheet, hbreak.room⟩

theorem setEjectStart_apart (h : p.setEjectStart = some q) : p.Apart q := by
  unfold Part.setEjectStart at h
  split at h
  · cases h
  · rename_i g hg
    obtain ⟨k, -, hg⟩ := Option.bind_eq_some_iff.1 hg
    obtain rfl := group?_key hg
    split at h
    · cases h
    · split at h
      · rename_i hdue
        cases h
        unfold Part.dueIntact at hdue
        rw [Bool.and_eq_true, Bool.and_eq_true, Bool.and_eq_true, beq_iff_eq] at hdue
        exact ejectIntact_apart hn hg hdue.1.1.1
      · split at h
        · cases h
          exact .of_sheets rfl id rfl rfl rfl fun s hs => ⟨s, hs, rfl, id⟩
        · cases h

end

end
end Sys2Proof.Machine

namespace Sys2Proof.Machine

section
variable {p q : Part} {o : SheetOrder} {f : FirstFields} {k : GroupKey} {g : Group}

/-! ### The first examination of a FIRST order (R20, R37)

The order waits alone in the queue behind the open group `k` until the truncation; from then on that group's entry stands
as the truncation left it, or has been resolved. -/

/-- The entries' keys are told apart and below the next key. -/
def Part.KeysApart (p : Part) : Prop :=
  (p.groups.entries.map Group.key).Nodup ∧ ∀ x ∈ p.groups.entries, x.key < p.groups.nextKey

/-- Before the truncation: the open group `k` as `g` was, and the order at the head. -/
structure Part.Waits (p : Part) (o : SheetOrder) (k : GroupKey) (g : Group) : Prop where
  orders : p.link.orders = [.order o]
  examines : p.ctl.state.examines = true
  openGroup : p.planner.openGroup = some k
  keys : p.KeysApart
  entry : ∃ x ∈ p.groups.entries, x.key = k ∧ x.accepted = g.accepted ∧ x.state = g.state ∧ x.reason = g.reason

/-- After the truncation: no order but the one, and of the group `k` no more than its broken entry. -/
structure Part.Truncated (p : Part) (o : SheetOrder) (k : GroupKey) (g : Group) : Prop where
  orders : ∀ x ∈ p.link.orders, x = .order o
  openGroup : p.planner.openGroup ≠ some k
  keys : p.KeysApart
  below : k < p.groups.nextKey
  entry : ∀ x ∈ p.groups.entries, x.key = k → x.state = .brokenClosed ∧ x.accepted = g.accepted
    ∧ x.reason = if g.state = .admitting then some .truncated else g.reason
  gone : g.state = .admitting → (∀ s ∈ p.track.sheets, s.group = k → s.destination = .purge)
    ∧ ∀ a ∈ p.stacker.allowances, a.group ≠ k

/-! ### Events apart from the head -/

theorem Part.Apart.keysApart (h : p.Apart q) (hk : p.KeysApart) : q.KeysApart := by
  refine ⟨h.keys.nodup hk.1, fun x hx => ?_⟩
  obtain ⟨y, hy, hyk, -⟩ := h.entry x hx
  rw [h.nextKey, ← hyk]
  exact hk.2 y hy

theorem Part.Waits.apart (h : p.Waits o k g) (hs : g.state.closedState = false) (ha : p.Apart q) : q.Waits o k g := by
  refine ⟨ha.orders.trans h.orders, ha.examines h.examines, ha.openGroup.trans h.openGroup, ha.keysApart h.keys, ?_⟩
  obtain ⟨x, hx, rfl, hacc, hst, hreason⟩ := h.entry
  obtain ⟨y, hy, hyk⟩ := List.mem_map.1 (ha.kept x hx (by rw [hst]; exact hs))
  obtain ⟨z, hz, hzk, hzacc, hsame⟩ := ha.entry y hy
  obtain rfl := List.inj_on_of_nodup_map h.keys.1 hz hx (hzk.trans hyk)
  rcases hsame with hc | ⟨hyst, hyr⟩
  · rw [hst] at hc
    rw [hc] at hs
    cases hs
  · exact ⟨y, hy, hyk, hzacc.trans hacc, hyst.trans hst, hyr.trans hreason⟩

theorem Part.Truncated.apart (h : p.Truncated o k g) (ha : p.Apart q) : q.Truncated o k g := by
  refine ⟨ha.orders ▸ h.orders, ha.openGroup ▸ h.openGroup, ha.keysApart h.keys, ha.nextKey ▸ h.below, fun y hy hyk => ?_,
    fun hs => ⟨fun s hm hsk => ?_, fun a hm hak => ?_⟩⟩
  · obtain ⟨z, hz, hzk, hzacc, hsame⟩ := ha.entry y hy
    obtain ⟨hst, hacc, hreason⟩ := h.entry z hz (hzk.trans hyk)
    rcases hsame with hc | ⟨hyst, hyr⟩
    · rw [hst] at hc
      cases hc
    · exact ⟨hyst.trans hst, hzacc.trans hacc, hyr.trans hreason⟩
  · obtain ⟨x, hx, hxg, hxd⟩ := ha.sheet s hm
    exact hxd ((h.gone hs).1 x hx (hxg.trans hsk))
  · obtain ⟨b, hb, hbg⟩ := ha.room a hm
    exact (h.gone hs).2 b hb (hbg.trans hak)

/-! ### Truncations (R37) -/

theorem mapGroup_keysApart {j : GroupKey} {m : Group → Group} (hm : ∀ x, (m x).key = x.key) (h : p.KeysApart) :
    (p.mapGroup j m).KeysApart := by
  refine ⟨(mapGroup_keys p j hm).symm ▸ h.1, fun x hx => ?_⟩
  obtain ⟨y, hy, rfl⟩ := List.mem_map.1 hx
  split
  · exact (hm y).symm ▸ h.2 y hy
  · exact h.2 y hy

theorem mem_mapGroup_other {j : GroupKey} {m : Group → Group} {x : Group} (hm : ∀ x, (m x).key = x.key)
    (hx : x ∈ (p.mapGroup j m).groups.entries) (hj : x.key ≠ j) : x ∈ p.groups.entries := by
  obtain ⟨y, hy, rfl⟩ := List.mem_map.1 hx
  split
  · rename_i h
    rw [if_pos h, hm] at hj
    exact absurd (eq_of_beq h) hj
  · exact hy

theorem mem_mapGroup_own {j : GroupKey} {m : Group → Group} {x : Group}
    (hx : x ∈ (p.mapGroup j m).groups.entries) (hj : x.key = j) : ∃ y ∈ p.groups.entries, y.key = j ∧ x = m y := by
  obtain ⟨y, hy, rfl⟩ := List.mem_map.1 hx
  split at hj
  · rename_i h
    exact ⟨y, hy, eq_of_beq h, if_pos h⟩
  · rename_i h
    exact absurd (beq_iff_eq.2 hj) h

/-- The truncation itself: the group leaves the open place, BROKEN_CLOSED. -/
theorem Part.Waits.truncated (h : p.Waits o k g) (hs : g.state.closedState = false) : p.truncate.Truncated o k g := by
  obtain ⟨hlink, -, -⟩ := truncate_leaves p
  obtain ⟨x, hx, hxk, hacc, hst, hreason⟩ := h.entry
  have hx? : p.group? k = some x := by
    cases hy : p.group? k with
    | none => exact absurd hxk (group?_eq_none_iff.1 hy x hx)
    | some y =>
      rw [List.inj_on_of_nodup_map h.keys.1 (mem_of_group? hy) hx ((group?_key hy).trans hxk.symm)]
  have hopen : p.truncate.planner.openGroup ≠ some k := by rw [truncate_openGroup]; nofun
  have horders : ∀ y ∈ p.truncate.link.orders, y = .order o := by
    rw [hlink, h.orders]
    exact fun y hy => List.mem_singleton.1 hy
  have hbelow : k < p.groups.nextKey := hxk ▸ h.keys.2 x hx
  have hown : ∀ {m : Group → Group} {y : Group}, y ∈ (p.mapGroup k m).groups.entries →
      y.key = k → y = m x := fun hy hyk => by
    obtain ⟨z, hz, hzk, rfl⟩ := mem_mapGroup_own hy hyk
    rw [List.inj_on_of_nodup_map h.keys.1 hz hx (hzk.trans hxk.symm)]
  cases hg : g.state with
  | closed | brokenClosed =>
    rw [hg] at hs
    cases hs
  | admitting =>
    have he := truncate_admitting h.openGroup hx? (hst.trans hg)
    refine ⟨horders, hopen, ?_, ?_, fun y hy hyk => ?_, fun _ => ⟨fun s => ?_, fun a ha => ?_⟩⟩
    · rw [he]
      exact mapGroup_keysApart (j := k) (m := fun g => { g with state := .brokenClosed, reason := some .truncated })
        (fun _ => rfl) h.keys
    · rw [he]
      exact hbelow
    · rw [he] at hy
      rw [hown (m := fun g => { g with state := .brokenClosed, reason := some .truncated }) hy hyk]
      exact ⟨rfl, hacc, by rw [hg]; rfl⟩
    · rw [he]
      exact breakAs_purged _ _ _ s
    · rw [he] at ha
      simpa using (List.mem_filter.1 ha).2
  | brokenOpen =>
    have he := truncate_brokenOpen h.openGroup hx? (hst.trans hg)
    refine ⟨horders, hopen, ?_, ?_, fun y hy hyk => ?_, fun e => by rw [hg] at e; cases e⟩
    · rw [he]
      exact mapGroup_keysApart (j := k) (m := fun g => { g with state := .brokenClosed }) (fun _ => rfl) h.keys
    · rw [he]
      exact hbelow
    · rw [he] at hy
      rw [hown (m := fun g => { g with state := .brokenClosed }) hy hyk]
      refine ⟨rfl, hacc, ?_⟩
      rw [hg, if_neg (by decide)]
      exact hreason

/-- What changes of entries of another group alone, with no group opened, leaves. -/
theorem Part.Truncated.of_other {j : GroupKey} {m : Group → Group} (h : p.Truncated o k g) (hj : j ≠ k)
    (hm : ∀ x, (m x).key = x.key) (horders : ∀ x ∈ q.link.orders, x ∈ p.link.orders)
    (hgroups : q.groups = (p.mapGroup j m).groups) (hopen : q.planner.openGroup = none)
    (hsheet : ∀ s ∈ q.track.sheets, ∃ x ∈ p.track.sheets, x.group = s.group
      ∧ (x.destination = .purge → s.destination = .purge))
    (hroom : ∀ a ∈ q.stacker.allowances, ∃ b ∈ p.stacker.allowances, b.group = a.group) : q.Truncated o k g := by
  refine ⟨fun x hx => h.orders x (horders x hx), by rw [hopen]; nofun, ?_, ?_, fun x hx hxk => ?_, fun hs =>
    ⟨fun s hm' hsk => ?_, fun a ha hak => ?_⟩⟩
  · unfold Part.KeysApart
    rw [hgroups]
    exact mapGroup_keysApart hm h.keys
  · rw [hgroups]
    exact h.below
  · rw [hgroups] at hx
    exact h.entry x (mem_mapGroup_other hm hx fun e => hj (e.symm.trans hxk)) hxk
  · obtain ⟨x, hx, hxg, hxd⟩ := hsheet s hm'
    exact hxd ((h.gone hs).1 x hx (hxg.trans hsk))
  · obtain ⟨b, hb, hbg⟩ := hroom a ha
    exact (h.gone hs).2 b hb (hbg.trans hak)

/-- A later truncation is of another group. -/
theorem Part.Truncated.truncate (h : p.Truncated o k g) : p.truncate.Truncated o k g := by
  have hsame : ∀ s ∈ p.track.sheets, ∃ x ∈ p.track.sheets, x.group = s.group
      ∧ (x.destination = .purge → s.destination = .purge) := fun s hs => ⟨s, hs, rfl, id⟩
  have hclear : p.clearOpen.Truncated o k g := ⟨h.orders, nofun, h.keys, h.below, h.entry, h.gone⟩
  unfold Part.truncate
  cases hj : p.planner.openGroup with
  | none => exact h
  | some j =>
    have hne : j ≠ k := fun e => h.openGroup (e ▸ hj)
    dsimp only
    cases hx : p.group? j with
    | none => exact hclear
    | some x =>
      dsimp only
      split
      · refine h.of_other (m := fun g => { g with state := .brokenClosed, reason := some .truncated }) hne (fun _ => rfl)
          (fun _ => id) rfl rfl (fun s hs => ?_) fun a ha => ⟨a, (List.mem_filter.1 ha).1, rfl⟩
        obtain ⟨y, hy, rfl⟩ := List.mem_map.1 hs
        refine ⟨y, hy, ?_⟩
        split
        · exact ⟨rfl, fun _ => rfl⟩
        · exact ⟨rfl, id⟩
      · exact h.of_other (m := fun g => { g with state := .brokenClosed }) hne (fun _ => rfl) (fun _ => id) rfl rfl hsame
          fun a ha => ⟨a, ha, rfl⟩
      · exact hclear
      · exact hclear

end
end Sys2Proof.Machine

namespace Sys2Proof.Machine

section
variable {p q : Part} {o : SheetOrder} {f : FirstFields} {k : GroupKey} {g : Group}

/-! ### The FIRST order taken after the truncation (R21, R24) -/

/-- What a new group leaves of the group `k`: no more than entries, records and rooms of other keys come to it. -/
theorem Part.Truncated.added {x : Group} (h : p.Truncated o k g) (hx : x.key = p.groups.nextKey)
    (horders : ∀ y ∈ q.link.orders, y ∈ p.link.orders) (hentries : q.groups.entries = p.groups.entries ++ [x])
    (hnext : q.groups.nextKey = p.groups.nextKey + 1)
    (hopen : q.planner.openGroup = p.planner.openGroup ∨ q.planner.openGroup = some p.groups.nextKey)
    (hsheet : ∀ s ∈ q.track.sheets, s ∈ p.track.sheets ∨ s.group = p.groups.nextKey)
    (hroom : ∀ a ∈ q.stacker.allowances, a ∈ p.stacker.allowances ∨ a.group = p.groups.nextKey) :
    q.Truncated o k g := by
  have hne : p.groups.nextKey ≠ k := Nat.ne_of_gt h.below
  have hmem : ∀ y ∈ q.groups.entries, y ∈ p.groups.entries ∨ y = x := fun y hy => by
    rw [hentries] at hy
    exact (List.mem_append.1 hy).imp id List.mem_singleton.1
  refine ⟨fun y hy => h.orders y (horders y hy), ?_, ⟨?_, fun y hy => ?_⟩, ?_, fun y hy hyk => ?_, fun hs =>
    ⟨fun s hm hsk => ?_, fun a hm hak => ?_⟩⟩
  · rcases hopen with e | e <;> rw [e]
    · exact h.openGroup
    · exact fun e => hne (Option.some.inj e)
  · rw [hentries, List.map_append, List.nodup_append']
    refine ⟨h.keys.1, List.nodup_singleton _, fun y hy hyx => ?_⟩
    obtain ⟨z, hz, rfl⟩ := List.mem_map.1 hy
    have := h.keys.2 z hz
    rw [List.mem_singleton.1 hyx, hx] at this
    exact Nat.lt_irrefl _ this
  · rw [hnext]
    rcases hmem y hy with hy | rfl
    · exact (h.keys.2 y hy).trans (Nat.lt_succ_self _)
    · rw [hx]
      exact Nat.lt_succ_self _
  · rw [hnext]
    exact h.below.trans (Nat.lt_succ_self _)
  · rcases hmem y hy with hy | rfl
    · exact h.entry y hy hyk
    · exact absurd (hx.symm.trans hyk) hne
  · rcases hsheet s hm with hm | e
    · exact (h.gone hs).1 s hm hsk
    · exact absurd (e.symm.trans hsk) hne
  · rcases hroom a hm with hm | e
    · exact (h.gone hs).2 a hm hak
    · exact hne (e.symm.trans hak)

theorem closeIfLast_truncated {j : GroupKey} (x : SheetOrder) (h : p.Truncated o k g) (hj : j ≠ k) :
    (p.closeIfLast x j).Truncated o k g := by
  unfold Part.closeIfLast
  split
  · refine h.of_other (m := fun g => { g with lastTag := some x.tag, state := .closed }) hj (fun _ => rfl) (fun _ => id)
      rfl rfl (fun s hs => ⟨s, hs, rfl, id⟩) fun a ha => ?_
    obtain ⟨b, hb, rfl⟩ := List.mem_map.1 ha
    refine ⟨b, hb, ?_⟩
    split <;> rfl
  · exact h

theorem openGroupWith_truncated (x : SheetOrder) (y : FirstFields) (z : Grant) (h : p.Truncated o k g) :
    (p.openGroupWith x y z).Truncated o k g := by
  obtain ⟨l, hl, hrest⟩ := takeHead_eq p
  rw [openGroupWith_eq, hl]
  have hne : p.groups.nextKey ≠ k := Nat.ne_of_gt h.below
  refine closeIfLast_truncated x ?_ hne
  obtain ⟨hentries, hopen, hrooms⟩ := opened_picked (p := p.linked l) x y z h.keys.2
  have hb := takeIntoPick_bills ((p.linked l).opened x y z) x z.media p.groups.nextKey z.tray
  refine h.added (x := admitted p.groups.nextKey x y z) rfl (fun w hw => ?_) hentries (congrArg (fun v => v.groups.nextKey) hb)
    (.inr hopen) (fun s hs => ?_) fun a ha => ?_
  · rw [(takeIntoPick_link ..).1] at hw
    have hw : w ∈ l.orders := hw
    rw [hrest] at hw
    exact List.mem_of_mem_tail hw
  · have hsheets := congrArg BillView.sheets hb
    rw [show ((p.linked l).opened x y z).takeIntoPick x z.media (p.linked l).groups.nextKey z.tray
      = ((p.linked l).opened x y z).takeIntoPick x z.media p.groups.nextKey z.tray from rfl] at hs
    have hs : s ∈ BillView.sheets (Part.bills (((p.linked l).opened x y z).takeIntoPick x z.media p.groups.nextKey z.tray)) :=
      hs
    rw [hsheets] at hs
    refine (List.mem_append.1 hs).imp id fun hs => ?_
    rw [List.mem_singleton.1 hs]
    rfl
  · rw [hrooms] at ha
    refine (List.mem_append.1 ha).imp id fun ha => ?_
    rw [List.mem_singleton.1 ha]
    rfl

theorem openBroken_truncated (x : SheetOrder) (y : FirstFields) (z : BreakReason) (h : p.Truncated o k g) :
    (p.openBroken x y z).Truncated o k g := by
  obtain ⟨l, hl, hrest⟩ := takeHead_eq p
  have horders : ∀ w ∈ l.orders, w ∈ p.link.orders := fun w hw => List.mem_of_mem_tail (hrest ▸ hw)
  cases hx : x.last with
  | true =>
    rw [openBroken_last y z hx, hl]
    exact h.added (x := unfedGroup p.groups.nextKey x y z .brokenClosed (some x.tag)) rfl horders rfl rfl (.inl rfl)
      (fun _ => .inl) fun _ => .inl
  | false =>
    rw [openBroken_open y z hx, hl]
    exact h.added (x := unfedGroup p.groups.nextKey x y z .brokenOpen none) rfl horders rfl rfl (.inr rfl)
      (fun _ => .inl) fun _ => .inl

/-! ### The cascade -/

/-- No order waits at the head but the FIRST one. -/
theorem Part.Truncated.headOrder_eq (h : p.Truncated o k g) {x : SheetOrder} (hx : p.headOrder = some x) : x = o := by
  obtain ⟨rest, hr⟩ := headOrder_orders hx
  have := h.orders (.order x) (by rw [hr]; exact List.mem_cons_self ..)
  cases this
  rfl

theorem ownGroup_first {x : SheetOrder} (hx : x.first = some f) : p.ownGroup x = none := by
  unfold Part.ownGroup
  rw [hx]
  rfl

/-- The events of the cascade that are of another head record than a FIRST order. -/
theorem Part.Truncated.not_other (h : p.Truncated o k g) (ho : o.first = some f) :
    p.furtherOrderPick = none ∧ p.discardedAsUnfed = none ∧ p.orphanTaken = none ∧ p.stopTaken = none
    ∧ p.purgeTaken = none ∧ p.liveLoadTaken = none ∧ p.lockedLoadTaken = none := by
  have hhead : ∀ {x : Queued} {rest : List Queued}, p.link.orders = x :: rest → x = .order o := fun hr =>
    h.orders _ (by rw [hr]; exact List.mem_cons_self ..)
  have hown : ∀ x, p.headOrder = some x → p.ownGroup x = none := fun x hx =>
    ownGroup_first (f := f) (h.headOrder_eq hx ▸ ho)
  refine ⟨?_, ?_, ?_, ?_, ?_, ?_, ?_⟩
  · unfold Part.furtherOrderPick
    split
    · rfl
    · rename_i x hx
      rw [hown x hx]
  · unfold Part.discardedAsUnfed
    split
    · rfl
    · rename_i x hx
      rw [hown x hx]
  · unfold Part.orphanTaken
    split
    · rfl
    · rename_i x hx
      rw [h.headOrder_eq hx, ho]
      rfl
  · unfold Part.stopTaken
    split
    · rename_i rest hr
      cases hhead hr
    · rfl
  · unfold Part.purgeTaken
    split
    · rename_i rest hr
      cases hhead hr
    · rfl
  · unfold Part.liveLoadTaken
    split
    · rename_i t i b rest hr
      cases hhead hr
    · rfl
  · unfold Part.lockedLoadTaken
    split
    · rename_i t i b rest hr
      cases hhead hr
    · rfl

theorem Part.Truncated.internal (h : p.Truncated o k g) (ho : o.first = some f) (hq : p.internal = some q) :
    q.Truncated o k g := by
  obtain ⟨hpick, hunfed, horphan, hstop, hpurge, hlive, hlocked⟩ := h.not_other ho
  rcases internal_cases hq with
    loaded | drained | runOut | ejected | resolved | freed | truncated | admitted | broken
    | picked | unfed | orphan | stop | purge | live | locked | recovered
  · exact h.apart (pendingLoadApplied_apart loaded)
  · exact h.apart (drainEnd_apart drained)
  · exact h.apart (runoutEnd_apart runOut)
  · exact h.apart (setEjectStart_apart h.keys.1 ejected)
  · exact h.apart (groupResolution_apart h.keys.1 resolved)
  · exact h.apart (stallEnd_apart freed)
  · unfold Part.headTruncation at truncated
    split at truncated
    · split at truncated
      · cases truncated
        exact h.truncate
      · cases truncated
    · cases truncated
  · unfold Part.groupAdmission at admitted
    split at admitted
    · cases admitted
    · split at admitted
      · cases admitted
      · dsimp only at admitted
        split at admitted
        · cases admitted
          exact openGroupWith_truncated _ _ _ h.truncate
        · cases admitted
  · unfold Part.brokenFromStart at broken
    split at broken
    · cases broken
    · split at broken
      · cases broken
      · dsimp only at broken
        split at broken
        · cases broken
          exact openBroken_truncated _ _ _ h.truncate
        · cases broken
  · exact nomatch hpick.symm.trans picked
  · exact nomatch hunfed.symm.trans unfed
  · exact nomatch horphan.symm.trans orphan
  · exact nomatch hstop.symm.trans stop
  · exact nomatch hpurge.symm.trans purge
  · exact nomatch hlive.symm.trans live
  · exact nomatch hlocked.symm.trans locked
  · exact h.apart (recoveryEnd_apart recovered)

/-- A FIRST order at the head with a group open truncates it. -/
theorem Part.Waits.headTruncation (h : p.Waits o k g) (ho : o.first = some f) : p.headTruncation = some p.truncate := by
  unfold Part.headTruncation
  rw [headOrder_eq h.orders h.examines]
  dsimp only
  rw [ho, h.openGroup]
  rfl

/-- What comes before a truncation at the head, and the truncation. -/
theorem internal_of_headTruncation {r : Part} (h : p.headTruncation = some r) (hq : p.internal = some q) :
    p.pendingLoadApplied = some q ∨ p.drainEnd = some q ∨ p.runoutEnd = some q ∨ p.setEjectStart = some q
    ∨ p.groupResolution = some q ∨ p.stallEnd = some q ∨ q = r := by
  unfold Part.internal at hq
  simp only [Option.orElse_eq_orElse, Option.orElse_eq_or, h, Option.some_or, Option.or_eq_some_iff, Option.some_inj] at hq
  tauto

theorem Part.Waits.internal (h : p.Waits o k g) (ho : o.first = some f) (hs : g.state.closedState = false)
    (hq : p.internal = some q) : q.Waits o k g ∨ q.Truncated o k g := by
  rcases internal_of_headTruncation (h.headTruncation ho) hq with
    loaded | drained | runOut | ejected | resolved | freed | rfl
  · exact .inl (h.apart hs (pendingLoadApplied_apart loaded))
  · exact .inl (h.apart hs (drainEnd_apart drained))
  · exact .inl (h.apart hs (runoutEnd_apart runOut))
  · exact .inl (h.apart hs (setEjectStart_apart h.keys.1 ejected))
  · exact .inl (h.apart hs (groupResolution_apart h.keys.1 resolved))
  · exact .inl (h.apart hs (stallEnd_apart freed))
  · exact .inr (h.truncated hs)

/-- The cascade does not end before the truncation. -/
theorem Part.Waits.settle (h : p.Waits o k g) (ho : o.first = some f) (hs : g.state.closedState = false) :
    p.settle.Truncated o k g := by
  have hsettle : p.settle.Waits o k g ∨ p.settle.Truncated o k g :=
    settleIn_keeps (I := fun x => x.Waits o k g ∨ x.Truncated o k g)
      (fun x y hx hy => hx.elim (fun hx => hx.internal ho hs hy) fun hx => .inr (hx.internal ho hy)) p.fuel p (.inl h)
  refine hsettle.resolve_left fun hw => ?_
  obtain ⟨-, -, -, -, -, -, hnone, -⟩ := (internal_eq_none_iff p.settle).1 (settle_internal p)
  exact nomatch hnone.symm.trans (hw.headTruncation ho)

/-! ### STOP, PURGE and a FIRST order (R20, R37, R38, R155, R157) -/

theorem enqueue_empty {x : Queued} (h : p.link.orders = []) :
    p.enqueue x = { p with link := { p.link with orders := [x] } } := by
  unfold Part.enqueue
  rw [h]
  rfl

theorem stop_taken {s : State} {rest : List Queued} (horders : s.link.orders = .stop :: rest)
    (hstate : s.ctl.state = .running ∨ s.ctl.state = .draining ∨ s.ctl.state = .standby ∨ s.ctl.state = .runout
      ∨ s.ctl.state = .safe) :
    ∃ q, exec .stopTaken s = .next (s.after q) ∧ s.toPart.start.StoppedAs q
      ∧ (s.ctl.state = .running → q.ctl = { s.ctl with state := .draining, drainReason := some .stop }
          ∧ ∀ t, q.feeders.get t = { s.feeders.get t with deadline := none })
      ∧ (s.ctl.state = .draining → q.ctl = { s.ctl with
          drainReason := if s.ctl.drainReason = some .load then some .stop else s.ctl.drainReason })
      ∧ (s.ctl.state = .standby ∨ s.ctl.state = .runout ∨ s.ctl.state = .safe → q.ctl = s.ctl) := by
  have hstopped := takeHead_truncate_stoppedAs s.toPart.start
  have hctl : s.toPart.start.takeHead.truncate.ctl = s.ctl := (truncate_ctl _).trans (takeHead_ctl _)
  have hfeeders : s.toPart.start.takeHead.truncate.feeders = s.feeders := by
    obtain ⟨l, hl, -⟩ := takeHead_eq s.toPart.start
    rw [truncate_feeders, hl]
    rfl
  by_cases hr : s.ctl.state = .running
  · have hevent := stopTaken_running (p := s.toPart.start) horders hr
    refine ⟨s.toPart.start.takeHead.truncate.enterDraining .stop, by rw [exec_stopTaken, attempt_some hevent],
      hstopped.congr rfl rfl rfl rfl, fun _ => ⟨?_, fun t => ?_⟩, fun e => ?_, fun e => ?_⟩
    · rw [← hctl]
      rfl
    · refine (PerTray.get_map ..).trans ?_
      rw [← hfeeders]
      rfl
    · rw [hr] at e
      cases e
    · rw [hr] at e
      simp at e
  · by_cases hd : s.ctl.state = .draining
    · have hevent := stopTaken_draining (p := s.toPart.start) horders hd
      refine ⟨{ s.toPart.start.takeHead.truncate with ctl := { s.toPart.start.takeHead.truncate.ctl with
          drainReason := if s.ctl.drainReason = some .load then some .stop else s.ctl.drainReason } },
        by rw [exec_stopTaken, attempt_some hevent]; rfl, hstopped.congr rfl rfl rfl rfl, fun e => absurd e hr,
        fun _ => ?_, fun e => ?_⟩
      · rw [hctl]
      · rw [hd] at e
        simp at e
    · have hstill := (hstate.resolve_left hr).resolve_left hd
      exact ⟨_, by rw [exec_stopTaken, attempt_some (stopTaken_still (p := s.toPart.start) horders hstill)],
        hstopped, fun e => absurd e hr, fun e => absurd e hd, fun _ => hctl⟩

theorem purge_taken {s : State} {rest : List Queued} (horders : s.link.orders = .purge :: rest)
    (hexamines : s.ctl.state.examines = true) :
    ∃ q, exec .purgeTaken s = .next (s.after q) ∧ q.link.orders = rest ∧ q.ctl = s.ctl
      ∧ (∀ g, s.openGroup? = some g → g.state = .admitting → g.accepted < 64 →
          q.group? g.key = some { g with state := .brokenOpen, reason := some .purged }
          ∧ q.planner = s.planner
          ∧ ∀ x ∈ q.track.sheets, x.group = g.key → x.destination = .purge)
      ∧ ((∀ g, s.openGroup? = some g → g.state.broken = true) → q.groups = s.groups ∧ q.track = s.track) := by
  have hevent := purgeTaken_eq (p := s.toPart.start) horders hexamines
  obtain ⟨l, hl, hrest⟩ := takeHead_eq s.toPart.start
  rw [hl] at hevent
  have hleaves := breakOpen_leaves (s.toPart.start.linked l) .purged
  refine ⟨_, by rw [exec_purgeTaken, attempt_some hevent], ?_, hleaves.ctl, fun g hg hs ha => ⟨?_, ?_⟩, fun hb => ?_⟩
  · rw [hleaves.link]
    exact hrest.trans (congrArg List.tail horders)
  · exact breakOpen_admitting (s.toPart.start.linked l) .purged hg hs ha
  · exact breakOpen_purges (p := s.toPart.start.linked l) .purged hg hs ha
  · rw [breakOpen_broken (p := s.toPart.start.linked l) .purged hb]
    exact ⟨rfl, rfl⟩

/-- A FIRST order received behind an open group, in a state that examines it. -/
theorem enqueued_waits {s : State} (horders : s.link.orders = []) (hexamines : s.ctl.state.examines = true)
    (hopen : s.planner.openGroup = some k) (hg : s.group? k = some g) (hagree : s.GroupsAgree) :
    (s.toPart.start.toHunt.enqueue (.order o)).Waits o k g ∧ g.state.closedState = false := by
  obtain ⟨hkeys, hbelow, hiff, -⟩ := hagree
  have hm := mem_of_group? hg
  have hgk := group?_key hg
  rw [enqueue_empty (p := s.toPart.start.toHunt) horders]
  exact ⟨⟨rfl, hexamines, hopen, ⟨hkeys.imp Nat.ne_of_lt, fun x hx => (hbelow x hx).1⟩, g, hm, hgk, rfl, rfl, rfl⟩,
    (hiff g hm).2 (hgk ▸ hopen)⟩

/-- The end of an event leaves the bills as the cascade left them. -/
theorem close_same (p : Part) : p.close.planner.openGroup = p.settle.planner.openGroup
    ∧ p.close.groups = p.settle.groups ∧ p.close.track.sheets = p.settle.track.sheets
    ∧ p.close.stacker.allowances = p.settle.stacker.allowances := by
  have hb : p.close.bills = p.settle.bills := finish_bills p.settle
  exact ⟨congrArg BillView.openGroup hb, congrArg BillView.groups hb, congrArg BillView.sheets hb,
    congrArg BillView.allowances hb⟩

/-- Settles O42: a STOP truncates and drains, a PURGE breaks, and a FIRST order's truncation lasts through the cascade. -/
theorem stopAndPurgeAreTaken : Obligations.StopAndPurgeAreTaken := by
  refine ⟨fun s rest => ⟨fun horders hstate => ?_, purge_taken⟩, fun s o f k g horders ho hexamines hopen hg hagree => ?_⟩
  · obtain ⟨q, hexec, ⟨hrest, hnone, hadmitting, hbroken⟩, hctl⟩ := stop_taken horders hstate
    exact ⟨q, hexec, hrest.trans (congrArg List.tail horders), hnone, hadmitting, hbroken, hctl⟩
  · obtain ⟨hwaits, hs⟩ := enqueued_waits (o := o) horders hexamines hopen hg hagree
    obtain ⟨-, hclosed, -, -, hentry, hgone⟩ := hwaits.settle ho hs
    obtain ⟨hopen, hgroups, hsheets, hrooms⟩ := close_same (s.toPart.start.toHunt.enqueue (.order o))
    refine ⟨_, exec_ownEffect (.sheetOrder o) s, fun e => hclosed (hopen.symm.trans e), fun h hh => hentry h ?_,
      fun ha => ⟨fun x hx => (hgone ha).1 x ?_, fun a hm => (hgone ha).2 a ?_⟩⟩
    · exact hgroups ▸ hh
    · exact hsheets ▸ hx
    · exact hrooms ▸ hm

end
end Sys2Proof.Machine

namespace Sys2Proof.Machine

section
variable {p : Part}

/-! ### The LOAD RESULT (R179, R184) -/

/-- A LOAD dealt with changes the Stream Link alone. -/
theorem loadResult_linked (p : Part) (t : TableId) (c : Option LoadCause) :
    ∃ l, p.loadResult t c = p.linked l ∧ l.orders = p.link.orders.tail
      ∧ (p.link.taken < 31 → l.reports = p.link.reports ++ [.loadResult t c]) := by
  obtain ⟨l, hl, horders⟩ := takeHead_eq (p.appendReport (.loadResult t c))
  have hres : p.loadResult t c = p.linked l := hl
  refine ⟨l, hres, horders, fun ht => ?_⟩
  rw [loadResult_below p t c ht] at hres
  exact (congrArg (fun q : Part => q.link.reports) hres).symm

/-- A LOAD of a live table at the head, a report place being free and none held. -/
theorem liveLoadTaken_eq {t : TableId} {first : Nat} {body : List Byte} {rest : List Queued}
    (ho : p.link.orders = .load t first body :: rest) (hl : TableId.live t = true) (hr : p.link.reports.length < 64)
    (hh : p.anyHeld = false) :
    p.liveLoadTaken = some ((p.liveLoad t first body).1.loadResult t (p.liveLoad t first body).2) := by
  unfold Part.liveLoadTaken Part.loadRoom
  rw [ho]
  dsimp only
  rw [hl, hh, (reportRoom_iff p).2 hr]
  rfl

/-! ### The candidates (R26, R140) -/

theorem checkRouting_extent {first : Nat} {run : List RoutingEntry} (h : run.length = 0 ∨ 32 < first + run.length) :
    p.checkRouting first run = .error .extent := by
  unfold Part.checkRouting candidate
  rw [if_pos h]
  rfl

theorem checkRouting_within {first : Nat} {run : List RoutingEntry} (hpos : 0 < run.length)
    (hend : first + run.length ≤ 32) :
    p.checkRouting first run
      = if run.all fun e => decide (e.bin ≤ 7) && decide (e.jog ≤ 1) then .ok (overlay p.tables.routing first run)
        else .error .range := by
  unfold Part.checkRouting candidate
  rw [if_neg (by omega)]
  rfl

theorem checkRouting_range {first : Nat} {run : List RoutingEntry} (hpos : 0 < run.length)
    (hend : first + run.length ≤ 32) (h : ∃ e ∈ run, 7 < e.bin ∨ 1 < e.jog) :
    p.checkRouting first run = .error .range := by
  obtain ⟨e, he, hbad⟩ := h
  rw [checkRouting_within hpos hend, if_neg]
  intro hall
  have hgood := List.all_eq_true.1 hall e he
  simp only [Bool.and_eq_true, decide_eq_true_eq] at hgood
  omega

theorem checkRouting_passes {first : Nat} {run : List RoutingEntry} (hpos : 0 < run.length)
    (hend : first + run.length ≤ 32) (h : ∀ e ∈ run, e.bin ≤ 7 ∧ e.jog ≤ 1) :
    p.checkRouting first run = .ok (overlay p.tables.routing first run) := by
  rw [checkRouting_within hpos hend, if_pos]
  refine List.all_eq_true.2 fun e he => ?_
  simp only [Bool.and_eq_true, decide_eq_true_eq]
  exact h e he

theorem inRange_logical (a b : Nat) : BinMapEntry.inRange (.logical a b) = true ↔ 1 ≤ a ∧ a ≤ 6 ∧ b ≤ 6 := by
  simp only [BinMapEntry.inRange, Bool.and_eq_true, decide_eq_true_eq, and_assoc]

theorem inRange_physical (a b : Nat) : BinMapEntry.inRange (.physical a b) = true ↔ 1 ≤ a ∧ a ≤ 4000 ∧ b ≤ 1 := by
  simp only [BinMapEntry.inRange, Bool.and_eq_true, decide_eq_true_eq, and_assoc]

theorem inRange_purge (a : Nat) : BinMapEntry.inRange (.purge a) = true ↔ 1 ≤ a ∧ a ≤ 1000 := by
  simp only [BinMapEntry.inRange, Bool.and_eq_true, decide_eq_true_eq]

theorem noConflict_logical (a b : Nat) : BinMapEntry.noConflict (.logical a b) = true ↔ a ≠ b := by
  simp only [BinMapEntry.noConflict, Bool.not_eq_true', beq_eq_false_iff_ne]

theorem BinId.mem_list (b : BinId) : b ∈ BinId.list := by
  cases b <;> decide

theorem capacitiesCover_iff (p : Part) (c : List BinMapEntry) : p.capacitiesCover c = true ↔
    (∀ b, (p.stacker.bins.get b).stacked + p.reservedIn b ≤ (p.withBinMap c).capacity b)
    ∧ p.stacker.purgeStacked + p.track.sheets.length + p.acc.sheets.length ≤ (p.withBinMap c).purgeCapacity := by
  unfold Part.capacitiesCover Part.sheetsInPart
  rw [Bool.and_eq_true, List.all_eq_true, decide_eq_true_iff, Nat.add_assoc]
  simp only [decide_eq_true_eq, BinId.mem_list, forall_const]

theorem checkBinMap_judged (p : Part) (first : Nat) (run : List BinMapEntry) :
    Judged 15 (p.tables.binMap.map BinMap.entries) first run (fun c => ∀ e ∈ c, e.inRange = true)
      (fun c => ∀ e ∈ c, e.noConflict = true)
      (fun c => (∀ b, (p.stacker.bins.get b).stacked + p.reservedIn b ≤ (p.withBinMap c).capacity b)
        ∧ p.stacker.purgeStacked + p.track.sheets.length + p.acc.sheets.length ≤ (p.withBinMap c).purgeCapacity)
      (p.checkBinMap first run) :=
  (alsoCheck_judged 15 (p.tables.binMap.map BinMap.entries) first run _ _ _).congr _ _ _ _
    (fun _ => List.all_eq_true) (fun _ => List.all_eq_true) (capacitiesCover_iff p)

/-! ### The bins formed again (R141) -/

/-- A bin changed by `f` and formed against its capacity. -/
def Part.reformed (p : Part) (f : BinId → Bin → Bin) (b : BinId) : Bin :=
  { f b (p.stacker.bins.get b) with state := (f b (p.stacker.bins.get b)).formed (p.capacity b) }

/-- What a change of the bins leaves as it was. -/
structure BinsLeave (p q : Part) : Prop where
  ctl : q.ctl = p.ctl
  tables : q.tables = p.tables
  allowances : q.stacker.allowances = p.stacker.allowances

theorem BinsLeave.trans {q r : Part} (h : BinsLeave p q) (h' : BinsLeave q r) : BinsLeave p r :=
  ⟨h'.ctl.trans h.ctl, h'.tables.trans h.tables, h'.allowances.trans h.allowances⟩

theorem setBin_leaves (p : Part) (b : BinId) (x : Bin) : BinsLeave p (p.setBin b x) := by
  rw [setBin_eq]
  exact ⟨rfl, rfl, rfl⟩

theorem setBin_get (p : Part) (b c : BinId) (x : Bin) : (p.setBin b x).stacker.bins.get c
    = if c = b then { x with state := x.formed (p.capacity b) } else p.stacker.bins.get c := by
  rw [setBin_eq]
  exact PerBin.get_set ..

theorem capacity_congr {q : Part} (h : q.tables = p.tables) : q.capacity = p.capacity := by
  funext b
  unfold Part.capacity
  rw [h]

theorem reformed_congr {q : Part} (f : BinId → Bin → Bin) {b : BinId} (ht : q.tables = p.tables)
    (hb : q.stacker.bins.get b = p.stacker.bins.get b) : q.reformed f b = p.reformed f b := by
  unfold Part.reformed
  rw [capacity_congr ht, hb]

/-- Each bin of the list is formed again once, and no other bin is changed. -/
theorem reformAll_get (f : BinId → Bin → Bin) (l : List BinId) (hl : l.Nodup) (p : Part) :
    BinsLeave p (l.foldl (fun q b => q.setBin b (f b (q.stacker.bins.get b))) p)
    ∧ ∀ b, (l.foldl (fun q b => q.setBin b (f b (q.stacker.bins.get b))) p).stacker.bins.get b
      = if b ∈ l then p.reformed f b else p.stacker.bins.get b := by
  induction l generalizing p with
  | nil => exact ⟨⟨rfl, rfl, rfl⟩, fun b => (if_neg List.not_mem_nil).symm⟩
  | cons c l ih =>
    obtain ⟨hc, hl⟩ := List.nodup_cons.1 hl
    have hset := setBin_leaves p c (f c (p.stacker.bins.get c))
    have hget : ∀ b, _ := fun b => setBin_get p c b (f c (p.stacker.bins.get c))
    rw [List.foldl_cons]
    generalize p.setBin c (f c (p.stacker.bins.get c)) = q at hset hget
    obtain ⟨hleave, hrest⟩ := ih hl q
    refine ⟨hset.trans hleave, fun b => (hrest b).trans ?_⟩
    by_cases hb : b = c
    · subst hb
      rw [if_neg hc, if_pos List.mem_cons_self, hget, if_pos rfl]
      rfl
    · have hsame : q.stacker.bins.get b = p.stacker.bins.get b := (hget b).trans (if_neg hb)
      rw [reformed_congr f hset.tables hsame, hsame]
      simp only [List.mem_cons, hb, false_or]

theorem reformBins_get (p : Part) (f : BinId → Bin → Bin) (b : BinId) :
    (p.reformBins f).stacker.bins.get b = p.reformed f b := by
  unfold Part.reformBins
  rw [(reformAll_get f BinId.list (by decide) p).2 b, if_pos (BinId.mem_list b)]

theorem reformBins_leaves (p : Part) (f : BinId → Bin → Bin) : BinsLeave p (p.reformBins f) := by
  unfold Part.reformBins
  exact (reformAll_get f BinId.list (by decide) p).1

/-! ### Release modes (R141) -/

/-- What a release mode taken from `old` to `new` makes of a bin: the three cases of R141. -/
theorem underMode_cases (x : Bin) (old : Option ReleaseMode) (new : ReleaseMode) :
    (old = some .onNotice ∧ new = .onDoor → x.doorOpen = true → x.underMode old new = { x with remembered := false })
    ∧ (old = some .onNotice ∧ new = .onDoor → x.doorOpen = false → x.hold = true →
        x.underMode old new = { x with hold := false, stacked := 0 })
    ∧ (¬ (old = some .onNotice ∧ new = .onDoor) ∨ (x.doorOpen = false ∧ x.hold = false) → x.underMode old new = x) := by
  unfold Bin.underMode
  refine ⟨fun hends hdoor => ?_, fun hends hdoor hhold => ?_, fun h => ?_⟩
  · rw [if_pos hends, if_pos hdoor]
  · rw [if_pos hends, if_neg (Bool.eq_false_iff.1 hdoor), if_pos hhold]
  · rcases h with hends | ⟨hdoor, hhold⟩
    · rw [if_neg hends]
    · rw [if_neg (Bool.eq_false_iff.1 hdoor), if_neg (Bool.eq_false_iff.1 hhold), ite_self]

theorem releaseMode_iff (p : Part) (b : BinId) (m : ReleaseMode) :
    p.releaseMode? b = some m ↔ ∃ t, p.tables.binMap = some t ∧ t.mode b = m := Option.map_eq_some_iff

theorem applyBinMap_leaves (p : Part) (c : List BinMapEntry) : BinsLeave (p.withBinMap c) (p.applyBinMap c) := by
  unfold Part.applyBinMap
  exact reformBins_leaves _ _

theorem applyBinMap_get (p : Part) (c : List BinMapEntry) (b : BinId) :
    (p.applyBinMap c).stacker.bins.get b
      = (p.withBinMap c).reformed (fun b x => x.underMode (p.releaseMode? b) (BinMap.mode ⟨c⟩ b)) b := by
  unfold Part.applyBinMap
  exact reformBins_get _ _ b

/-! ### A live load (R181, R184) -/

theorem liveLoad_ctl (p : Part) (t : TableId) (first : Nat) (body : List Byte) :
    (p.liveLoad t first body).1.ctl = p.ctl := by
  rcases liveLoad_cases p t first body with h | ⟨c, -, h⟩ | ⟨c, -, h⟩ <;> rw [h]
  · rfl
  · exact (applyBinMap_leaves p c).ctl

theorem liveLoad_routing_passes {first : Nat} {body : List Byte} {c : List RoutingEntry}
    (h : p.checkRouting first (routingEntries body) = .ok c) :
    p.liveLoad .routing first body = (p.applyRouting c, none) := by
  simp only [Part.liveLoad, h]

theorem liveLoad_routing_refused {first : Nat} {body : List Byte} {e : LoadCause}
    (h : p.checkRouting first (routingEntries body) = .error e) : p.liveLoad .routing first body = (p, some e) := by
  simp only [Part.liveLoad, h]

theorem liveLoad_binMap_passes {first : Nat} {body : List Byte} {c : List BinMapEntry}
    (h : p.checkBinMap first (binMapEntries first body) = .ok c) :
    p.liveLoad .binMap first body = (p.applyBinMap c, none) := by
  simp only [Part.liveLoad, h]

theorem liveLoad_binMap_refused {first : Nat} {body : List Byte} {e : LoadCause}
    (h : p.checkBinMap first (binMapEntries first body) = .error e) :
    p.liveLoad .binMap first body = (p, some e) := by
  simp only [Part.liveLoad, h]

/-- A load of the Routing Table leaves the stacker as it was. -/
theorem liveLoad_routing_stacker (p : Part) (first : Nat) (body : List Byte) :
    (p.liveLoad .routing first body).1.stacker = p.stacker := by
  cases h : p.checkRouting first (routingEntries body) with
  | ok c => rw [liveLoad_routing_passes h]; rfl
  | error e => rw [liveLoad_routing_refused h]

/-- A live load at the head is applied or refused, and a LOAD RESULT goes with its place (R184). -/
theorem liveLoad_taken (s : State) {t : TableId} {first : Nat} {body : List Byte} {rest : List Queued}
    (ho : s.link.orders = .load t first body :: rest) (hl : TableId.live t = true) (hr : s.link.reports.length < 64)
    (hh : s.anyHeld = false) :
    ∃ l, exec .liveLoadTaken s = .next (s.after ((s.toPart.start.liveLoad t first body).1.linked l))
      ∧ l.orders = rest
      ∧ (s.link.taken < 31 →
          l.reports = s.link.reports ++ [.loadResult t (s.toPart.start.liveLoad t first body).2]) := by
  have hevent := liveLoadTaken_eq (p := s.toPart.start) ho hl hr hh
  have hlink := liveLoad_link s.toPart.start t first body
  obtain ⟨l, heq, horders, hreports⟩ := loadResult_linked (s.toPart.start.liveLoad t first body).1 t
    (s.toPart.start.liveLoad t first body).2
  rw [hlink] at horders hreports
  refine ⟨l, ?_, horders.trans (congrArg List.tail ho), hreports⟩
  rw [exec_liveLoadTaken, attempt_some hevent, heq]

/-- Settles O43: a load of each table by the outcomes of its check, with what the bins become bin by bin. -/
theorem liveLoadsTakeEffectAtOnce : Obligations.LiveLoadsTakeEffectAtOnce := by
  intro s first body rest hr hh
  refine ⟨fun ho => ?routing, fun ho => ?binMap, checkBinMap_judged s.toPart first _, fun a b =>
    ⟨inRange_logical a b, inRange_physical a b, inRange_purge a, noConflict_logical a b, rfl, rfl⟩⟩
  case routing =>
    obtain ⟨l, hexec, horders, hreports⟩ := liveLoad_taken s ho rfl hr hh
    refine ⟨(s.toPart.start.liveLoad .routing first body).1.linked l, hexec, horders,
      liveLoad_ctl s.toPart.start .routing first body, liveLoad_routing_stacker s.toPart.start first body,
      fun hextent => ?_, fun hpos hend hbad => ?_, fun hpos hend hgood => ?_⟩
    · have hload := liveLoad_routing_refused (p := s.toPart.start) (checkRouting_extent hextent)
      rw [hload] at hreports ⊢
      exact ⟨rfl, hreports⟩
    · have hload := liveLoad_routing_refused (p := s.toPart.start) (checkRouting_range hpos hend hbad)
      rw [hload] at hreports ⊢
      exact ⟨rfl, hreports⟩
    · have hload := liveLoad_routing_passes (p := s.toPart.start) (checkRouting_passes hpos hend hgood)
      rw [hload] at hreports ⊢
      exact ⟨rfl, hreports⟩
  case binMap =>
    obtain ⟨l, hexec, horders, hreports⟩ := liveLoad_taken s ho rfl hr hh
    refine ⟨(s.toPart.start.liveLoad .binMap first body).1.linked l, hexec, horders,
      liveLoad_ctl s.toPart.start .binMap first body, fun e he => ?_, fun c hc => ?_⟩
    · rw [liveLoad_binMap_refused (p := s.toPart.start) he] at hreports ⊢
      exact ⟨rfl, rfl, hreports⟩
    · rw [liveLoad_binMap_passes (p := s.toPart.start) hc] at hreports ⊢
      obtain ⟨-, htables, hallow⟩ := applyBinMap_leaves s.toPart.start c
      have hbins := applyBinMap_get s.toPart.start c
      generalize s.toPart.start.applyBinMap c = r at htables hallow hbins hreports
      refine ⟨htables, hallow,
        fun b => ⟨(s.stacker.bins.get b).underMode (s.releaseMode? b) (BinMap.mode ⟨c⟩ b), ?_, ?_⟩, hreports⟩
      · have hcases := underMode_cases (s.stacker.bins.get b) (s.releaseMode? b) (BinMap.mode ⟨c⟩ b)
        rw [releaseMode_iff] at hcases
        exact hcases
      · refine (hbins b).trans ?_
        unfold Part.reformed
        rw [← capacity_congr htables]
        rfl

end

end Sys2Proof.Machine
